-- ==== Sys2Proof/Word.lean ====
section
/-! DEFINITION. The byte type, the byte order of the link (R195) and the fixed-length tables every block keeps.
Nothing here is particular to one block. -/

namespace Sys2Proof

/-- One byte of a frame or of the retained image. -/
abbrev Byte := BitVec 8

/-- A byte with the value of `n` modulo 256. -/
def byteOf (n : Nat) : Byte := BitVec.ofNat 8 n

/-- Two bytes, most significant first (R195). -/
def be16 (n : Nat) : List Byte := [byteOf (n / 256), byteOf n]

/-- Three bytes, most significant first (R195). -/
def be24 (n : Nat) : List Byte := [byteOf (n / 65536), byteOf (n / 256), byteOf n]

/-- The two's complement of `t` in 16 bits, most significant byte first (R195). -/
def beInt16 (t : Int) : List Byte := be16 (t % 65536).toNat

/-- The two's complement of `t` in 24 bits, most significant byte first (R195). -/
def beInt24 (t : Int) : List Byte := be24 (t % 16777216).toNat

/-- The unsigned 16-bit number of two bytes, the first most significant. -/
def rd16 (hi lo : Byte) : Nat := hi.toNat * 256 + lo.toNat

/-- The signed 16-bit number of two bytes, the first most significant. -/
def rdInt16 (hi lo : Byte) : Int :=
  if rd16 hi lo < 32768 then (rd16 hi lo : Int) else (rd16 hi lo : Int) - 65536

/-- The table whose entry at `i` is `f i`. -/
abbrev tab {α : Type} {n : Nat} (f : Fin n → α) : Vector α n := Vector.ofFn f

/-- The table `v` with its entry at `i` replaced by `f` of that entry. -/
def upd {α : Type} {n : Nat} (v : Vector α n) (i : Fin n) (f : α → α) : Vector α n :=
  v.set i (f v[i])

/-- Whether some entry of `v` satisfies `p`. -/
def someEntry {α : Type} {n : Nat} (v : Vector α n) (p : α → Bool) : Bool := v.toList.any p

/-- The indexes whose entry satisfies `p`, ascending. -/
def indexesWhere {n : Nat} (p : Fin n → Bool) : List (Fin n) := (List.finRange n).filter p

/-- `n + k`, stopping at `cap` (a count said to saturate). -/
def satAdd (cap n k : Nat) : Nat := min cap (n + k)

/-- `t` clamped to `lo..hi`. -/
def clampInt (lo hi t : Int) : Int := if t < lo then lo else if t > hi then hi else t

end Sys2Proof
end

