-- ==== Sys2Proof/Syntax.lean ====
section
/-! DEFINITION. The commands: one constructor per row of spec/opcode_table.json, with the row's operands.
The table gives no operand fields, so each operand is the data the row's rule takes from outside the part
(log entry 3). A request carries the TAG and the payload bytes of its frame (R168, R197). -/

namespace Sys2Proof

/-- The commands and events the part takes, in the table's order. -/
inductive Instr where
  /-- R193. The auxiliary supply becomes good; `rate` is the RATE strap as sampled (true: high, 57 600 baud). -/
  | partPowerOn (rate : Bool)
  /-- R192. Loss of the auxiliary supply. -/
  | partPowerOff
  /-- R1. One conversion instant with the raw codes of S0..S3. -/
  | conversionInstant (c0 c1 c2 c3 : BitVec 12)
  /-- R4. The suspect timer of one sensor reaches 80. -/
  | suspectTimerExpiry (sensor : Fin 4)
  /-- R38. The 600th set of a filter window. -/
  | filterWindowEnd
  /-- R19. A heater period start; `p0 p1 p2` are the largest currents, in mA, sensed on ISNS0..ISNS2 in the
  on-time after blanking of the period now ended (R26). -/
  | periodStart (p0 p1 p2 : Nat)
  /-- R22. Current of `current` mA sensed on one channel after blanking. -/
  | heaterTrip (ch : Fin 3) (current : Nat)
  /-- R36. A tachometer pulse on FAN_TACH. -/
  | fanTachPulse
  /-- R36. The stall timer reaches 200 ticks. -/
  | stallTimerExpiry
  /-- R66. A high MAIN_PG sample. -/
  | mainPgHigh
  /-- R74. A low MAIN_PG sample. -/
  | powerGoodLoss
  /-- R66. The power-good timer expires. -/
  | pgTimeout
  /-- R79. The reset pulse timer expires. -/
  | resetPulseExpiry
  /-- R68. The boot timer expires. -/
  | bootTimeout
  /-- R69. A taken HEARTBEAT request. -/
  | heartbeat (tag : Byte) (payload : List Byte)
  /-- R71, R72. The heartbeat timer expires. -/
  | heartbeatExpiry
  /-- R70. The run timer reaches the stable time. -/
  | stableTimeReached
  /-- R80. The cycle timer expires. -/
  | cycleTimerExpiry
  /-- R81. A taken POWER REQUEST. -/
  | powerRequest (tag : Byte) (payload : List Byte)
  /-- R82. The pending shutdown expires. -/
  | pendingShutdownExpiry
  /-- R84. The lockout retry timer expires. -/
  | lockoutRetryExpiry
  /-- R95. A taken HISTORY READ. -/
  | historyRead (tag : Byte) (payload : List Byte)
  /-- R97. A taken HISTORY MARK. -/
  | historyMark (tag : Byte) (payload : List Byte)
  /-- R98. A taken HISTORY CLEAR. -/
  | historyClear (tag : Byte) (payload : List Byte)
  /-- R105. A scan instant; entry `k` is the raw count of channel index `k` (0..19 keys, 20 and 21 references). -/
  | scan (raw : Vector (BitVec 16) 22)
  /-- R115. The stuck timer of one key channel reaches 6000 ticks and is judged at the first scan from then on. -/
  | stuckTimerExpiry (key : Fin 20)
  /-- R119. A taken TOUCH READ. -/
  | touchRead (tag : Byte) (payload : List Byte)
  /-- R132. The repeat timer of one key channel falls due. -/
  | repeatDue (key : Fin 20)
  /-- R135. The hold timer of one chord reaches its hold time. -/
  | chordFire (chord : Fin 8)
  /-- R144. A taken PANEL SET. -/
  | panelSet (tag : Byte) (payload : List Byte)
  /-- R163. A taken FAULT READ. -/
  | faultRead (tag : Byte) (payload : List Byte)
  /-- R164. A taken FAULT CLEAR. -/
  | faultClear (tag : Byte) (payload : List Byte)
  /-- R169. A LEN byte outside 2..65 where LEN is expected. -/
  | badLengthByte (len : Byte)
  /-- R170. A bad character or a break on RXD. -/
  | badCharacter
  /-- R170. More than four character times without a character inside a frame. -/
  | gapTimeout
  /-- R170. A completed frame whose CRC does not match. -/
  | crcMismatch
  /-- R171. The line has been idle for three character times. -/
  | resyncIdle
  /-- R172. A request completed while the reply buffer is occupied. -/
  | overrun
  /-- R174. A taken request of unknown KIND. -/
  | unknownKind (kind tag : Byte) (payload : List Byte)
  /-- R175. The transmitter finishes a frame. -/
  | txFrameEnd
  /-- R177. A taken IDENT. -/
  | ident (tag : Byte) (payload : List Byte)
  /-- R178. A taken STATUS READ. -/
  | statusRead (tag : Byte) (payload : List Byte)
  /-- R182. A taken TABLE READ. -/
  | tableRead (tag : Byte) (payload : List Byte)
  /-- R184. A taken TABLE WRITE. -/
  | tableWrite (tag : Byte) (payload : List Byte)
  /-- R185. A taken TABLE INVALIDATE. -/
  | tableInvalidate (tag : Byte) (payload : List Byte)
  /-- R186. A taken TABLE LOCK. -/
  | tableLock (tag : Byte) (payload : List Byte)
  /-- R190. A taken STORE SAVE. -/
  | storeSave (tag : Byte) (payload : List Byte)
  /-- R191. The end of writing; `verified` says whether the image read back equals the snapshot. -/
  | saveCompletion (verified : Bool)
  /-- R169, R170. A good character on RXD. -/
  | goodCharacter (char : Byte)
  /-- R19. The on-time of one heater channel ends. -/
  | heaterOnTimeEnd (ch : Fin 3)
  deriving DecidableEq, Repr

end Sys2Proof
end

