-- ==== Sys2Proof/Decode.lean ====
section
/-! DEFINITION. The table's words. No row of spec/opcode_table.json gives bits ("fixed" and "fields" are absent from
all fifty), so no word spells a command by the table: the part's commands are events and framed requests, and the
bytes of a frame become a request in Machine/Link.lean (R169 to R173). -/

namespace Sys2Proof

/-- The command that a word of `nbits` bits spells by the table's bits: none, as no row gives any. -/
def decodeTableWord (_nbits _w : Nat) : Option Instr := none

end Sys2Proof
end

