-- ==== Sys2Proof/Config.lean ====
section
/-! DEFINITION. What the part fixes once and for all: the codes and sizes the spec gives as constants.
The spec leaves no value open that an instruction computes, so there is no free value here (NOTES.md, '## Scope'). -/

namespace Sys2Proof.Config

/-- The vendor code of IDENT (R177). -/
def vendorCode : Nat := 0x43

/-- The part code of IDENT (R177). -/
def partCode : Nat := 0x0320

/-- The silicon revision of IDENT (R177). -/
def revision : Nat := 2

/-- The sizes of T0..T6 (R177, R180). -/
def tableSizes : List Nat := [20, 8, 4, 6, 16, 1, 16]

/-- The entry sizes of T0..T6 in bytes (R201). -/
def entrySizes : List Nat := [4, 7, 19, 7, 5, 14, 2]

/-- The records the event queue can hold (R126). -/
def queueDepth : Nat := 32

/-- The entries the history stack can hold (R87). -/
def historyDepth : Nat := 16

/-- The value that stands for a missing or FAILED temperature (R6, R94, R195). -/
def noTemperature : Int := -32768

/-- The marker that opens a frame (R168). -/
def marker : Byte := 0xA5

/-- The KIND of an EVENT frame (R176). -/
def eventKind : Byte := 0x70

/-- The layout version of the retained image (R189). -/
def layoutVersion : Byte := 1

/-- The largest payload a frame can carry (R168). -/
def maxPayload : Nat := 63

/-- The saturation of the since-last-entry counter, in ticks (R89). -/
def sinceCap : Nat := 6553500

/-- The ticks after which a held key is stuck (R115). -/
def stuckTicks : Nat := 6000

/-- The ticks without a pulse after which the fan is stalled (R36). -/
def stallTicks : Nat := 200

/-- The conversion instants after which a SUSPECT channel fails (R4). -/
def suspectInstants : Nat := 80

/-- The temperature sets of one filter window (R37). -/
def filterSets : Nat := 600

end Sys2Proof.Config
end

