-- ==== Sys2Proof/Machine/Types.lean ====
section
/-! DEFINITION. The named values and records the blocks keep: states, causes, table entries, fault, event and history
records (chapters 1 to 12). Plain data, every one with decidable equality. -/

namespace Sys2Proof.Machine

/-- Electrical or reported health of a sensor (R3 to R6). -/
inductive Health where
  | good | suspect | failed
  deriving DecidableEq, Repr

/-- State of a heater channel (R20). -/
inductive HeaterState where
  | idle | driving | chopped | latchedOff
  deriving DecidableEq, Repr

/-- Trip mode of a zone record (R22, R25). -/
inductive TripMode where
  | report | chop | chopTimed | latch
  deriving DecidableEq, Repr

/-- Trip timeout of a zone record (R23, R25). -/
inductive TripTimeout where
  | ms100 | ms200 | ms400 | ms800
  deriving DecidableEq, Repr

/-- State of the fan (R36). -/
inductive FanState where
  | stopped | running | stalled
  deriving DecidableEq, Repr

/-- A rail change that has been announced and not yet made (R32, R33). -/
inductive RailChange where
  | none
  | switchOn
  /-- `toOff`: the announced new state is OFF or LOCKOUT. -/
  | switchOff (toOff : Bool)
  deriving DecidableEq, Repr

/-- Supervisory state of the MBS (R61). -/
inductive MbsState where
  | off | heatHold | powering | boot | run | warn | resetting | cycling | lockout
  deriving DecidableEq, Repr

/-- Cause codes of event records, history entries and F15 (R195). -/
inductive Cause where
  | normal | stuck | fault | unmapped | remap | heartbeatMiss | bootTimeout | pgTimeout | pgLost
  | hostRequest | chord | key | retry
  deriving DecidableEq, Repr

/-- Stage of a restart or a history entry (R75, R91, R93). -/
inductive Stage where
  | none | reset | cycle | lockout | off
  deriving DecidableEq, Repr

/-- Key state of a touch channel (R113, R114). -/
inductive KeyState where
  | idle | arming | touched | releasing
  deriving DecidableEq, Repr

/-- Scan mode of the TSU (R101). -/
inductive ScanMode where
  | standby | active
  deriving DecidableEq, Repr

/-- Chord action (R124, R135). -/
inductive ChordAction where
  | restart | cycle | powerOff | powerOn | heatOverride | report
  deriving DecidableEq, Repr

/-- Rail condition of a chord (R124, R134). -/
inductive ChordCondition where
  | any | railOn | railOff
  deriving DecidableEq, Repr

/-- State of a chord (R134). -/
inductive ChordState where
  | idle | timing | fired | spent
  deriving DecidableEq, Repr

/-- Kind of an event record (R125). -/
inductive EventKind where
  | keyDown | keyUp | keyRepeat | chord | fault | restart | warn | store
  deriving DecidableEq, Repr

/-- Status source of a GATE entry (R141). -/
inductive StatusSource where
  | none | heat | fault | lockout
  deriving DecidableEq, Repr

/-- State of a fault record (R154). -/
inductive RecordState where
  | clear | active | latched
  deriving DecidableEq, Repr

/-- Class of a fault record (R154). -/
inductive FaultClass where
  | hw | sw
  deriving DecidableEq, Repr

/-- Last save result (R194). -/
inductive SaveResult where
  | none | ok | failed
  deriving DecidableEq, Repr

/-- Load result of a POWER_ON entry (R90). -/
inductive LoadResult where
  | retained | defaults
  deriving DecidableEq, Repr

/-- State of the frame receiver (chapter 10). -/
inductive RxState where
  | hunt | length | body | check | resync
  deriving DecidableEq, Repr

/-- Status of a reply (R173). -/
inductive Status where
  | ok | okClamped | stale | badKind | badLength | badTable | badArg | locked | state | empty | busy
  deriving DecidableEq, Repr

/-- One of the sixteen fault kinds F0..F15 (R152). -/
abbrev FaultKind := Fin 16

/-- T0: one KEYMAP entry (R122). `repeats` is the repeat flag. -/
structure KeymapEntry where
  valid : Bool
  repeats : Bool
  wake : Bool
  isLocal : Bool
  code : Nat
  sensitivity : Nat
  weight : Nat
  deriving DecidableEq, Repr

/-- T1: one CHORD entry (R124). Bit `n` of `members` is key channel Cn; `hold` counts 100 ms. -/
structure ChordEntry where
  valid : Bool
  members : BitVec 20
  hold : Nat
  action : ChordAction
  condition : ChordCondition
  deriving DecidableEq, Repr

/-- T2, entries 0..2: one zone record (R25, R41). -/
structure ZoneRecord where
  valid : Bool
  release : Int
  band : Nat
  target : Int
  gain : Nat
  dmax : Nat
  fallbackDuty : Nat
  fallbackTime : Nat
  weight : Nat
  cutOut : Int
  tripLevel : Nat
  tripMode : TripMode
  tripTimeout : TripTimeout
  deriving DecidableEq, Repr

/-- T2, entry 3: the global record (R42). -/
structure GlobalRecord where
  aCold : Nat
  aRun : Nat
  soakTime : Nat
  fanStart : Int
  fanFull : Int
  fanMin : Nat
  filterDelta : Int
  deriving DecidableEq, Repr

/-- T3: one GATE entry (R141). The three permits are the bits of the permit mask. -/
structure GateEntry where
  valid : Bool
  permitBoot : Bool
  permitRun : Bool
  permitWarn : Bool
  coldClamp : Nat
  source : StatusSource
  restartDefault : Nat
  deriving DecidableEq, Repr

/-- T4: one CURVE entry (R7). -/
structure CurvePoint where
  valid : Bool
  raw : Nat
  temp : Int
  deriving DecidableEq, Repr

/-- T5: the POLICY entry (R62), each field in its own unit. -/
structure Policy where
  heartbeatLimit : Nat
  bootWindow : Nat
  resetPulse : Nat
  cycleOffTime : Nat
  nReset : Nat
  nCycle : Nat
  stableTime : Nat
  lockoutRetry : Nat
  pgTimeout : Nat
  warnEnable : Bool
  deriving DecidableEq, Repr

/-- T6: one FAULT REACTION entry (R159). -/
structure ReactionEntry where
  valid : Bool
  cls : FaultClass
  report : Bool
  indicate : Bool
  hold : Bool
  restart : Bool
  deriving DecidableEq, Repr

/-- The seven live tables (R180). -/
structure Tables where
  keymap : Vector KeymapEntry 20
  chords : Vector ChordEntry 8
  zones : Vector ZoneRecord 3
  glob : GlobalRecord
  gate : Vector GateEntry 6
  curve : Vector CurvePoint 16
  policy : Policy
  reactions : Vector ReactionEntry 16
  deriving DecidableEq, Repr

/-- One sensor of a temperature set (R14). -/
structure Reading where
  temp : Option Int
  health : Health
  outOfTable : Bool
  deriving DecidableEq, Repr

/-- A one-second temperature set (R14). -/
structure TempSet where
  readings : Vector Reading 4
  drift : Fin 3
  deriving DecidableEq, Repr

/-- One thermistor channel (R2 to R6). `window` stands oldest first. -/
structure TmuChannel where
  window : List Nat
  outCount : Nat
  runCount : Nat
  health : Health
  suspect : Option Nat
  held : Option Int
  outOfTable : Bool
  deriving DecidableEq, Repr

/-- The Temperature Unit (chapter 1). `ring` stands oldest first; `lastSet` is the set its consumers last took; `codes`
are the raw codes of the last conversion instant (R1), 0 before the first. -/
structure Tmu where
  instants : Nat
  channels : Vector TmuChannel 4
  short : Bool
  ring : List Int
  drift : Fin 3
  lastSet : Option TempSet
  codes : Vector (BitVec 12) 4
  deriving DecidableEq, Repr

/-- One heater channel (R19 to R27). `level`, `mode` and `timeout` are those taken at the period start (R22);
`periodDuty` is the duty of the period in progress, 0 where the channel does not drive in it. -/
structure HeaterChannel where
  state : HeaterState
  applied : Nat
  demand : Nat
  periodDuty : Nat
  output : Bool
  tripped : Bool
  tripCondition : Bool
  tripCount : Nat
  lowCount : Nat
  loadedCount : Nat
  openLoad : Bool
  level : Nat
  mode : TripMode
  timeout : TripTimeout
  deriving DecidableEq, Repr

/-- A filter window in progress (R37). -/
structure FilterWindow where
  sets : Nat
  fullDuty : Bool
  deriving DecidableEq, Repr

/-- The Heater and Fan Driver (chapter 2). `stall` is the stall timer in ticks, `none` while stopped;
`pulses` counts the pulses of the second in progress; `loadedFilter` is the detail of the F10 occurrence that the last
filter window to end with a loaded filter brings, until it is reported (R38). -/
structure Hfd where
  channels : Vector HeaterChannel 3
  railChange : RailChange
  fanDuty : Nat
  fanState : FanState
  stall : Option Nat
  pulses : Nat
  speed : Nat
  filter : Option FilterWindow
  loadedFilter : Option Nat
  deriving DecidableEq, Repr

/-- One heating zone (R47, R52, R53). `soak` is `none` while the soak timer is stopped. -/
structure Zone where
  cutOut : Bool
  degraded : Nat
  soak : Option Nat
  deriving DecidableEq, Repr

/-- The Zone Controller (chapter 3). `release` and `z1Cold` are the conditions last handed on. -/
structure Znc where
  zones : Vector Zone 3
  override : Bool
  release : Bool
  z1Cold : Bool
  deriving DecidableEq, Repr

/-- The Main Board Supervisor (chapter 4). Timers hold the ticks that remain, `none` while stopped; the power-good
timer keeps its value while stopped in POWERING (R66); `runTicks` counts ticks since entry into RUN, `none` while the
run timer is stopped; `stable` is the stable time taken at that entry, until it is reached; `mainPg` is the level of
the last MAIN_PG sample. -/
structure Mbs where
  state : MbsState
  pwrEn : Bool
  rstN : Bool
  mainPg : Bool
  token : Option Byte
  bootCause : Cause
  count : Nat
  shutdown : Option Nat
  pgLeft : Nat
  pgRunning : Bool
  resetTimer : Option Nat
  bootTimer : Option Nat
  heartbeatTimer : Option Nat
  cycleTimer : Option Nat
  lockoutTimer : Option Nat
  runTicks : Option Nat
  stable : Option Nat
  deriving DecidableEq, Repr

/-- The fields of a RESTART entry (R91, R92). -/
structure RestartInfo where
  cause : Cause
  detail : Nat
  stage : Stage
  fromState : MbsState
  count : Nat
  temps : Vector Int 4
  seconds : Nat
  runTime : Nat
  token : Byte
  noToken : Bool
  deriving DecidableEq, Repr

/-- The fields of a WAKE entry (R93). -/
structure WakeInfo where
  cause : Cause
  detail : Nat
  stage : Stage
  fromState : MbsState
  count : Nat
  temps : Vector Int 4
  deriving DecidableEq, Repr

/-- What a history entry holds beside its common fields (R90 to R97). -/
inductive HistoryBody where
  | powerOn (load : LoadResult)
  | restart (info : RestartInfo)
  | wake (info : WakeInfo)
  | mark (bytes : List Byte)
  deriving DecidableEq, Repr

/-- A history entry with its ordinal and timestamp (R88, R89). -/
structure HistoryEntry where
  ordinal : BitVec 16
  stamp : Nat
  body : HistoryBody
  deriving DecidableEq, Repr

/-- The Restart History (chapter 5). `entries` stands newest first; `nextOrdinal` is that of the next entry;
`since` is the since-last-entry counter in ticks. -/
structure Rhs where
  entries : List HistoryEntry
  nextOrdinal : BitVec 16
  since : Nat
  deriving DecidableEq, Repr

/-- One key channel of the TSU (R100 to R116). `stuck` is the stuck timer in ticks, `none` while cleared;
`seed` says that the channel awaits its re-seed (R104). -/
structure TouchKey where
  raw : Nat
  corrected : Nat
  delta : Int
  baseline : Nat
  state : KeyState
  arming : Nat
  stuck : Option Nat
  faulted : Bool
  outCount : Nat
  inCount : Nat
  scanned : Bool
  seed : Bool
  deriving DecidableEq, Repr

/-- One reference channel of the TSU (R109, R117). -/
structure TouchRef where
  raw : Nat
  delta : Int
  baseline : Nat
  faulted : Bool
  outCount : Nat
  inCount : Nat
  seed : Bool
  deriving DecidableEq, Repr

/-- The Touch Sense Unit (chapter 6). `disagreement` is the reference disagreement condition; `lastScan` is the tick of
the last scan made, `none` before the first. -/
structure Tsu where
  mode : ScanMode
  keys : Vector TouchKey 20
  refs : Vector TouchRef 2
  disagree : Nat
  agree : Nat
  disagreement : Bool
  guarded : Bool
  lastScan : Option Nat
  deriving DecidableEq, Repr

/-- One key channel of the KEQ (R127 to R133). `reported` is the key code of its KEY_DOWN while it stands in the
reported-down set; `nextRepeat` is the value of the repeat timer at which the next repeat falls due. -/
structure MappedKey where
  down : Bool
  reported : Option Nat
  repeatTimer : Nat
  nextRepeat : Nat
  repeatCount : Nat
  unreported : Bool
  suppressed : Bool
  deriving DecidableEq, Repr

/-- The state and hold timer of one chord (R134). -/
structure ChordRun where
  state : ChordState
  timer : Nat
  deriving DecidableEq, Repr

/-- An event record (R125). -/
structure Event where
  kind : EventKind
  subject : Nat
  cause : Cause
  value : Nat
  lost : Bool
  stamp : Nat
  deriving DecidableEq, Repr

/-- The Key Mapper and Event Queue (chapter 7). `queue` stands oldest first. -/
structure Keq where
  keys : Vector MappedKey 20
  chords : Vector ChordRun 8
  queue : List Event
  deriving DecidableEq, Repr

/-- The Panel Output Gate (chapter 8): requested levels, and applied levels as the pins are driven. -/
structure Pog where
  requested : Vector Nat 6
  applied : Vector Nat 6
  deriving DecidableEq, Repr

/-- A fault record (R154). -/
structure FaultRecord where
  state : RecordState
  cls : FaultClass
  occurrences : Nat
  firstDetail : Nat
  firstStamp : Nat
  lastStamp : Nat
  deriving DecidableEq, Repr

/-- The Fault Collector (chapter 9): the records, and the two conditions as it last handed them on (R161). -/
structure Fcl where
  records : Vector FaultRecord 16
  indication : Bool
  hold : Bool
  deriving DecidableEq, Repr

/-- A reply or event frame without its marker, LEN and CRC (R168). -/
structure Frame where
  kind : Byte
  tag : Byte
  payload : List Byte
  deriving DecidableEq, Repr

/-- The transmitter (R175): idle, or sending one frame, whose bytes on TXD are `bytes`. -/
inductive Transmitter where
  | idle
  | reply (bytes : List Byte)
  | event (bytes : List Byte)
  deriving DecidableEq, Repr

/-- The Service Link Port (chapter 10). `gap` and `idle` count character times, `gap` being `none` while the gap timer
is stopped; `body` holds the bytes taken in BODY, KIND first; `toGo` counts those still to come. -/
structure Slp where
  rate : Bool
  rx : RxState
  gap : Option Nat
  idle : Nat
  len : Nat
  crc : BitVec 16
  body : List Byte
  toGo : Nat
  reply : Option Frame
  tx : Transmitter
  deriving DecidableEq, Repr

/-- The store state with the snapshot of a save in flight (R190). -/
inductive Store where
  | idle
  | writing (snapshot : Tables)
  deriving DecidableEq, Repr

/-- The retained image in nonvolatile memory (R189 to R192). -/
inductive Image where
  /-- No save has ever written the store. -/
  | unwritten
  /-- A loss of supply ended a save (R192); its CRC does not check. -/
  | partlyWritten
  /-- A save failed its verify (R191); marked unusable. -/
  | rejected
  /-- The bytes of the last completed save. -/
  | written (bytes : List Byte)
  deriving DecidableEq, Repr

/-- The Table Store (chapter 11). `locks` holds LOCKED as true. -/
structure Tbs where
  tables : Tables
  locks : Vector Bool 7
  changed : Vector Bool 7
  store : Store
  result : SaveResult
  image : Image
  deriving DecidableEq, Repr

end Sys2Proof.Machine
end

