-- ==== Sys2Proof/Machine/Codes.lean ====
section
/-! DEFINITION. The one-byte codes of R195 and the status codes of R173: each enumerated value's code, and for the
enumerations a request or an image carries, the value a code names (none where it names none, R196). -/

namespace Sys2Proof.Machine

/-- R195, supervisory state and from-state. -/
def MbsState.code : MbsState → Nat
  | .off => 0 | .heatHold => 1 | .powering => 2 | .boot => 3 | .run => 4 | .warn => 5
  | .resetting => 6 | .cycling => 7 | .lockout => 8

/-- R195, cause. -/
def Cause.code : Cause → Nat
  | .normal => 0 | .stuck => 1 | .fault => 2 | .unmapped => 3 | .remap => 4 | .heartbeatMiss => 5
  | .bootTimeout => 6 | .pgTimeout => 7 | .pgLost => 8 | .hostRequest => 9 | .chord => 10 | .key => 11
  | .retry => 12

/-- R195, stage. -/
def Stage.code : Stage → Nat
  | .none => 0 | .reset => 1 | .cycle => 2 | .lockout => 3 | .off => 4

/-- R195, event kind. -/
def EventKind.code : EventKind → Nat
  | .keyDown => 1 | .keyUp => 2 | .keyRepeat => 3 | .chord => 4 | .fault => 5 | .restart => 6 | .warn => 7
  | .store => 8

/-- R195, history entry type. -/
def HistoryBody.code : HistoryBody → Nat
  | .powerOn _ => 0 | .restart _ => 1 | .wake _ => 2 | .mark _ => 3

/-- R195, load result. -/
def LoadResult.code : LoadResult → Nat
  | .retained => 0 | .defaults => 1

/-- R195, chord action. -/
def ChordAction.code : ChordAction → Nat
  | .restart => 0 | .cycle => 1 | .powerOff => 2 | .powerOn => 3 | .heatOverride => 4 | .report => 5

/-- The chord action a code names. -/
def ChordAction.ofCode : Nat → Option ChordAction
  | 0 => some .restart | 1 => some .cycle | 2 => some .powerOff | 3 => some .powerOn | 4 => some .heatOverride
  | 5 => some .report | _ => none

/-- R195, chord condition. -/
def ChordCondition.code : ChordCondition → Nat
  | .any => 0 | .railOn => 1 | .railOff => 2

/-- The chord condition a code names. -/
def ChordCondition.ofCode : Nat → Option ChordCondition
  | 0 => some .any | 1 => some .railOn | 2 => some .railOff | _ => none

/-- R195, trip mode. -/
def TripMode.code : TripMode → Nat
  | .report => 0 | .chop => 1 | .chopTimed => 2 | .latch => 3

/-- The trip mode a code names. -/
def TripMode.ofCode : Nat → Option TripMode
  | 0 => some .report | 1 => some .chop | 2 => some .chopTimed | 3 => some .latch | _ => none

/-- R195, trip timeout. -/
def TripTimeout.code : TripTimeout → Nat
  | .ms100 => 0 | .ms200 => 1 | .ms400 => 2 | .ms800 => 3

/-- The trip timeout a code names. -/
def TripTimeout.ofCode : Nat → Option TripTimeout
  | 0 => some .ms100 | 1 => some .ms200 | 2 => some .ms400 | 3 => some .ms800 | _ => none

/-- R23. The consecutive trip periods of a timeout. -/
def TripTimeout.periods : TripTimeout → Nat
  | .ms100 => 1 | .ms200 => 2 | .ms400 => 4 | .ms800 => 8

/-- R195, status source. -/
def StatusSource.code : StatusSource → Nat
  | .none => 0 | .heat => 1 | .fault => 2 | .lockout => 3

/-- The status source a code names. -/
def StatusSource.ofCode : Nat → Option StatusSource
  | 0 => some .none | 1 => some .heat | 2 => some .fault | 3 => some .lockout | _ => Option.none

/-- R195, sensor health. -/
def Health.code : Health → Nat
  | .good => 0 | .suspect => 1 | .failed => 2

/-- R195, heater channel state. -/
def HeaterState.code : HeaterState → Nat
  | .idle => 0 | .driving => 1 | .chopped => 2 | .latchedOff => 3

/-- R195, fan state. -/
def FanState.code : FanState → Nat
  | .stopped => 0 | .running => 1 | .stalled => 2

/-- R195, key state. -/
def KeyState.code : KeyState → Nat
  | .idle => 0 | .arming => 1 | .touched => 2 | .releasing => 3

/-- R195, scan mode. -/
def ScanMode.code : ScanMode → Nat
  | .standby => 0 | .active => 1

/-- R195, fault record state. -/
def RecordState.code : RecordState → Nat
  | .clear => 0 | .active => 1 | .latched => 2

/-- R195, fault class. -/
def FaultClass.code : FaultClass → Nat
  | .hw => 0 | .sw => 1

/-- R195, store state. -/
def Store.code : Store → Nat
  | .idle => 0 | .writing _ => 1

/-- R195, last save result. -/
def SaveResult.code : SaveResult → Nat
  | .none => 0 | .ok => 1 | .failed => 2

/-- R173, the status codes. -/
def Status.code : Status → Nat
  | .ok => 0x00 | .okClamped => 0x01 | .stale => 0x02 | .badKind => 0x10 | .badLength => 0x11
  | .badTable => 0x12 | .badArg => 0x13 | .locked => 0x14 | .state => 0x15 | .empty => 0x16 | .busy => 0x17

end Sys2Proof.Machine
end

