-- ==== Sys2Proof/Machine/Flags.lean ====
section
/-! DEFINITION. Flag bytes and masks (R195, R196, R198, R201): how flags are packed into the bytes of a reply, a table
entry or the image, and how a received flag byte is read at its defined bits alone. -/

namespace Sys2Proof.Machine

/-- R195. A flag is 1 when set and 0 otherwise. -/
def flag (b : Bool) : Nat := if b then 1 else 0

/-- The number whose bit `i` is the `i`-th flag of the list. -/
def packFlags : List Bool → Nat
  | [] => 0
  | b :: bs => flag b + 2 * packFlags bs

/-- Bit `i` of a byte. -/
def bitOf (b : Byte) (i : Nat) : Bool := b.getLsbD i

/-- R195. A channel mask: three bytes, bit `n` for key channel Cn; bits 20..23 of a reply are sent as 0 (DESIGN CHOICE, log
entry 35). -/
def channelMask (p : Fin 20 → Bool) : List Byte := be24 (packFlags ((List.finRange 20).map p))

/-- R195. A table mask: one byte, bit `n` for table Tn; bit 7 is sent as 0 (DESIGN CHOICE, log entry 35). -/
def tableMask (v : Vector Bool 7) : Byte := byteOf (packFlags v.toList)

/-- R201. Byte 0 of a T0 entry. -/
def KeymapEntry.flags (e : KeymapEntry) : Byte := byteOf (packFlags [e.valid, e.repeats, e.wake, e.isLocal])

/-- R201. The permit mask of a T3 entry. -/
def GateEntry.permits (e : GateEntry) : Byte := byteOf (packFlags [e.permitBoot, e.permitRun, e.permitWarn])

/-- R201. Byte 0 of a T6 entry. -/
def ReactionEntry.flags (e : ReactionEntry) : Byte := byteOf (packFlags [e.valid, e.cls == .sw])

/-- R198, R201. The four reactions, bit 0 REPORT to bit 3 RESTART. R196 gives 0 for bits 4..7 in a TABLE READ; a FAULT
READ sends them as 0 too (DESIGN CHOICE, log entry 35). -/
def ReactionEntry.reactionBits (e : ReactionEntry) : Byte :=
  byteOf (packFlags [e.report, e.indicate, e.hold, e.restart])

/-- R198. Byte 11 of a TOUCH READ reply: bit 0 FAULTED, bit 1 DISABLED; bits 2..7 are sent as 0 (DESIGN CHOICE, log
entry 35). -/
def touchFlags (faulted disabled : Bool) : Byte := byteOf (packFlags [faulted, disabled])

end Sys2Proof.Machine
end

