-- ==== Sys2Proof/Machine/Tables.lean ====
section
/-! DEFINITION. The seven tables: the built-in content (R8, R25, R43, R62, R123, R124, R142, R159), the layouts of
their entries (R201), the ranges and relations a write is judged by (R7, R25, R41, R42, R62, R122, R124, R141, R159,
R183, R196), and reading, writing and invalidating entries by table id and index (R180 to R185). -/

namespace Sys2Proof.Machine

/-! Built-in tables -/

/-- R123. -/
def defaultKeymap : Vector KeymapEntry 20 :=
  tab fun i => ⟨true, i.val ≠ 0, i.val = 0, false, i.val + 1, 60, 8⟩

/-- The member mask with the given channels set. -/
def memberMask (chs : List Nat) : BitVec 20 := chs.foldl (fun m c => m ||| (1#20 <<< c)) 0#20

/-- R124. -/
def defaultChords : Vector ChordEntry 8 :=
  tab fun i => match i.val with
    | 0 => ⟨true, memberMask [0, 19], 50, .cycle, .railOn⟩
    | 1 => ⟨true, memberMask [0, 19], 80, .powerOn, .railOff⟩
    | 2 => ⟨true, memberMask [0, 1, 19], 30, .heatOverride, .railOff⟩
    | _ => ⟨false, memberMask [0, 1], 5, .report, .any⟩

/-- R25, R43. -/
def defaultZones : Vector ZoneRecord 3 :=
  #v[⟨true, 0, 30, 50, 40, 1000, 500, 900, 40, 700, 25, .chopTimed, .ms400⟩,
     ⟨true, 50, 30, 100, 40, 800, 400, 900, 30, 600, 20, .chopTimed, .ms400⟩,
     ⟨true, 0, 30, 50, 20, 600, 300, 900, 15, 600, 10, .chopTimed, .ms400⟩]

/-- R43. -/
def defaultGlobal : GlobalRecord := ⟨80, 40, 60, 350, 500, 300, 250⟩

/-- R142. -/
def defaultGate : Vector GateEntry 6 :=
  #v[⟨true, true, true, true, 300, .none, 800⟩,
     ⟨true, true, true, true, 1, .heat, 0⟩,
     ⟨true, true, true, true, 1, .fault, 0⟩,
     ⟨true, true, true, true, 1, .none, 0⟩,
     ⟨true, true, true, true, 1, .none, 0⟩,
     ⟨true, false, true, true, 1, .none, 0⟩]

/-- R8. -/
def defaultCurve : Vector CurvePoint 16 :=
  #v[⟨true, 180, 1500⟩, ⟨true, 290, 1200⟩, ⟨true, 470, 950⟩, ⟨true, 720, 750⟩, ⟨true, 1050, 580⟩,
     ⟨true, 1450, 420⟩, ⟨true, 1900, 280⟩, ⟨true, 2330, 150⟩, ⟨true, 2720, 30⟩, ⟨true, 3050, -80⟩,
     ⟨true, 3320, -180⟩, ⟨true, 3530, -270⟩, ⟨true, 3690, -350⟩, ⟨true, 3810, -420⟩, ⟨true, 3900, -490⟩,
     ⟨true, 3970, -550⟩]

/-- R62. -/
def defaultPolicy : Policy := ⟨50, 180, 20, 10, 2, 2, 600, 60, 100, true⟩

/-- R152. The default class of each kind. -/
def defaultClass (k : FaultKind) : FaultClass :=
  if [0, 5, 7, 8, 9, 11, 13].contains k.val then .hw else .sw

/-- R152. Whether the class of a kind is settable. -/
def classSettable (k : FaultKind) : Bool := [5, 7, 8, 9, 10, 11, 13].contains k.val

/-- R159. The kinds whose entries may not set RESTART. -/
def restartBarred (k : FaultKind) : Bool := [1, 2, 3, 4, 15].contains k.val

/-- R159. -/
def defaultReactions : Vector ReactionEntry 16 :=
  tab fun k => ⟨true, defaultClass k, true, 5 ≤ k.val, false, false⟩

/-- R193. The seven built-in tables. -/
def defaultTables : Tables :=
  ⟨defaultKeymap, defaultChords, defaultZones, defaultGlobal, defaultGate, defaultCurve, defaultPolicy,
    defaultReactions⟩

/-! Layouts (R201) -/

/-- R201, T0. -/
def KeymapEntry.bytes (e : KeymapEntry) : List Byte :=
  [e.flags, byteOf e.code, byteOf e.sensitivity, byteOf e.weight]

/-- R201, T0; spare bits of the flag byte are not stored (R196). -/
def KeymapEntry.ofBytes : List Byte → Option KeymapEntry
  | [f, c, s, w] => some ⟨bitOf f 0, bitOf f 1, bitOf f 2, bitOf f 3, c.toNat, s.toNat, w.toNat⟩
  | _ => none

/-- R122. -/
def KeymapEntry.inRange (e : KeymapEntry) : Bool :=
  1 ≤ e.code && e.code ≤ 254 && 8 ≤ e.sensitivity && e.sensitivity ≤ 255 && e.weight ≤ 16

/-- R201, T1. -/
def ChordEntry.bytes (e : ChordEntry) : List Byte :=
  [byteOf (flag e.valid)] ++ be24 e.members.toNat ++
    [byteOf e.hold, byteOf e.action.code, byteOf e.condition.code]

/-- The number of channels a member mask names. -/
def memberCount (m : BitVec 20) : Nat := ((List.finRange 20).filter fun c => m.getLsbD c.val).length

/-- R201, T1; a mask with a bit above C19 or a code of no row of R195 is out of range (R196). -/
def ChordEntry.ofBytes : List Byte → Option ChordEntry
  | [f, m2, m1, m0, h, a, c] =>
    match ChordAction.ofCode a.toNat, ChordCondition.ofCode c.toNat with
    | some act, some cond =>
      if m2.toNat < 16 then
        some ⟨bitOf f 0, BitVec.ofNat 20 (m2.toNat * 65536 + m1.toNat * 256 + m0.toNat), h.toNat, act, cond⟩
      else none
    | _, _ => none
  | _ => none

/-- R124. -/
def ChordEntry.inRange (e : ChordEntry) : Bool :=
  2 ≤ memberCount e.members && memberCount e.members ≤ 3 && 5 ≤ e.hold && e.hold ≤ 100

/-- R201, T2 zone record. -/
def ZoneRecord.bytes (z : ZoneRecord) : List Byte :=
  [byteOf (flag z.valid)] ++ beInt16 z.release ++ [byteOf z.band] ++ beInt16 z.target ++ [byteOf z.gain] ++
    be16 z.dmax ++ be16 z.fallbackDuty ++ be16 z.fallbackTime ++ [byteOf z.weight] ++ beInt16 z.cutOut ++
    [byteOf z.tripLevel, byteOf z.tripMode.code, byteOf z.tripTimeout.code]

/-- R201, T2 zone record. -/
def ZoneRecord.ofBytes : List Byte → Option ZoneRecord
  | [f, r1, r0, b, t1, t0, g, d1, d0, fd1, fd0, ft1, ft0, w, c1, c0, l, m, o] =>
    match TripMode.ofCode m.toNat, TripTimeout.ofCode o.toNat with
    | some mode, some timeout =>
      some ⟨bitOf f 0, rdInt16 r1 r0, b.toNat, rdInt16 t1 t0, g.toNat, rd16 d1 d0, rd16 fd1 fd0, rd16 ft1 ft0,
        w.toNat, rdInt16 c1 c0, l.toNat, mode, timeout⟩
    | _, _ => none
  | _ => none

/-- R25, R41: the ranges, the fallback duty at most Dmax, the cut-out above Ttgt. -/
def ZoneRecord.inRange (z : ZoneRecord) : Bool :=
  -400 ≤ z.release && z.release ≤ 400 && 5 ≤ z.band && z.band ≤ 100 && -400 ≤ z.target && z.target ≤ 600 &&
  1 ≤ z.gain && z.gain ≤ 100 && z.dmax ≤ 1000 && z.fallbackDuty ≤ 1000 && z.fallbackDuty ≤ z.dmax &&
  z.fallbackTime ≤ 3600 && 1 ≤ z.weight && z.weight ≤ 255 && 0 ≤ z.cutOut && z.cutOut ≤ 1200 &&
  z.target < z.cutOut && 5 ≤ z.tripLevel && z.tripLevel ≤ 80

/-- R201, T2 global record: the valid flag returned 1, four spare bytes returned 0 (R196). -/
def GlobalRecord.bytes (g : GlobalRecord) : List Byte :=
  [byteOf 1] ++ be16 g.aCold ++ be16 g.aRun ++ be16 g.soakTime ++ beInt16 g.fanStart ++ beInt16 g.fanFull ++
    be16 g.fanMin ++ beInt16 g.filterDelta ++ [byteOf 0, byteOf 0, byteOf 0, byteOf 0]

/-- R201, T2 global record: the valid flag and the spare bytes are not judged and not stored (R196). -/
def GlobalRecord.ofBytes : List Byte → Option GlobalRecord
  | [_, c1, c0, r1, r0, s1, s0, fs1, fs0, ff1, ff0, m1, m0, d1, d0, _, _, _, _] =>
    some ⟨rd16 c1 c0, rd16 r1 r0, rd16 s1 s0, rdInt16 fs1 fs0, rdInt16 ff1 ff0, rd16 m1 m0, rdInt16 d1 d0⟩
  | _ => none

/-- R42: the ranges, the fan full temperature above the fan start temperature. -/
def GlobalRecord.inRange (g : GlobalRecord) : Bool :=
  g.aCold ≤ 765 && g.aRun ≤ 765 && g.soakTime ≤ 600 && 0 ≤ g.fanStart && g.fanStart ≤ 1000 && 0 ≤ g.fanFull &&
  g.fanFull ≤ 1200 && g.fanStart < g.fanFull && g.fanMin ≤ 1000 && 50 ≤ g.filterDelta && g.filterDelta ≤ 500

/-- R201, T3. -/
def GateEntry.bytes (e : GateEntry) : List Byte :=
  [byteOf (flag e.valid), e.permits] ++ be16 e.coldClamp ++ [byteOf e.source.code] ++ be16 e.restartDefault

/-- R201, T3; the permit mask is read at bits 0..2 alone (R196). -/
def GateEntry.ofBytes : List Byte → Option GateEntry
  | [f, p, c1, c0, s, d1, d0] =>
    match StatusSource.ofCode s.toNat with
    | some src => some ⟨bitOf f 0, bitOf p 0, bitOf p 1, bitOf p 2, rd16 c1 c0, src, rd16 d1 d0⟩
    | none => none
  | _ => none

/-- Chapter 8. The largest level of an output. -/
def outputMax (i : Fin 6) : Nat := if i = 0 then 1000 else 1

/-- Chapter 8. Whether an output is an indicator, LED0..LED3. -/
def isIndicator (i : Fin 6) : Bool := 1 ≤ i.val && i.val ≤ 4

/-- R141. -/
def GateEntry.inRange (i : Fin 6) (e : GateEntry) : Bool :=
  e.coldClamp ≤ outputMax i && e.restartDefault ≤ outputMax i && (isIndicator i || e.source == .none)

/-- R201, T4. -/
def CurvePoint.bytes (p : CurvePoint) : List Byte := [byteOf (flag p.valid)] ++ be16 p.raw ++ beInt16 p.temp

/-- R201, T4. -/
def CurvePoint.ofBytes : List Byte → Option CurvePoint
  | [f, r1, r0, t1, t0] => some ⟨bitOf f 0, rd16 r1 r0, rdInt16 t1 t0⟩
  | _ => none

/-- R7. -/
def CurvePoint.inRange (p : CurvePoint) : Bool := p.raw ≤ 4095 && -550 ≤ p.temp && p.temp ≤ 1500

/-- The valid points of the curve in index order, raw code and temperature (R9). -/
def validPoints (c : Vector CurvePoint 16) : List (Nat × Int) :=
  (c.toList.filter CurvePoint.valid).map fun p => (p.raw, p.temp)

/-- Whether raw codes strictly ascend along the list. -/
def ascending : List (Nat × Int) → Bool
  | p :: q :: rest => p.1 < q.1 && ascending (q :: rest)
  | _ => true

/-- R7. The valid entries have strictly ascending raw codes in index order. -/
def curveOrdered (c : Vector CurvePoint 16) : Bool := ascending (validPoints c)

/-- R201, T5: the valid flag returned 1. -/
def Policy.bytes (p : Policy) : List Byte :=
  [byteOf 1] ++ be16 p.heartbeatLimit ++ be16 p.bootWindow ++
    [byteOf p.resetPulse, byteOf p.cycleOffTime, byteOf p.nReset, byteOf p.nCycle] ++ be16 p.stableTime ++
    [byteOf p.lockoutRetry, byteOf p.pgTimeout, byteOf (flag p.warnEnable)]

/-- R201, T5: the valid flag is not judged and not stored (R196). -/
def Policy.ofBytes : List Byte → Option Policy
  | [_, h1, h0, b1, b0, r, c, nr, nc, s1, s0, l, g, w] =>
    some ⟨rd16 h1 h0, rd16 b1 b0, r.toNat, c.toNat, nr.toNat, nc.toNat, rd16 s1 s0, l.toNat, g.toNat, bitOf w 0⟩
  | _ => none

/-- R62. -/
def Policy.inRange (p : Policy) : Bool :=
  5 ≤ p.heartbeatLimit && p.heartbeatLimit ≤ 600 && 10 ≤ p.bootWindow && p.bootWindow ≤ 900 &&
  2 ≤ p.resetPulse && p.resetPulse ≤ 100 && 2 ≤ p.cycleOffTime && p.cycleOffTime ≤ 120 && p.nReset ≤ 7 &&
  p.nCycle ≤ 7 && 60 ≤ p.stableTime && p.stableTime ≤ 7200 && p.lockoutRetry ≤ 240 && 10 ≤ p.pgTimeout &&
  p.pgTimeout ≤ 200

/-- R201, T6. -/
def ReactionEntry.bytes (e : ReactionEntry) : List Byte := [e.flags, e.reactionBits]

/-- R201, T6. -/
def ReactionEntry.ofBytes : List Byte → Option ReactionEntry
  | [f, r] =>
    some ⟨bitOf f 0, if bitOf f 1 then .sw else .hw, bitOf r 0, bitOf r 1, bitOf r 2, bitOf r 3⟩
  | _ => none

/-- R159: a fixed class is kept, and no RESTART on F1, F2, F3, F4 or F15. -/
def ReactionEntry.inRange (k : FaultKind) (e : ReactionEntry) : Bool :=
  (classSettable k || e.cls == defaultClass k) && !(restartBarred k && e.restart)

/-! Entries by table id and index -/

/-- R180. The number of entries of a table, 0 where there is no such table. -/
def tableSize (t : Nat) : Nat := Config.tableSizes.getD t 0

/-- R201. The entry size of a table, 0 where there is no such table. -/
def entrySize (t : Nat) : Nat := Config.entrySizes.getD t 0

/-- R201. The bytes of entry `i` of table `t`; none outside the tables. -/
def entryBytes (T : Tables) (t i : Nat) : List Byte :=
  match t with
  | 0 => if h : i < 20 then (T.keymap[i]).bytes else []
  | 1 => if h : i < 8 then (T.chords[i]).bytes else []
  | 2 => if h : i < 3 then (T.zones[i]).bytes else if i = 3 then T.glob.bytes else []
  | 3 => if h : i < 6 then (T.gate[i]).bytes else []
  | 4 => if h : i < 16 then (T.curve[i]).bytes else []
  | 5 => if i = 0 then T.policy.bytes else []
  | 6 => if h : i < 16 then (T.reactions[i]).bytes else []
  | _ => []

/-- The value if it is in range. -/
def checked {α : Type} (ok : α → Bool) : Option α → Option α
  | some a => if ok a then some a else none
  | none => none

/-- R183, item 2, R184. Entry `i` of table `t` replaced whole by the entry of `bs`; none where a field or a relation
within the entry is out of range. -/
def writeEntry (T : Tables) (t i : Nat) (bs : List Byte) : Option Tables :=
  match t with
  | 0 => if h : i < 20 then
      (checked KeymapEntry.inRange (KeymapEntry.ofBytes bs)).map fun e => { T with keymap := T.keymap.set i e }
    else none
  | 1 => if h : i < 8 then
      (checked ChordEntry.inRange (ChordEntry.ofBytes bs)).map fun e => { T with chords := T.chords.set i e }
    else none
  | 2 => if h : i < 3 then
      (checked ZoneRecord.inRange (ZoneRecord.ofBytes bs)).map fun e => { T with zones := T.zones.set i e }
    else if i = 3 then
      (checked GlobalRecord.inRange (GlobalRecord.ofBytes bs)).map fun e => { T with glob := e }
    else none
  | 3 => if h : i < 6 then
      (checked (GateEntry.inRange ⟨i, h⟩) (GateEntry.ofBytes bs)).map fun e => { T with gate := T.gate.set i e }
    else none
  | 4 => if h : i < 16 then
      (checked CurvePoint.inRange (CurvePoint.ofBytes bs)).map fun e => { T with curve := T.curve.set i e }
    else none
  | 5 => if i = 0 then
      (checked Policy.inRange (Policy.ofBytes bs)).map fun e => { T with policy := e }
    else none
  | 6 => if h : i < 16 then
      (checked (ReactionEntry.inRange ⟨i, h⟩) (ReactionEntry.ofBytes bs)).map fun e =>
        { T with reactions := T.reactions.set i e }
    else none
  | _ => none

/-- R184. `count` entries from index `i` upward, taken in order from `bs`. -/
def writeEntries (T : Tables) (t i : Nat) : Nat → List Byte → Option Tables
  | 0, _ => some T
  | count + 1, bs =>
    match writeEntry T t i (bs.take (entrySize t)) with
    | some T' => writeEntries T' t (i + 1) count (bs.drop (entrySize t))
    | none => none

/-- R183. The tables after a write of `count` entries from `first`; none where any judgement of R183 fails. -/
def writtenTables (T : Tables) (t first count : Nat) (bs : List Byte) : Option Tables :=
  if count = 0 || tableSize t < first + count then none
  else match writeEntries T t first count bs with
    | some T' => if t = 4 && !curveOrdered T'.curve then none else some T'
    | none => none

/-- R185. Entry `i` of table `t` with its valid flag clear; the T2 global record and T5 stay valid (R180). -/
def clearValid (T : Tables) (t i : Nat) : Tables :=
  match t with
  | 0 => if h : i < 20 then { T with keymap := T.keymap.set i { T.keymap[i] with valid := false } } else T
  | 1 => if h : i < 8 then { T with chords := T.chords.set i { T.chords[i] with valid := false } } else T
  | 2 => if h : i < 3 then { T with zones := T.zones.set i { T.zones[i] with valid := false } } else T
  | 3 => if h : i < 6 then { T with gate := T.gate.set i { T.gate[i] with valid := false } } else T
  | 4 => if h : i < 16 then { T with curve := T.curve.set i { T.curve[i] with valid := false } } else T
  | 6 => if h : i < 16 then { T with reactions := T.reactions.set i { T.reactions[i] with valid := false } } else T
  | _ => T

/-- R181, R185. The indexes an invalidation names, wrapping, the T2 global record passed over. -/
def invalidatedIndexes (t first extra : Nat) : List Nat :=
  ((List.range (extra + 1)).map fun k => (first + k) % tableSize t).filter fun i => !(t = 2 && i = 3)

/-- R185. The tables after an invalidation. -/
def invalidatedTables (T : Tables) (t first extra : Nat) : Tables :=
  (invalidatedIndexes t first extra).foldl (fun T i => clearValid T t i) T

/-- R201. The bytes of `count` entries from `first`, in index order. -/
def readEntries (T : Tables) (t first count : Nat) : List Byte :=
  (List.range count).flatMap fun k => entryBytes T t (first + k)

/-! The retained image (R189) -/

/-- R168. One bit of the CRC: the polynomial x^16 + x^12 + x^5 + 1. -/
def crcBit (c : BitVec 16) : BitVec 16 := if c.getLsbD 15 then (c <<< 1) ^^^ 0x1021#16 else c <<< 1

/-- R168. One byte enters the CRC register, most significant bit first. -/
def crcByte (c : BitVec 16) (b : Byte) : BitVec 16 :=
  crcBit (crcBit (crcBit (crcBit (crcBit (crcBit (crcBit (crcBit (c ^^^ (b.setWidth 16 <<< 8)))))))))

/-- R168. The CRC of a byte string, from 0xFFFF. -/
def crc16 (bs : List Byte) : BitVec 16 := bs.foldl crcByte 0xFFFF#16

/-- The CRC as two bytes, high byte first (R168, R189). -/
def crcBytes (bs : List Byte) : List Byte := be16 (crc16 bs).toNat

/-- R189. The layout version and the seven tables, in table order. -/
def imageBody (T : Tables) : List Byte :=
  Config.layoutVersion :: (List.range 7).flatMap fun t => readEntries T t 0 (tableSize t)

/-- R189. The whole image. -/
def imageBytes (T : Tables) : List Byte := imageBody T ++ crcBytes (imageBody T)

/-- Entry `i` of table `t` as the image holds it, without a range check: an image is loaded as it was saved (R193). -/
def loadEntry (T : Tables) (t i : Nat) (bs : List Byte) : Option Tables :=
  match t with
  | 0 => if h : i < 20 then (KeymapEntry.ofBytes bs).map fun e => { T with keymap := T.keymap.set i e } else none
  | 1 => if h : i < 8 then (ChordEntry.ofBytes bs).map fun e => { T with chords := T.chords.set i e } else none
  | 2 => if h : i < 3 then (ZoneRecord.ofBytes bs).map fun e => { T with zones := T.zones.set i e }
    else if i = 3 then (GlobalRecord.ofBytes bs).map fun e => { T with glob := e } else none
  | 3 => if h : i < 6 then (GateEntry.ofBytes bs).map fun e => { T with gate := T.gate.set i e } else none
  | 4 => if h : i < 16 then (CurvePoint.ofBytes bs).map fun e => { T with curve := T.curve.set i e } else none
  | 5 => if i = 0 then (Policy.ofBytes bs).map fun e => { T with policy := e } else none
  | 6 => if h : i < 16 then
      (ReactionEntry.ofBytes bs).map fun e => { T with reactions := T.reactions.set i e } else none
  | _ => none

/-- `count` entries of table `t` from index `i` upward, with the bytes that follow them. -/
def loadEntries (T : Tables) (t i : Nat) : Nat → List Byte → Option (Tables × List Byte)
  | 0, bs => some (T, bs)
  | count + 1, bs =>
    match loadEntry T t i (bs.take (entrySize t)) with
    | some T' => loadEntries T' t (i + 1) count (bs.drop (entrySize t))
    | none => none

/-- The tables named, one after the other, from the bytes. -/
def loadTables (T : Tables) : List Nat → List Byte → Option (Tables × List Byte)
  | [], bs => some (T, bs)
  | t :: ts, bs =>
    match loadEntries T t 0 (tableSize t) bs with
    | some (T', bs') => loadTables T' ts bs'
    | none => none

/-- R193. The tables of a usable image: its layout version equals the part's own, its CRC checks, and it holds seven
tables; none otherwise. -/
def tablesOfImage (bs : List Byte) : Option Tables :=
  let body := bs.take (bs.length - 2)
  if bs.drop (bs.length - 2) = crcBytes body then
    match body with
    | v :: rest =>
      if v = Config.layoutVersion then
        match loadTables defaultTables (List.range 7) rest with
        | some (T, []) => some T
        | _ => none
      else none
    | [] => none
  else none

/-- R193. The tables a power-on load takes from the retained store, none where the image is not usable. -/
def Image.load : Image → Option Tables
  | .written bs => tablesOfImage bs
  | .unwritten | .partlyWritten | .rejected => none

end Sys2Proof.Machine
end

