-- ==== Sys2Proof/Machine/PowerOn.lean ====
section
/-! DEFINITION. The value of every block's state at part power-on (R18, R40, R60, R86, R90, R121, R140, R151, R166,
R179, R194), before the occurrences that a failed load or a short curve then reports. -/

namespace Sys2Proof.Machine

/-- R11. The curve is short while it has fewer than two valid entries. -/
def curveShort (c : Vector CurvePoint 16) : Bool := decide ((validPoints c).length < 2)

/-- R18. -/
def TmuChannel.powerOn : TmuChannel := ⟨[], 0, 0, .good, none, none, false⟩

/-- R18. -/
def Tmu.powerOn (T : Tables) : Tmu := ⟨0, tab fun _ => TmuChannel.powerOn, curveShort T.curve, [], 1, none, tab fun _ => 0⟩

/-- R40; the trip fields in force are those of the loaded zone record. -/
def HeaterChannel.powerOn (z : ZoneRecord) : HeaterChannel :=
  ⟨.idle, 0, 0, 0, false, false, false, 0, 0, 0, false, z.tripLevel, z.tripMode, z.tripTimeout⟩

/-- R40. -/
def Hfd.powerOn (T : Tables) : Hfd :=
  ⟨tab fun i => HeaterChannel.powerOn T.zones[i], .none, 0, .stopped, none, 0, 0, none, none⟩

/-- R60. Z1 cold holds at power-on if the loaded Z1 record is valid, since S1 has no temperature. -/
def Znc.powerOn (T : Tables) : Znc := ⟨tab fun _ => ⟨false, 0, none⟩, false, false, (T.zones[1]).valid⟩

/-- R86. -/
def Mbs.powerOn : Mbs :=
  { state := .heatHold, pwrEn := false, rstN := false, mainPg := false, token := none, bootCause := .normal, count := 0,
    shutdown := none, pgLeft := 0, pgRunning := false, resetTimer := none, bootTimer := none, heartbeatTimer := none,
    cycleTimer := none, lockoutTimer := none, runTicks := none, stable := none }

/-- R90. The POWER_ON entry stands alone, with ordinal 0 and timestamp 0. -/
def Rhs.powerOn (load : LoadResult) : Rhs := ⟨[⟨0, 0, .powerOn load⟩], 1, 0⟩

/-- R102. Whether a key channel belongs to the scanned set of a mode. -/
def inScannedSet (mode : ScanMode) (T : Tables) (c : Fin 20) : Bool :=
  (T.keymap[c]).valid &&
    (mode == .active || (T.keymap[c]).wake ||
      someEntry T.chords fun e => e.valid && e.members.getLsbD c.val && (e.condition == .any || e.condition == .railOff))

/-- R121. -/
def TouchKey.powerOn (scanned : Bool) : TouchKey := ⟨0, 0, 0, 0, .idle, 0, none, false, 0, 0, scanned, true⟩

/-- R121. -/
def TouchRef.powerOn : TouchRef := ⟨0, 0, 0, false, 0, 0, true⟩

/-- R121. -/
def Tsu.powerOn (T : Tables) : Tsu :=
  ⟨.standby, tab fun c => TouchKey.powerOn (inScannedSet .standby T c), tab fun _ => TouchRef.powerOn, 0, 0, false,
    false, none⟩

/-- R140. -/
def MappedKey.powerOn : MappedKey := ⟨false, none, 0, 0, 0, false, false⟩

/-- R140. -/
def Keq.powerOn : Keq := ⟨tab fun _ => MappedKey.powerOn, tab fun _ => ⟨.idle, 0⟩, []⟩

/-- R143. The requested level a restart default gives an output. -/
def defaultLevel (T : Tables) (i : Fin 6) : Nat := if (T.gate[i]).valid then (T.gate[i]).restartDefault else 0

/-- R143, R151. The applied levels are those of an unpowered panel until the part's first recomputation. -/
def Pog.powerOn (T : Tables) : Pog := ⟨tab fun i => defaultLevel T i, tab fun _ => 0⟩

/-- R159. The reactions in force for a kind: its entry's while that is valid; else its default class and no reaction. -/
def reactionInForce (T : Tables) (k : FaultKind) : ReactionEntry :=
  if (T.reactions[k]).valid then T.reactions[k] else ⟨false, defaultClass k, false, false, false, false⟩

/-- R166. -/
def FaultRecord.powerOn (cls : FaultClass) : FaultRecord := ⟨.clear, cls, 0, 0, 0, 0⟩

/-- R166. -/
def Fcl.powerOn (T : Tables) : Fcl :=
  ⟨tab fun k => FaultRecord.powerOn (reactionInForce T k).cls, false, false⟩

/-- R179. The CRC register, which is not in use until a LEN byte is taken, holds 0 (log entry 19). -/
def Slp.powerOn (rate : Bool) : Slp := ⟨rate, .resync, none, 0, 0, 0, [], 0, none, .idle⟩

/-- R194. -/
def Tbs.powerOn (T : Tables) (load : LoadResult) (image : Image) : Tbs :=
  ⟨T, tab fun _ => true, tab fun _ => load == .defaults, .idle, .none, image⟩

end Sys2Proof.Machine
end

