-- ==== Sys2Proof/Machine/State.lean ====
section
/-! DEFINITION. The state of the whole part, and the state after reset. The spec's reset is part power-on. -/

namespace Sys2Proof.Machine

/-- The part. `tick` counts the 10 ms ticks since part power-on; `pending` is the model's own queue of commands that
wait, the front taken first; every other field is a block of the spec. While `powered` is false the volatile fields
hold nothing of the spec's. -/
structure State where
  powered : Bool
  tick : Nat
  tmu : Tmu
  hfd : Hfd
  znc : Znc
  mbs : Mbs
  rhs : Rhs
  tsu : Tsu
  keq : Keq
  pog : Pog
  fcl : Fcl
  slp : Slp
  tbs : Tbs
  pending : List Instr
  deriving DecidableEq, Repr

/-- Nothing stops this machine with a fault: the spec gives every command an effect in every state, so the type has
no value and no meaning can raise one. -/
inductive Fault where
  deriving DecidableEq, Repr

/-- Reasons to refuse a command. -/
inductive Refusal where
  /-- Raised by `exec` for a command that has no meaning yet; none is left. Safe: the run stops. -/
  | notModelled (mnemonic : String)
  deriving DecidableEq, Repr

/-- Every block at its power-on value, over the given tables, load result, image and commands. -/
def State.atPowerOn (rate : Bool) (T : Tables) (load : LoadResult) (image : Image) (pending : List Instr) : State :=
  { powered := true, tick := 0, tmu := Tmu.powerOn T, hfd := Hfd.powerOn T, znc := Znc.powerOn T, mbs := Mbs.powerOn,
    rhs := Rhs.powerOn load, tsu := Tsu.powerOn T, keq := Keq.powerOn, pog := Pog.powerOn T, fcl := Fcl.powerOn T,
    slp := Slp.powerOn rate, tbs := Tbs.powerOn T load image, pending := pending }

/-- The machine after reset: the first part power-on, over a retained store that no save has written (log entry 4) and
with the RATE strap low (log entry 5). By R193 and R166 the load falls back to the built-in tables and F14 is LATCHED
with detail LOAD, so by R151 LED0 (source HEAT) and LED1 (source FAULT) are lit. -/
def State.reset : State :=
  let s := State.atPowerOn false defaultTables .defaults .unwritten []
  { s with
    fcl := { records := s.fcl.records.set 14 ⟨.latched, .sw, 1, 0, 0, 0⟩, indication := true, hold := false }
    pog := { s.pog with applied := #v[0, 1, 1, 0, 0, 0] } }

end Sys2Proof.Machine
end

