-- ==== Sys2Proof/Machine/Ops.lean ====
section
/-! DEFINITION. The operations every block shares: replacing one block's state, time passing, the transmitter and the
reply buffer (R174, R175), the event queue's admission (R128, R129), and creating a history entry (R87 to R89). -/

namespace Sys2Proof.Machine

/-- What one command answers. -/
abbrev Result := Host.Outcome State Fault Refusal

/-! Replacing one block's state (Laws/State.lean has a lemma per field) -/

/-- `s` with the state of its TMU block replaced. -/
def State.setTmu (s : State) (x : Tmu) : State := { s with tmu := x }

/-- `s` with the state of its HFD block replaced. -/
def State.setHfd (s : State) (x : Hfd) : State := { s with hfd := x }

/-- `s` with the state of its ZNC block replaced. -/
def State.setZnc (s : State) (x : Znc) : State := { s with znc := x }

/-- `s` with the state of its MBS block replaced. -/
def State.setMbs (s : State) (x : Mbs) : State := { s with mbs := x }

/-- `s` with the state of its RHS block replaced. -/
def State.setRhs (s : State) (x : Rhs) : State := { s with rhs := x }

/-- `s` with the state of its TSU block replaced. -/
def State.setTsu (s : State) (x : Tsu) : State := { s with tsu := x }

/-- `s` with the state of its KEQ block replaced. -/
def State.setKeq (s : State) (x : Keq) : State := { s with keq := x }

/-- `s` with the state of its POG block replaced. -/
def State.setPog (s : State) (x : Pog) : State := { s with pog := x }

/-- `s` with the state of its FCL block replaced. -/
def State.setFcl (s : State) (x : Fcl) : State := { s with fcl := x }

/-- `s` with the state of its SLP block replaced. -/
def State.setSlp (s : State) (x : Slp) : State := { s with slp := x }

/-- `s` with the state of its TBS block replaced. -/
def State.setTbs (s : State) (x : Tbs) : State := { s with tbs := x }

/-! Time -/

/-- R89, R125. The timestamp of the moment: the tick count modulo 65 536. -/
def stamp (s : State) : Nat := s.tick % 65536

/-- The duration of `n` ticks passes at the MBS: its running timers fall, the run timer rises (R61, R70). -/
def Mbs.elapse (n : Nat) (m : Mbs) : Mbs :=
  { m with
    shutdown := m.shutdown.map (· - n)
    pgLeft := if m.pgRunning then m.pgLeft - n else m.pgLeft
    resetTimer := m.resetTimer.map (· - n)
    bootTimer := m.bootTimer.map (· - n)
    heartbeatTimer := m.heartbeatTimer.map (· - n)
    cycleTimer := m.cycleTimer.map (· - n)
    lockoutTimer := m.lockoutTimer.map (· - n)
    runTicks := m.runTicks.map (· + n) }

/-- The duration of `n` ticks passes at one key: its repeat timer counts while it stands in the reported-down set
(R132). -/
def MappedKey.elapse (n : Nat) (k : MappedKey) : MappedKey :=
  if k.reported.isSome then { k with repeatTimer := k.repeatTimer + n } else k

/-- The duration of `n` ticks passes at one chord: the hold timer of a TIMING chord counts (R135). -/
def ChordRun.elapse (n : Nat) (c : ChordRun) : ChordRun :=
  if c.state = .timing then { c with timer := c.timer + n } else c

/-- `n` ticks pass: the tick count and every timer that counts ticks move on, and nothing else happens (log entry 1).
What falls due then is a command of its own. -/
def elapse (n : Nat) (s : State) : State :=
  if n = 0 then s else
  { s with
    tick := s.tick + n
    hfd := { s.hfd with stall := s.hfd.stall.map fun t => min Config.stallTicks (t + n) }
    mbs := s.mbs.elapse n
    rhs := { s.rhs with since := satAdd Config.sinceCap s.rhs.since n }
    tsu := { s.tsu with keys := tab fun c => { s.tsu.keys[c] with stuck := (s.tsu.keys[c]).stuck.map (· + n) } }
    keq := { s.keq with
      keys := tab fun c => (s.keq.keys[c]).elapse n
      chords := tab fun i => (s.keq.chords[i]).elapse n } }

/-! Frames and the transmitter -/

/-- R168. The bytes of a frame on the line. -/
def Frame.bytes (f : Frame) : List Byte :=
  let covered := byteOf (f.payload.length + 2) :: f.kind :: f.tag :: f.payload
  Config.marker :: covered ++ crcBytes covered

/-- R200. The payload of an EVENT frame. -/
def Event.bytes (e : Event) : List Byte :=
  [byteOf e.kind.code, byteOf e.subject, byteOf e.cause.code, byteOf (flag e.lost)] ++ be16 e.value ++ be16 e.stamp

/-- R176. The EVENT frame of a record. -/
def Event.frame (e : Event) : Frame := ⟨Config.eventKind, 0, e.bytes⟩

/-- R175. The states in which the transmitter takes records from the event queue. -/
def MbsState.sendsEvents : MbsState → Bool
  | .run | .warn => true
  | _ => false

/-- R175. The choice of an idle transmitter: the reply in the buffer, else the oldest record in RUN or WARN. -/
def kickTx (s : State) : State :=
  match s.slp.tx with
  | .idle =>
    match s.slp.reply with
    | some f => s.setSlp { s.slp with tx := .reply f.bytes }
    | none =>
      match s.keq.queue with
      | e :: rest =>
        if s.mbs.state.sendsEvents then
          (s.setSlp { s.slp with tx := .event e.frame.bytes }).setKeq { s.keq with queue := rest }
        else s
      | [] => s
  | _ => s

/-- R174. The KIND of the reply to a request. -/
def replyKind (kind : Byte) : Byte := if kind.toNat < 0x80 then kind + 0x80 else kind

/-- R174. A reply is placed in the reply buffer, and an idle transmitter takes it up (R175). -/
def reply (kind tag : Byte) (status : Status) (items : List Byte) (s : State) : State :=
  kickTx (s.setSlp { s.slp with reply := some ⟨replyKind kind, tag, byteOf status.code :: items⟩ })

/-! The event queue -/

/-- R128. The states in which the queue judges offers. -/
def MbsState.admits : MbsState → Bool
  | .boot | .run | .warn => true
  | _ => false

/-- R127. The number of channels in the reported-down set. -/
def reportedCount (q : Keq) : Nat := (q.keys.toList.filter fun k => k.reported.isSome).length

/-- R128. The number of channels in the reported-down set with channel `c` counted in it. -/
def reportedCountWith (q : Keq) (c : Nat) : Nat :=
  (indexesWhere fun i : Fin 20 => (q.keys[i]).reported.isSome || i.val = c).length

/-- R126. The free entries of the queue. -/
def freeEntries (q : Keq) : Nat := Config.queueDepth - q.queue.length

/-- R128. Whether the queue has room for an offer, by its kind (for KEY_DOWN the value is the key channel, R125). -/
def roomFor (q : Keq) (e : Event) : Bool :=
  match e.kind with
  | .keyUp => true
  | .keyDown => reportedCountWith q e.value < freeEntries q
  | .keyRepeat => reportedCount q + 8 < freeEntries q
  | .chord | .fault | .restart | .warn | .store => reportedCount q < freeEntries q

/-- R129. The newest record's lost flag set. -/
def markNewestLost : List Event → List Event
  | [] => []
  | [e] => [{ e with lost := true }]
  | e :: f :: es => e :: markNewestLost (f :: es)

/-- What became of an offer (R128, R129). -/
inductive Offered where
  | admitted | refused | discarded
  deriving DecidableEq, Repr

/-- R128. What becomes of an offer in this state. -/
def offerJudgement (s : State) (e : Event) : Offered :=
  if s.mbs.state.admits then (if roomFor s.keq e then .admitted else .refused) else .discarded

/-- R125. The record of an offer made now, its lost flag clear. -/
def newEvent (s : State) (kind : EventKind) (subject : Nat) (cause : Cause) (value : Nat) : Event :=
  ⟨kind, subject, cause, value, false, stamp s⟩

/-- R128, R129, R175. The offered record is admitted, and an idle transmitter may take it at once; or it is refused and
the newest record's lost flag set; or, in a state that does not judge offers, it is discarded. -/
def offer (e : Event) (s : State) : State :=
  match offerJudgement s e with
  | .admitted => kickTx (s.setKeq { s.keq with queue := s.keq.queue ++ [e] })
  | .refused => s.setKeq { s.keq with queue := markNewestLost s.keq.queue }
  | .discarded => s

/-! History -/

/-- R87, R88, R89. A created entry is pushed at depth 0, the oldest of a full stack discarded. -/
def pushHistory (body : HistoryBody) (s : State) : State :=
  s.setRhs
    { entries := (⟨s.rhs.nextOrdinal, stamp s, body⟩ :: s.rhs.entries).take Config.historyDepth
      nextOrdinal := s.rhs.nextOrdinal + 1
      since := 0 }

/-- R94. The temperature of one sensor in a snapshot. -/
def snapshotTemp (t : Option TempSet) (i : Fin 4) : Int :=
  match t with
  | none => Config.noTemperature
  | some set => if (set.readings[i]).health = .failed then Config.noTemperature
    else ((set.readings[i]).temp).getD Config.noTemperature

/-- R94. The snapshot of the four temperatures, from the most recent set. -/
def snapshot (s : State) : Vector Int 4 := tab fun i => snapshotTemp s.tmu.lastSet i

end Sys2Proof.Machine
end

