-- ==== Sys2Proof/Machine/HeatOps.lean ====
section
/-! DEFINITION. Heating: the allotment scaling (R29 to R33), the fan duty (R34 to R37), the zones' conditions and
demands (R45 to R53, R57). -/

namespace Sys2Proof.Machine

/-! What the consumers of the temperature set read -/

/-- R14. One sensor of the last set; before the first set a sensor without a temperature. -/
def lastReading (s : State) (i : Fin 4) : Reading :=
  match s.tmu.lastSet with
  | some set => set.readings[i]
  | none => ⟨none, .good, false⟩

/-- Chapter 3. The sensor of a zone. -/
def zoneSensor (i : Fin 3) : Fin 4 := i.castSucc

/-! Allotment scaling -/

/-- R61. MAIN_PWR_EN is asserted in the rail-on states. -/
def MbsState.railOn : MbsState → Bool
  | .powering | .boot | .run | .warn | .resetting => true
  | .off | .heatHold | .cycling | .lockout => false

/-- OFF and LOCKOUT, in which nothing is heated (R29, R45). -/
def MbsState.unheated : MbsState → Bool
  | .off | .lockout => true
  | _ => false

/-- R29, R33. Whether OFF or LOCKOUT counts for the scaling, as the state or as the state a switch-off announces. -/
def heatGated (s : State) : Bool := s.mbs.state.unheated || s.hfd.railChange == .switchOff true

/-- R29. The effective demand of one channel. -/
def effectiveDemand (s : State) (i : Fin 3) : Nat :=
  let z := s.tbs.tables.zones[i]
  let c := s.hfd.channels[i]
  if !z.valid || c.state == .latchedOff || (s.znc.zones[i]).cutOut || heatGated s then 0 else min c.demand z.dmax

/-- R30. The sum of duty times weight over the three channels. -/
def wattSum (T : Tables) (e : Fin 3 → Nat) : Nat :=
  e 0 * (T.zones[0]).weight + e 1 * (T.zones[1]).weight + e 2 * (T.zones[2]).weight

/-- R30. The applied duty of one channel for the effective demands `e` and an allotment of `watts`. -/
def scaledDuty (T : Tables) (e : Fin 3 → Nat) (watts : Nat) (i : Fin 3) : Nat :=
  if wattSum T e ≤ watts * 1000 then e i else e i * (watts * 1000) / wattSum T e

/-- R31 to R33. The duty a recomputation gives one channel: outside a rail change by the allotment of the rail, while
one is pending the smaller of the two allotments' results. -/
def newDuty (s : State) (i : Fin 3) : Nat :=
  let T := s.tbs.tables
  let e := effectiveDemand s
  match s.hfd.railChange with
  | .none => scaledDuty T e (if s.mbs.pwrEn then T.glob.aRun else T.glob.aCold) i
  | .switchOn | .switchOff _ => min (scaledDuty T e T.glob.aRun i) (scaledDuty T e T.glob.aCold i)

/-- R31. The three applied duties are replaced together. -/
def recomputeDuties (s : State) : State :=
  s.setHfd { s.hfd with channels := tab fun i => { s.hfd.channels[i] with applied := newDuty s i } }

/-- R32, R33. A rail change is announced, or (`none`) made. -/
def setRailChange (r : RailChange) (s : State) : State := s.setHfd { s.hfd with railChange := r }

/-! The fan -/

/-- R34, row 2. Some valid zone whose sensor can be read lies below its release temperature. -/
def zoneBelowRelease (s : State) : Bool :=
  (List.finRange 3).any fun i =>
    let r := lastReading s (zoneSensor i)
    (s.tbs.tables.zones[i]).valid && r.health != .failed &&
      match r.temp with
      | some t => t < (s.tbs.tables.zones[i]).release
      | none => false

/-- R34. The fan duty by the first matching row. -/
def fanDutyNow (s : State) : Nat :=
  let g := s.tbs.tables.glob
  let r := lastReading s 3
  if !s.mbs.pwrEn then 0
  else if zoneBelowRelease s then 0
  else match r.temp with
    | none => 1000
    | some t =>
      if r.health = .failed then 1000
      else if t ≤ g.fanStart then 0
      else if g.fanFull ≤ t then 1000
      else g.fanMin + ((t - g.fanStart) * (1000 - (g.fanMin : Int))).tdiv (g.fanFull - g.fanStart) |>.toNat

/-- R36. The stall timer after the duty has become `d`: stopped while STALLED or below 200, started from 0 when the duty
rises to 200 or more, else running on. -/
def stallTimerAt (h : Hfd) (d : Nat) : Option Nat :=
  if h.fanState = .stalled then none
  else if d < 200 then none
  else match h.stall with
    | some t => some t
    | none => some 0

/-- R36. The fan state after the duty has become `d`. -/
def fanStateAt (h : Hfd) (d : Nat) : FanState :=
  if h.fanState = .stalled then .stalled else if d = 0 then .stopped else .running

/-- R34 to R37. The fan takes duty `d`; a window's full-duty mark falls with a duty below 1000. -/
def setFanDuty (d : Nat) (s : State) : State :=
  s.setHfd { s.hfd with
    fanDuty := d
    fanState := fanStateAt s.hfd d
    stall := stallTimerAt s.hfd d
    filter := s.hfd.filter.map fun w => { w with fullDuty := w.fullDuty && decide (1000 ≤ d) } }

/-- R35. The fan duty is computed from the last set. -/
def recomputeFan (s : State) : State := setFanDuty (fanDutyNow s) s

/-- R37. A filter window beginning now. -/
def newFilterWindow (s : State) : FilterWindow := ⟨0, decide (1000 ≤ s.hfd.fanDuty)⟩

/-! Zones -/

/-- R47. The cut-out condition of a zone with record `z`, from its condition so far and the held temperature. -/
def cutOutNow (z : ZoneRecord) (was : Bool) (temp : Option Int) : Bool :=
  z.valid &&
    match temp with
    | none => false
    | some t => if was then !(t < z.cutOut - 20) else z.cutOut ≤ t

/-- R47. The cut-out condition of zone `i` against the last set. -/
def zoneCutOut (s : State) (i : Fin 3) : Bool :=
  cutOutNow s.tbs.tables.zones[i] (s.znc.zones[i]).cutOut (lastReading s (zoneSensor i)).temp

/-- R51. Whether zone `i` is degraded. -/
def zoneDegraded (s : State) (i : Fin 3) : Bool :=
  (s.tbs.tables.zones[i]).valid &&
    ((lastReading s (zoneSensor i)).health == .failed || (s.hfd.channels[i]).openLoad ||
      (s.hfd.channels[i]).state == .latchedOff)

/-- R51, R52. The degraded timer of a zone that is not degraded is 0. -/
def syncDegraded (s : State) : State :=
  s.setZnc { s.znc with
    zones := tab fun i => { s.znc.zones[i] with degraded := if zoneDegraded s i then (s.znc.zones[i]).degraded else 0 } }

/-- R52. The degraded timer at a computation. -/
def degradedNow (s : State) (i : Fin 3) : Nat :=
  if zoneDegraded s i then
    (if s.mbs.state = .heatHold then satAdd 3600 (s.znc.zones[i]).degraded 1 else (s.znc.zones[i]).degraded)
  else 0

/-- R53. Whether zone `i` is warm in the last set. -/
def zoneWarm (s : State) (i : Fin 3) : Bool :=
  let r := lastReading s (zoneSensor i)
  (s.tbs.tables.zones[i]).valid && r.health == .good &&
    match r.temp with
    | some t => (s.tbs.tables.zones[i]).release ≤ t
    | none => false

/-- R53. The soak timer at a computation. -/
def soakNow (s : State) (i : Fin 3) : Option Nat :=
  if zoneWarm s i then
    match (s.znc.zones[i]).soak with
    | some n => some (satAdd 600 n 1)
    | none => some 0
  else none

/-- R49, R50. The fallback demand of zone `i`, by the rail-on or the rail-off rule. -/
def fallbackDemand (s : State) (railOn : Bool) (i : Fin 3) : Nat :=
  let z := s.tbs.tables.zones[i]
  if railOn then
    let r := lastReading s 3
    match r.temp with
    | some t => if r.health = .good ∧ t < z.target then z.fallbackDuty else 0
    | none => 0
  else if (s.znc.zones[i]).degraded < z.fallbackTime then z.fallbackDuty else 0

/-- R45, R46. The target temperature of a zone. -/
def zoneTarget (z : ZoneRecord) (railOn : Bool) : Int := if railOn then z.target else z.release + z.band

/-- R46. The proportional demand at temperature `t`. -/
def proportionalDemand (z : ZoneRecord) (railOn : Bool) (t : Int) : Nat :=
  (clampInt 0 z.dmax ((zoneTarget z railOn - t) * z.gain)).toNat

/-- R45. The demand of zone `i` by the first row that applies. -/
def zoneDemand (s : State) (railOn : Bool) (i : Fin 3) : Nat :=
  let z := s.tbs.tables.zones[i]
  let r := lastReading s (zoneSensor i)
  if !z.valid then 0
  else if s.mbs.state.unheated then 0
  else if (s.znc.zones[i]).cutOut then 0
  else if r.health = .failed then fallbackDemand s railOn i
  else match r.temp with
    | none => fallbackDemand s railOn i
    | some t => proportionalDemand z railOn t

/-- R44, R56. The three demands are computed and handed to the HFD, which scales them on arrival (R31). -/
def handDemands (railOn : Bool) (s : State) : State :=
  recomputeDuties (s.setHfd
    { s.hfd with channels := tab fun i => { s.hfd.channels[i] with demand := zoneDemand s railOn i } })

/-- R54. Whether zone `i` is satisfied. -/
def zoneSatisfied (s : State) (i : Fin 3) : Bool :=
  let z := s.tbs.tables.zones[i]
  !z.valid ||
    (match (s.znc.zones[i]).soak with
      | some n => decide (s.tbs.tables.glob.soakTime ≤ n)
      | none => false) ||
    (zoneDegraded s i && decide (z.fallbackTime ≤ (s.znc.zones[i]).degraded))

/-- R57. The Z1 cold condition from the last set. -/
def z1ColdNow (s : State) : Bool :=
  let z := s.tbs.tables.zones[1]
  let r := lastReading s 1
  z.valid &&
    (r.health != .good ||
      match r.temp with
      | none => true
      | some t => decide (t < z.release))

end Sys2Proof.Machine
end

