-- ==== Sys2Proof/Machine/PanelOps.lean ====
section
/-! DEFINITION. The panel outputs as conditions on the POG's inputs (R146 to R148), and the end of every command, where
the pins follow their conditions. -/

namespace Sys2Proof.Machine

/-- R141. Whether a supervisory state is in an entry's permit mask. -/
def permitted (e : GateEntry) : MbsState → Bool
  | .boot => e.permitBoot
  | .run => e.permitRun
  | .warn => e.permitWarn
  | _ => false

/-- R146, R147. The part of an applied level that follows the requested level. -/
def requestedPart (s : State) (i : Fin 6) : Nat :=
  let e := s.tbs.tables.gate[i]
  if !s.mbs.pwrEn then 0
  else if !permitted e s.mbs.state then 0
  else if s.znc.z1Cold then min s.pog.requested[i] e.coldClamp
  else s.pog.requested[i]

/-- R147. Whether the condition of a status source holds. -/
def statusHolds (s : State) : StatusSource → Bool
  | .none => false
  | .heat => s.mbs.state == .heatHold
  | .fault => s.fcl.indication
  | .lockout => s.mbs.state == .lockout

/-- R146, R147. The applied level of an output: 0 where its entry is invalid; for an indicator 1 when either part is 1. -/
def appliedLevel (s : State) (i : Fin 6) : Nat :=
  let e := s.tbs.tables.gate[i]
  if !e.valid then 0
  else if isIndicator i then
    (if statusHolds s e.source || 1 ≤ requestedPart s i then 1 else 0)
  else requestedPart s i

/-- R148. The pins follow the applied levels. -/
def drivePins (s : State) : State := s.setPog { s.pog with applied := tab fun i => appliedLevel s i }

/-- A command's effect is complete: the pins follow, and the part goes on. -/
def done (s : State) : Result := .next (drivePins s)

/-- A command reaches a powered part; without supply the part takes nothing (R192, log entry 6). -/
def whenPowered (s : State) (effect : State → State) : Result :=
  if s.powered then done (effect s) else .next s

/-- R143. The requested levels take the restart defaults. -/
def loadRestartDefaults (s : State) : State :=
  s.setPog { s.pog with requested := tab fun i => defaultLevel s.tbs.tables i }

/-- R150. The requested level as the host reads it: 0 for an invalid entry. -/
def reportedRequest (s : State) (i : Fin 6) : Nat := if (s.tbs.tables.gate[i]).valid then s.pog.requested[i] else 0

end Sys2Proof.Machine
end

