-- ==== Sys2Proof/Machine/KeyOps.lean ====
section
/-! DEFINITION. Keys and chords: chord states (R134), release transitions (R131), the scanned set and what leaving and
entering it does (R101 to R104), the flush (R136). -/

namespace Sys2Proof.Machine

/-! Chords -/

/-- R134. A member of a held chord: down, not suppressed, its KEYMAP entry valid. -/
def keyHeld (s : State) (c : Fin 20) : Bool :=
  (s.tbs.tables.keymap[c]).valid && (s.keq.keys[c]).down && !(s.keq.keys[c]).suppressed

/-- R134, R138. Every member of the entry is down and unsuppressed. -/
def membersHeld (s : State) (e : ChordEntry) : Bool :=
  (List.finRange 20).all fun c => !e.members.getLsbD c.val || keyHeld s c

/-- R134. A valid chord is held while every member is. -/
def chordHeld (s : State) (i : Fin 8) : Bool :=
  (s.tbs.tables.chords[i]).valid && membersHeld s s.tbs.tables.chords[i]

/-- R134. Whether a chord's condition matches the rail. -/
def conditionMatches (pwrEn : Bool) : ChordCondition → Bool
  | .any => true
  | .railOn => pwrEn
  | .railOff => !pwrEn

/-- R134. The state a chord has, given whether it is held and whether its condition matches now. -/
def chordNext (held matching : Bool) (r : ChordRun) : ChordRun :=
  if held then
    match r.state with
    | .idle => if matching then ⟨.timing, 0⟩ else ⟨.spent, 0⟩
    | .timing => if matching then r else ⟨.spent, 0⟩
    | .fired | .spent => r
  else ⟨.idle, 0⟩

/-- R134. Every chord follows its members and the rail. -/
def syncChords (s : State) : State :=
  s.setKeq { s.keq with
    chords := tab fun i =>
      chordNext (chordHeld s i) (conditionMatches s.mbs.pwrEn (s.tbs.tables.chords[i]).condition) s.keq.chords[i] }

/-! Release of a key -/

/-- One key of the KEQ replaced by `f` of it. -/
def updKey (c : Fin 20) (f : MappedKey → MappedKey) (s : State) : State :=
  s.setKeq { s.keq with keys := upd s.keq.keys c f }

/-- R127, R132. The key outside the reported-down set, its repeat timer and count stopped and cleared. -/
def MappedKey.unreport (k : MappedKey) : MappedKey :=
  { k with reported := none, repeatTimer := 0, nextRepeat := 0, repeatCount := 0 }

/-- R131, R137. The KEY_UP of a channel in the reported-down set is offered, and the channel leaves the set. A channel
outside the set offers nothing. -/
def offerKeyUp (c : Fin 20) (cause : Cause) (s : State) : State :=
  match (s.keq.keys[c]).reported with
  | some code => updKey c MappedKey.unreport (offer (newEvent s .keyUp code cause c.val) s)
  | none => s

/-- R131. A release transition: discarded for a channel whose entry is invalid (R130); else the channel is marked not
down, its KEY_UP offered, its marks cleared, its chords no longer held. -/
def releaseTransition (c : Fin 20) (cause : Cause) (s : State) : State :=
  if (s.tbs.tables.keymap[c]).valid then
    syncChords (updKey c (fun k => { k with down := false, unreported := false, suppressed := false })
      (offerKeyUp c cause s))
  else s

/-- Release transitions with one cause, in the order given. -/
def releaseAll (cs : List (Fin 20)) (cause : Cause) (s : State) : State :=
  cs.foldl (fun s c => releaseTransition c cause s) s

/-! The scanned set -/

/-- Whether a key channel is TOUCHED or RELEASING, so that its end is a release transition (R103, R106). -/
def KeyState.isTouch : KeyState → Bool
  | .touched | .releasing => true
  | .idle | .arming => false

/-- R103, R115. The key state IDLE, the arming count and the stuck timer cleared. -/
def TouchKey.toIdle (k : TouchKey) : TouchKey := { k with state := .idle, arming := 0, stuck := none }

/-- R103, R104, R118. A key channel after the scanned set has been recomputed: `valid` is its entry's valid flag,
`inSet` whether the new set holds it. An invalid entry makes it DISABLED and not FAULTED, and
its two fault counts 0 at once (DESIGN CHOICE, log entry 31). -/
def TouchKey.rescanned (valid inSet : Bool) (k : TouchKey) : TouchKey :=
  if !valid then { k.toIdle with faulted := false, outCount := 0, inCount := 0, scanned := false }
  else if k.scanned && !inSet then { k.toIdle with scanned := false }
  else if !k.scanned && inSet then { k with scanned := true, seed := true }
  else k

/-- R103. Whether a channel's leaving of the scanned set hands a release transition: not where it is DISABLED. -/
def leavesTouched (s : State) (mode : ScanMode) (c : Fin 20) : Bool :=
  (s.tbs.tables.keymap[c]).valid && (s.tsu.keys[c]).scanned && !inScannedSet mode s.tbs.tables c &&
    (s.tsu.keys[c]).state.isTouch

/-- R101 to R104. The scanned set of `mode` is taken, and the releases of the channels that leave it are handed to the
key mapper in ascending order. -/
def rescan (mode : ScanMode) (s : State) : State :=
  releaseAll (indexesWhere (leavesTouched s mode)) .normal
    (s.setTsu { s.tsu with
      mode := mode
      keys := tab fun c =>
        (s.tsu.keys[c]).rescanned (s.tbs.tables.keymap[c]).valid (inScannedSet mode s.tbs.tables c) })

/-- R101. The scan mode of the rail. -/
def railMode (pwrEn : Bool) : ScanMode := if pwrEn then .active else .standby

/-! The flush -/

/-- R136. A key after the flush; `busy` says that its key state at the TSU is not IDLE. -/
def MappedKey.flushed (busy : Bool) (k : MappedKey) : MappedKey :=
  { k.unreport with unreported := false, suppressed := k.suppressed || busy }

/-- R136. The flush. -/
def flush (s : State) : State :=
  s.setKeq
    { keys := tab fun c => (s.keq.keys[c]).flushed ((s.tsu.keys[c]).state != .idle)
      chords := tab fun _ => ⟨.idle, 0⟩
      queue := [] }

/-- R133. The suppressed mark of every channel that the TSU holds IDLE is cleared. -/
def clearIdleSuppressed (s : State) : State :=
  syncChords (s.setKeq { s.keq with
    keys := tab fun c =>
      { s.keq.keys[c] with
        suppressed := (s.keq.keys[c]).suppressed && (s.tsu.keys[c]).state != .idle } })

end Sys2Proof.Machine
end

