-- ==== Sys2Proof/Machine/BoardOps.lean ====
section
/-! DEFINITION. The transitions of the Main Board Supervisor (R61 to R84), with what each does in the other blocks, and
the Fault Collector's records and reactions (R152 to R162). -/

namespace Sys2Proof.Machine

/-! Fault kinds and their conditions -/

/-- R153. The kinds without a lasting condition. -/
def eventLike (k : FaultKind) : Bool := not ([5, 6, 7, 8, 9, 11, 13].contains k.val)

/-- R12. Whether some sensor is electrically FAILED or the curve is short. -/
def sensorCondition (t : Tmu) : Bool := t.short || someEntry t.channels fun c => c.health == .failed

/-- R108. Whether some touch channel, key or reference, is FAULTED. -/
def touchCondition (t : Tsu) : Bool := (someEntry t.keys fun k => k.faulted) || someEntry t.refs fun r => r.faulted

/-- R153. The lasting condition of a kind, as its source block has it; absent for an event-like kind. -/
def faultCondition (s : State) (k : FaultKind) : Bool :=
  match k.val with
  | 5 => sensorCondition s.tmu
  | 6 => someEntry s.hfd.channels fun c => c.tripCondition
  | 7 => someEntry s.hfd.channels fun c => c.openLoad
  | 8 => someEntry s.znc.zones fun z => z.cutOut
  | 9 => s.hfd.fanState == .stalled
  | 11 => touchCondition s.tsu
  | 13 => s.tsu.disagreement
  | _ => false

/-! Records -/

/-- The record of kind `k` replaced. -/
def setRecord (k : FaultKind) (r : FaultRecord) (s : State) : State :=
  s.setFcl { s.fcl with records := s.fcl.records.set k r }

/-- R161. Whether some record out of CLEAR has the given reaction in force. -/
def someReaction (s : State) (p : ReactionEntry → Bool) : Bool :=
  (List.finRange 16).any fun k =>
    (s.fcl.records[k]).state != .clear && p (reactionInForce s.tbs.tables k)

/-- R161. The fault indication and the HOLD inhibit judged afresh. -/
def rejudge (s : State) : State :=
  s.setFcl { s.fcl with
    indication := someReaction s (fun e => e.indicate)
    hold := someReaction s (fun e => e.hold) }

/-- R156 to R158. The state an occurrence leaves a CLEAR record in. -/
def latchedState (k : FaultKind) (cls : FaultClass) : RecordState :=
  match cls with
  | .sw => .latched
  | .hw => if eventLike k then .clear else .active

/-- R155. A record after an occurrence at timestamp `now`. -/
def FaultRecord.occur (k : FaultKind) (detail now : Nat) (r : FaultRecord) : FaultRecord :=
  let r' := { r with occurrences := satAdd 255 r.occurrences 1, lastStamp := now }
  if r.state = .clear then
    { r' with firstDetail := detail, firstStamp := now, state := latchedState k r.cls }
  else r'

/-- R155, R160, R161. An occurrence is recorded, the two conditions judged, and a record that leaves CLEAR with REPORT
offers its FAULT event. The RESTART reaction is `report`'s. -/
def recordOccurrence (k : FaultKind) (detail : Nat) (s : State) : State :=
  let r := s.fcl.records[k]
  let s1 := rejudge (setRecord k (r.occur k detail (stamp s)) s)
  if r.state = .clear ∧ (reactionInForce s.tbs.tables k).report = true then
    offer (newEvent s1 .fault k.val .normal detail) s1
  else s1

/-! Rail changes -/

/-- Every timer that belongs to one supervisory state stopped. -/
def Mbs.leave (m : Mbs) : Mbs :=
  { m with
    pgLeft := 0, pgRunning := false, resetTimer := none, bootTimer := none, heartbeatTimer := none
    cycleTimer := none, lockoutTimer := none }

/-- R31, R35, R101, R134. MAIN_PWR_EN has been asserted or deasserted: the announced change is made, the duties and the
fan recomputed, the scan mode and the chords follow. -/
def railMoved (s : State) : State :=
  syncChords (rescan (railMode s.mbs.pwrEn) (recomputeFan (recomputeDuties (setRailChange .none s))))

/-- R65. The switch-on: the ZNC's notice (R56), the announcement (R32), the assertion and POWERING (R66). The override
mark falls as HEAT_HOLD is left (R59). The notice is a computation of the demands, so it takes up T2 values that have been
written since the last one (DESIGN CHOICE, log entry 30). -/
def switchOn (s : State) : State :=
  let noticed := handDemands true s
  let announced := recomputeDuties (setRailChange .switchOn noticed)
  railMoved ((announced.setMbs
    { announced.mbs.leave with
      state := .powering, pwrEn := true, rstN := false, pgRunning := true
      pgLeft := s.tbs.tables.policy.pgTimeout }).setZnc { announced.znc with override := false })

/-- R64. Release is judged: in HEAT_HOLD, with the release condition last handed and no HOLD inhibit, the rail goes on. -/
def judgeRelease (s : State) : State :=
  if s.mbs.state = .heatHold ∧ s.znc.release = true ∧ s.fcl.hold = false then switchOn s else s

/-- R59, R61, R64. Entry into HEAT_HOLD, from OFF or LOCKOUT (`fresh`) or from CYCLING; the HFD is told that OFF or
LOCKOUT is left (R31), and release is judged at once. The release condition judged is the one last handed, formed with the
degraded timers as they stood before this entry sets them to 0: a zone that had waited its fallback time before OFF or
LOCKOUT still counts as satisfied (DESIGN CHOICE, log entry 38). -/
def enterHeatHold (fresh : Bool) (s : State) : State :=
  judgeRelease (recomputeDuties ((s.setMbs
    { s.mbs.leave with state := .heatHold, pwrEn := false, rstN := false }).setZnc
      { s.znc with
        override := false
        zones := tab fun i =>
          { s.znc.zones[i] with degraded := if fresh then 0 else (s.znc.zones[i]).degraded } }))

/-! Fault conditions and release -/

/-- R64, R161. The two conditions judged afresh; the MBS judges release when the HOLD inhibit has ended. -/
def rejudgeRelease (s : State) : State :=
  if s.fcl.hold = true ∧ (rejudge s).fcl.hold = false then judgeRelease (rejudge s) else rejudge s

/-- R156. A source tells the FCL of its condition: an ACTIVE HW record whose condition has ended returns to CLEAR. -/
def conditionChanged (k : FaultKind) (s : State) : State :=
  let r := s.fcl.records[k]
  if r.cls = .hw ∧ r.state = .active ∧ faultCondition s k = false then
    rejudgeRelease (setRecord k { r with state := .clear } s)
  else s

/-! Departures from the rail-on states -/

/-- R92. The run time a departure records. -/
def runTime (m : Mbs) : Nat :=
  match m.state, m.runTicks with
  | .run, some t | .warn, some t => min 65535 (t / 100)
  | _, _ => 0

/-- R78, R91, R92. What the MBS hands the RHS at a departure. The token is the one held, from whatever run: R92 says so,
and says too that a departure from POWERING before the first accepted heartbeat records none (DESIGN CHOICE, log
entry 24). -/
def restartInfo (cause : Cause) (detail : Nat) (stage : Stage) (s : State) : RestartInfo :=
  { cause := cause, detail := detail, stage := stage, fromState := s.mbs.state, count := s.mbs.count
    temps := snapshot s, seconds := min 65535 (s.rhs.since / 100), runTime := runTime s.mbs
    token := s.mbs.token.getD 0, noToken := s.mbs.token.isNone }

/-- R78, R79. The common effects of a departure: flush, RESTART entry, pending shutdown cancelled, run timer stopped,
filter window abandoned (R37), MAIN_RST_N low. -/
def departCommon (cause : Cause) (detail : Nat) (stage : Stage) (s : State) : State :=
  let s1 := pushHistory (.restart (restartInfo cause detail stage s)) (flush s)
  (s1.setHfd { s1.hfd with filter := none }).setMbs
    { s1.mbs.leave with shutdown := none, runTicks := none, stable := none, rstN := false }

/-- R78, R80, R84. The switch-off into CYCLING, OFF or LOCKOUT: announcement (R33), deassertion, the new state and its
timer. -/
def switchOff (new : MbsState) (s : State) : State :=
  let announced := recomputeDuties (setRailChange (.switchOff new.unheated) s)
  let p := s.tbs.tables.policy
  railMoved (announced.setMbs
    { announced.mbs with
      state := new, pwrEn := false
      cycleTimer := if new = .cycling then some (p.cycleOffTime * 100) else none
      lockoutTimer := if new = .lockout ∧ 0 < p.lockoutRetry then some (p.lockoutRetry * 6000) else none })

/-- R75, R76, R82, R83. The state a departure's stage leads to. -/
def Stage.target : Stage → MbsState
  | .reset => .resetting
  | .cycle => .cycling
  | .lockout => .lockout
  | .off | .none => .off

/-- R78. The departure from a rail-on state with the given cause, detail and stage. -/
def depart (cause : Cause) (detail : Nat) (stage : Stage) (s : State) : State :=
  let s1 := departCommon cause detail stage s
  if stage = .reset then
    s1.setMbs { s1.mbs with state := .resetting, resetTimer := some s.tbs.tables.policy.resetPulse }
  else switchOff stage.target s1

/-- R75, R76. The states in which a restart cause is taken; it is absorbed in the others (R77). -/
def MbsState.takesRestart : MbsState → Bool
  | .powering | .boot | .run | .warn => true
  | _ => false

/-- R75. The stage of a decision whose count after the rise is `count`. -/
def decisionStage (p : Policy) (cause : Cause) (count : Nat) : Stage :=
  if count ≤ p.nReset then (if cause = .pgTimeout ∨ cause = .pgLost then .cycle else .reset)
  else if count ≤ p.nReset + p.nCycle then .cycle
  else .lockout

/-- R75, R77. A restart decision: the count rises, the stage is chosen, a LOCKOUT decision reports F15 with the cause,
the boot cause is set and the state left. F15 never restarts (R159), so its occurrence is only recorded. That its FAULT
event is offered before the departure is the model's (DESIGN CHOICE, log entry 36). -/
def restartDecision (cause : Cause) (detail : Nat) (s : State) : State :=
  if s.mbs.state.takesRestart then
    let stage := decisionStage s.tbs.tables.policy cause (s.mbs.count + 1)
    let s1 := s.setMbs { s.mbs with count := s.mbs.count + 1 }
    let s2 := if stage = .lockout then recordOccurrence 15 cause.code s1 else s1
    depart cause detail stage (s2.setMbs { s2.mbs with bootCause := cause })
  else s

/-- R76, R77. A requested restart takes its stage directly and leaves the count unchanged. -/
def requestedRestart (cause : Cause) (detail : Nat) (stage : Stage) (s : State) : State :=
  if s.mbs.state.takesRestart then depart cause detail stage (s.setMbs { s.mbs with bootCause := cause }) else s

/-- R155, R160. A source reports an occurrence: it is recorded, and a record that left CLEAR with RESTART in force hands
the MBS a restart cause FAULT with the kind as detail. -/
def report (k : FaultKind) (detail : Nat) (s : State) : State :=
  let s1 := recordOccurrence k detail s
  if (s.fcl.records[k]).state = .clear ∧ (reactionInForce s.tbs.tables k).restart = true then
    restartDecision .fault k.val s1
  else s1

/-- Occurrences of one kind, one after the other, with the details given. -/
def reportAll (k : FaultKind) (details : List Nat) (s : State) : State :=
  details.foldl (fun s d => report k d s) s

/-! OFF, wake and lockout -/

/-- R93. The WAKE entry of a departure from OFF or LOCKOUT; the count is that after the departure's own change. -/
def pushWake (cause : Cause) (detail : Nat) (stage : Stage) (fromState : MbsState) (s : State) : State :=
  pushHistory (.wake ⟨cause, detail, stage, fromState, s.mbs.count, snapshot s⟩) s

/-- R83, R84. A wake from OFF or LOCKOUT into HEAT_HOLD: leaving LOCKOUT sets the count to 0, the boot cause becomes the
wake's cause, a WAKE entry is pushed, release is judged. -/
def wake (cause : Cause) (detail : Nat) (s : State) : State :=
  let s1 := s.setMbs { s.mbs with
    bootCause := cause, count := if s.mbs.state = .lockout then 0 else s.mbs.count }
  enterHeatHold true (pushWake cause detail .none s.mbs.state s1)

/-- R83. A wake key: a wake in OFF, nothing elsewhere. -/
def wakeKey (c : Fin 20) (s : State) : State := if s.mbs.state = .off then wake .key c.val s else s

/-- R83, R84. The POWER_ON chord action: leaves OFF or LOCKOUT, discarded elsewhere. -/
def powerOnChord (i : Fin 8) (s : State) : State := if s.mbs.state.unheated then wake .chord i.val s else s

/-- R31, R61, R83. Entry into OFF from a rail-off state: the HFD is told, the override mark falls as HEAT_HOLD is left
(R59), a cycle or lockout timer is abandoned. -/
def enterOff (s : State) : State :=
  recomputeDuties ((s.setMbs { s.mbs.leave with state := .off }).setZnc { s.znc with override := false })

/-- R83. The POWER_OFF chord action: to OFF from any state but OFF. -/
def powerOffChord (i : Fin 8) (s : State) : State :=
  match s.mbs.state with
  | .off => s
  | .heatHold | .cycling => enterOff s
  | .lockout => enterOff (pushWake .chord i.val .off .lockout (s.setMbs { s.mbs with count := 0 }))
  | .powering | .boot | .run | .warn | .resetting => depart .chord i.val .off s

/-! BOOT, RUN and WARN -/

/-- R67. Entry into BOOT: the token cleared, the boot timer started, every table LOCKED, the restart defaults loaded,
the RESTART event offered. -/
def enterBoot (s : State) : State :=
  let p := s.tbs.tables.policy
  let s1 := loadRestartDefaults (((s.setMbs
    { s.mbs.leave with state := .boot, rstN := true, token := none, bootTimer := some (p.bootWindow * 100) }).setTbs
      { s.tbs with locks := tab fun _ => true }))
  offer (newEvent s1 .restart 0 s1.mbs.bootCause s1.mbs.count) s1

/-- R61, R69. The heartbeat limit in ticks. -/
def heartbeatTicks (p : Policy) : Nat := p.heartbeatLimit * 10

/-- R70, R37, R175. Entry into RUN from BOOT: the heartbeat timer and the run timer started, the stable time taken, a
filter window begun; an idle transmitter may take a record. -/
def enterRun (s : State) : State :=
  let p := s.tbs.tables.policy
  kickTx ((s.setMbs
    { s.mbs.leave with
      state := .run, heartbeatTimer := some (heartbeatTicks p), runTicks := some 0
      stable := some p.stableTime }).setHfd { s.hfd with filter := some (newFilterWindow s) })

/-- R71. Entry into WARN: the heartbeat timer restarted once, the WARN event offered. -/
def enterWarn (s : State) : State :=
  let p := s.tbs.tables.policy
  let s1 := s.setMbs { s.mbs with state := .warn, heartbeatTimer := some (heartbeatTicks p) }
  offer (newEvent s1 .warn 0 .normal p.heartbeatLimit) s1

/-- R54, R64. The release condition reaches the MBS. -/
def handRelease (r : Bool) (s : State) : State := judgeRelease (s.setZnc { s.znc with release := r })

/-! Touch transitions -/

/-- R132. The key in the reported-down set under `code`, its repeat timer started. -/
def MappedKey.report (code : Nat) (k : MappedKey) : MappedKey :=
  { k with reported := some code, repeatTimer := 0, nextRepeat := 50, repeatCount := 0 }

/-- R130, case 4. A KEY_DOWN is offered: admitted, the channel joins the reported-down set; refused, it is marked
unreported (R129); discarded, neither. -/
def offerKeyDown (c : Fin 20) (s : State) : State :=
  let code := (s.tbs.tables.keymap[c]).code
  let e := newEvent s .keyDown code .normal c.val
  match offerJudgement s e with
  | .admitted => updKey c (MappedKey.report code) (offer e s)
  | .refused => updKey c (fun k => { k with unreported := true }) (offer e s)
  | .discarded => s

/-- R130. A touch transition: discarded for a channel whose entry is invalid; else the channel is marked down, its chords
follow, and the first matching case acts. A wake key is taken by the MBS within it, with any switch-on (DESIGN CHOICE, log
entry 40). -/
def touchTransition (c : Fin 20) (s : State) : State :=
  let e := s.tbs.tables.keymap[c]
  if e.valid then
    let s1 := syncChords (updKey c (fun k => { k with down := true }) s)
    if (s1.keq.keys[c]).suppressed then s1
    else if s1.mbs.state = .off ∧ e.wake = true then wakeKey c s1
    else if e.isLocal then s1
    else offerKeyDown c s1
  else s

end Sys2Proof.Machine
end

