-- ==== Sys2Proof/Machine/Clock.lean ====
section
/-! DEFINITION. The model's own clock (log entry 1): the events that the part's running timers bring about by themselves,
when each falls due, the expiry of a timer as a command, and what a step does while no command waits. -/

namespace Sys2Proof.Machine

/-! The supervisor's expiries -/

/-- R66. F3, then a restart decision with cause PG_TIMEOUT; in POWERING no FAULT event is admitted, before the departure
or after it (R128). -/
def pgTimedOut (s : State) : State := restartDecision .pgTimeout 0 (report 3 0 s)

/-- R68. F2, then a restart decision with cause BOOT_TIMEOUT. That the FAULT event of F2 is offered before the departure
is the model's (DESIGN CHOICE, log entry 36). -/
def bootTimedOut (s : State) : State := restartDecision .bootTimeout 0 (report 2 0 s)

/-- R71, R72. The heartbeat timer has expired: WARN, or F1 and a restart decision. That the FAULT event of F1 is offered
before the departure is the model's (DESIGN CHOICE, log entry 36). -/
def heartbeatExpired (s : State) : State :=
  match s.mbs.state with
  | .run =>
    if s.tbs.tables.policy.warnEnable then enterWarn s
    else restartDecision .heartbeatMiss 0 (report 1 0 s)
  | .warn => restartDecision .heartbeatMiss 1 (report 1 1 s)
  | _ => s

/-- R82. The pending shutdown's expiry: OFF with cause HOST_REQUEST, detail 0 and stage OFF. -/
def shutdownExpired (s : State) : State := if s.mbs.state.railOn then depart .hostRequest 0 .off s else s

/-- R66. The power-good timer while it runs. -/
def runningPgTimer (m : Mbs) : Option Nat := if m.state = .powering ∧ m.pgRunning = true then some m.pgLeft else none

/-- One timer of the supervisor whose end moves it on: the command that stands for its expiry, the ticks that remain
while it runs, and what the expiry does. -/
structure BoardExpiry where
  /-- The row of the opcode table. -/
  cmd : Instr
  /-- The ticks that remain, none while the timer is stopped. -/
  timer : Mbs → Option Nat
  /-- The expiry. -/
  act : State → State

/-- R66, R68, R71, R79, R80, R82, R84. The timers whose end moves the supervisor on. Those due at the same tick are taken
in this order while no command waits; the spec leaves their order open (log entry 1). -/
def boardExpiries : List BoardExpiry :=
  [⟨.pendingShutdownExpiry, Mbs.shutdown, shutdownExpired⟩, ⟨.pgTimeout, runningPgTimer, pgTimedOut⟩,
    ⟨.resetPulseExpiry, Mbs.resetTimer, enterBoot⟩, ⟨.bootTimeout, Mbs.bootTimer, bootTimedOut⟩,
    ⟨.heartbeatExpiry, Mbs.heartbeatTimer, heartbeatExpired⟩,
    ⟨.cycleTimerExpiry, Mbs.cycleTimer, enterHeatHold false⟩,
    ⟨.lockoutRetryExpiry, Mbs.lockoutTimer, wake .retry 0⟩]

/-! The other timers -/

/-- R70. The ticks until the run timer reaches the stable time it has taken, while both stand. -/
def stableLeft (m : Mbs) : Option Nat :=
  match m.stable, m.runTicks with
  | some seconds, some ticks => some (seconds * 100 - ticks)
  | _, _ => none

/-- R36. The ticks until the running stall timer reaches 200. -/
def stallLeft (h : Hfd) : Option Nat := h.stall.map fun t => Config.stallTicks - t

/-- R38. A filter window judged loaded is reported at the instant of its end. -/
def filterLeft (h : Hfd) : Option Nat := h.loadedFilter.map fun _ => 0

/-- R132. The ticks until the next repeat of a channel in the reported-down set. -/
def repeatLeft (k : MappedKey) : Option Nat := k.reported.map fun _ => k.nextRepeat - k.repeatTimer

/-- R135. The ticks until a TIMING chord has been held for its hold time. -/
def chordLeft (s : State) (i : Fin 8) : Option Nat :=
  let r := s.keq.chords[i]
  if r.state = .timing then some ((s.tbs.tables.chords[i]).hold * 10 - r.timer) else none

/-! The level of MAIN_PG -/

/-- R74. The detail of a power-good loss in a state that judges it. -/
def pgLossDetail : MbsState → Option Nat
  | .boot => some 0
  | .run => some 1
  | .warn => some 2
  | _ => none

/-- R66, R74. The sample of MAIN_PG that would act now: a high level while the power-good timer runs; a low one in BOOT,
RUN or WARN, or while a reset pulse runs in POWERING (log entry 9). -/
def dueSample (m : Mbs) : Option Instr :=
  if m.mainPg then (if m.state = .powering ∧ m.pgRunning = true then some .mainPgHigh else none)
  else if (pgLossDetail m.state).isSome ∨ (m.state = .powering ∧ m.resetTimer.isSome = true) then some .powerGoodLoss
  else none

/-! Everything that falls due by itself -/

/-- The events that the part brings about by itself, each with the ticks until it falls due, in the order in which the
model takes those of one tick while no command waits. Chords stand in ascending order (R135). A stuck timer is judged at
scans alone (R115), and scans, conversions and periods bring values from outside. -/
def ownEvents (s : State) : List (Instr × Option Nat) :=
  ((dueSample s.mbs).toList.map fun c => (c, some 0)) ++
  (boardExpiries.map fun e => (e.cmd, e.timer s.mbs)) ++
  [(.filterWindowEnd, filterLeft s.hfd), (.stableTimeReached, stableLeft s.mbs), (.stallTimerExpiry, stallLeft s.hfd)] ++
  ((List.finRange 8).map fun i => (.chordFire i, chordLeft s i)) ++
  ((List.finRange 20).map fun c => (.repeatDue c, repeatLeft s.keq.keys[c]))

/-- Whether an event falls due within `n` ticks. -/
def dueWithin (n : Nat) (e : Instr × Option Nat) : Bool :=
  match e.2 with
  | some left => left ≤ n
  | none => false

/-- Whether none of the part's own events falls due before `n` ticks have passed. -/
def nothingBefore (n : Nat) (s : State) : Bool := n == 0 || (ownEvents s).all fun e => !dueWithin (n - 1) e

/-! An expiry as a command -/

/-- R85. What else the supervisor had due at the tick of an expiry acts in the same command, so that no expired timer is
left standing: `u` is the state at that tick, `t` what the expiry `c` has made of it. -/
def settle (c : Instr) (u t : State) : State :=
  boardExpiries.foldl (fun t e =>
    if e.cmd ≠ c ∧ e.timer u.mbs = some 0 ∧ e.timer t.mbs = some 0 then e.act t else t) t

/-- The event `c`, whose timer has `left` ticks to go: they pass, and it acts. No event comes out of a timer that is
stopped, nor before one that falls due earlier: then nothing happens (log entry 1). Its tick passes here, so it acts
before a scan of that tick, which could have released a chord's or a repeat's key; STUCK_TIMER_EXPIRY is that scan itself
and comes before what else is due at the tick (DESIGN CHOICE, log entry 34). -/
def expire (c : Instr) (left : Option Nat) (act : State → State) (s : State) : State :=
  match left with
  | some n => if nothingBefore n s then settle c (elapse n s) (act (elapse n s)) else s
  | none => s

/-! No command waits -/

/-- The first of the part's own events that falls due at this tick or, where there is none, at the next. -/
def nextDue (s : State) : Option Instr :=
  match (ownEvents s).find? (dueWithin 0) with
  | some e => some e.1
  | none => ((ownEvents s).find? (dueWithin 1)).map fun e => e.1

/-- What a step does while no command waits: a part without supply rests; else the next event that is due joins the
queue, its own tick still to pass; or one tick passes in which nothing falls due. What falls due at a tick so acts before
that tick's SCAN (DESIGN CHOICE, log entry 34). -/
def idle (s : State) : State :=
  if s.powered then
    match nextDue s with
    | some c => { s with pending := [c] }
    | none => elapse 1 s
  else s

end Sys2Proof.Machine
end

