-- ==== Sys2Proof/Machine/Operands.lean ====
section
/-! DEFINITION. A taken request: the receiver and the reply buffer (R170, R172), the checks every owner shares (R173),
and the status-only replies (R198). -/

namespace Sys2Proof.Machine

/-- R170. The frame has been taken: the receiver is in HUNT, its gap timer stopped. -/
def rxTaken (s : State) : State := s.setSlp { s.slp with rx := .hunt, gap := none, body := [], toGo := 0 }

/-- R172. A request is taken: discarded with an F0 occurrence of detail OVERRUN while the reply buffer holds a reply
that has not been sent to its last byte, else served. -/
def takeRequest (serve : State → State) (s : State) : State :=
  if s.slp.reply.isSome then report 0 4 (rxTaken s) else serve (rxTaken s)

/-- R173. A command that is a taken request: its owner serves it. -/
def request (s : State) (serve : State → State) : Result := whenPowered s (takeRequest serve)

/-- R198. A reply that carries the status alone. -/
def refuse (kind tag : Byte) (status : Status) (s : State) : State := reply kind tag status [] s

/-- R173, check 2, for a request without payload. -/
def withNoPayload (kind tag : Byte) (payload : List Byte) (serve : State → State) (s : State) : State :=
  match payload with
  | [] => serve s
  | _ => refuse kind tag .badLength s

/-- R173, check 2, for a request of one payload byte. -/
def withOneByte (kind tag : Byte) (payload : List Byte) (serve : Nat → State → State) (s : State) : State :=
  match payload with
  | [a] => serve a.toNat s
  | _ => refuse kind tag .badLength s

/-- R173, check 2, for a request of two payload bytes. -/
def withTwoBytes (kind tag : Byte) (payload : List Byte) (serve : Nat → Nat → State → State) (s : State) : State :=
  match payload with
  | [a, b] => serve a.toNat b.toNat s
  | _ => refuse kind tag .badLength s

/-- R173, check 2, for a request of three payload bytes. -/
def withThreeBytes (kind tag : Byte) (payload : List Byte) (serve : Nat → Nat → Nat → State → State) (s : State) :
    State :=
  match payload with
  | [a, b, c] => serve a.toNat b.toNat c.toNat s
  | _ => refuse kind tag .badLength s

/-- R173, checks 3 to 6: the first failing check gives the status. -/
def checkedRequest (kind tag : Byte) (checks : List (Bool × Status)) (serve : State → State) (s : State) : State :=
  match checks.find? (fun c => !c.1) with
  | some c => refuse kind tag c.2 s
  | none => serve s

/-- R69, R85. Ticks as 100 ms units, rounded up. -/
def tenths (ticks : Nat) : Nat := (ticks + 9) / 10

end Sys2Proof.Machine
end

