-- ==== Sys2Proof/Machine/Board.lean ====
section
/-! DEFINITION. The supervisor's events, HEARTBEAT and POWER REQUEST (R66 to R84). An expiry command is the expiry of
Machine/Clock.lean: the ticks that its timer still has pass first (log entry 1). -/

namespace Sys2Proof.Machine

/-! MAIN_PG -/

/-- R66. A high sample: in POWERING, while the power-good timer runs, it stops where it stands and the reset pulse
begins. -/
def pgHigh (s : State) : State :=
  let m := { s.mbs with mainPg := true }
  if m.state = .powering ∧ m.pgRunning = true then
    s.setMbs { m with pgRunning := false, resetTimer := some s.tbs.tables.policy.resetPulse }
  else s.setMbs m

/-- MAIN_PG_HIGH (R66). -/
def execMainPgHigh (s : State) : Result := whenPowered s pgHigh

/-- R66, R74. A low sample: F4 and a restart decision in BOOT, RUN and WARN; in POWERING, while the reset pulse timer
runs, the pulse is abandoned and the power-good timer resumes. That the FAULT event of F4 is offered before the departure
is the model's (DESIGN CHOICE, log entry 36). -/
def pgLow (s : State) : State :=
  let s1 := s.setMbs { s.mbs with mainPg := false }
  match pgLossDetail s.mbs.state with
  | some d => restartDecision .pgLost d (report 4 d s1)
  | none =>
    if s.mbs.state = .powering ∧ s.mbs.resetTimer.isSome = true then
      s1.setMbs { s1.mbs with resetTimer := none, pgRunning := true }
    else s1

/-- POWER_GOOD_LOSS (R74). -/
def execPowerGoodLoss (s : State) : Result := whenPowered s pgLow

/-- PG_TIMEOUT (R66). -/
def execPgTimeout (s : State) : Result := whenPowered s fun s => expire .pgTimeout (runningPgTimer s.mbs) pgTimedOut s

/-- RESET_PULSE_EXPIRY (R66, R79): MAIN_RST_N goes high and the MBS enters BOOT. -/
def execResetPulseExpiry (s : State) : Result :=
  whenPowered s fun s => expire .resetPulseExpiry s.mbs.resetTimer enterBoot s

/-! Boot and heartbeats -/

/-- BOOT_TIMEOUT (R68). -/
def execBootTimeout (s : State) : Result := whenPowered s fun s => expire .bootTimeout s.mbs.bootTimer bootTimedOut s

/-- R69. The ticks left on the timer a heartbeat would feed. -/
def feedTimer (m : Mbs) : Nat := (if m.state = .boot then m.bootTimer else m.heartbeatTimer).getD 0

/-- R69, R68, R70, R72. An accepted heartbeat: the token is held; BOOT is left for RUN; in RUN and WARN the heartbeat
timer restarts and the state is RUN. -/
def acceptHeartbeat (token : Byte) (s : State) : State :=
  let s1 := s.setMbs { s.mbs with token := some token }
  if s.mbs.state = .boot then enterRun s1
  else kickTx (s1.setMbs
    { s1.mbs with state := .run, heartbeatTimer := some (heartbeatTicks s.tbs.tables.policy) })

/-- R69. A HEARTBEAT past its length check. -/
def heartbeatToken (tag token : Byte) (s : State) : State :=
  let left := be16 (tenths (feedTimer s.mbs))
  if s.mbs.state.admits then
    if s.mbs.token = some token then reply 0x02 tag .stale left s
    else acceptHeartbeat token (reply 0x02 tag .ok left s)
  else refuse 0x02 tag .state s

/-- R69, R173. -/
def serveHeartbeat (tag : Byte) (payload : List Byte) (s : State) : State :=
  withOneByte 0x02 tag payload (fun t => heartbeatToken tag (byteOf t)) s

/-- HEARTBEAT (R69). -/
def execHeartbeat (tag : Byte) (payload : List Byte) (s : State) : Result := request s (serveHeartbeat tag payload)

/-- HEARTBEAT_EXPIRY (R71). -/
def execHeartbeatExpiry (s : State) : Result :=
  whenPowered s fun s => expire .heartbeatExpiry s.mbs.heartbeatTimer heartbeatExpired s

/-- R70. The stable time is reached: the consecutive count is 0. -/
def stableReached (s : State) : State := s.setMbs { s.mbs with count := 0, stable := none }

/-- STABLE_TIME_REACHED (R70). -/
def execStableTimeReached (s : State) : Result :=
  whenPowered s fun s => expire .stableTimeReached (stableLeft s.mbs) stableReached s

/-! Rail-off timers -/

/-- CYCLE_TIMER_EXPIRY (R80): HEAT_HOLD, where release is judged at once. -/
def execCycleTimerExpiry (s : State) : Result :=
  whenPowered s fun s => expire .cycleTimerExpiry s.mbs.cycleTimer (enterHeatHold false) s

/-- LOCKOUT_RETRY_EXPIRY (R84): the count 0, boot cause RETRY, a WAKE entry, HEAT_HOLD. -/
def execLockoutRetryExpiry (s : State) : Result :=
  whenPowered s fun s => expire .lockoutRetryExpiry s.mbs.lockoutTimer (wake .retry 0) s

/-! POWER REQUEST -/

/-- R82. The pending shutdown armed with a delay in seconds. -/
def armShutdown (seconds : Nat) (s : State) : State := s.setMbs { s.mbs with shutdown := some (seconds * 100) }

/-- R81. What a permitted POWER REQUEST does once its reply stands in the buffer. -/
def powerAction (action delay : Nat) (s : State) : State :=
  match action with
  | 0 => requestedRestart .hostRequest 0 .reset s
  | 1 => requestedRestart .hostRequest 0 .cycle s
  | _ => armShutdown delay s

/-- R81. A POWER REQUEST past its length check. -/
def powerChecks (tag : Byte) (action delay : Nat) (s : State) : State :=
  checkedRequest 0x20 tag [(action ≤ 2 && (action != 2 || 1 ≤ delay), .badArg), (s.mbs.state.admits, .state)]
    (fun s => powerAction action delay (reply 0x20 tag .ok [] s)) s

/-- R81, R173. -/
def servePowerRequest (tag : Byte) (payload : List Byte) (s : State) : State :=
  withTwoBytes 0x20 tag payload (powerChecks tag) s

/-- POWER_REQUEST (R81). -/
def execPowerRequest (tag : Byte) (payload : List Byte) (s : State) : Result :=
  request s (servePowerRequest tag payload)

/-- PENDING_SHUTDOWN_EXPIRY (R82). -/
def execPendingShutdownExpiry (s : State) : Result :=
  whenPowered s fun s => expire .pendingShutdownExpiry s.mbs.shutdown shutdownExpired s

end Sys2Proof.Machine
end

