-- ==== Sys2Proof/Machine/Heaters.lean ====
section
/-! DEFINITION. The heater periods, trips and open-load judgements (R19 to R28), the tachometer and the stall (R36). -/

namespace Sys2Proof.Machine

/-! The period -/

/-- R26. Whether the period now ended was loaded: it had a trip, or the largest current, in mA, reached one eighth of
the trip level, in 0.1 A. -/
def periodLoaded (peak : Nat) (c : HeaterChannel) : Bool := c.tripped || decide (c.level * 100 ≤ peak * 8)

/-- R26, R27. The load judgement of the period now ended; a period in which the channel did not drive is not judged. A
period in which the zone record has changed is judged too, under the trip level it began with, and is the first of the
ten (DESIGN CHOICE, log entry 28). So is the period whose trip latched the channel, since it drove in it: R26 judges it,
where R23 has the open-load state hold while latched, and as the tenth loaded period it ends open-load (DESIGN CHOICE, log
entry 39). -/
def judgeLoad (peak : Nat) (c : HeaterChannel) : HeaterChannel :=
  if c.periodDuty = 0 then c
  else if periodLoaded peak c then
    let n := satAdd 10 c.loadedCount 1
    { c with loadedCount := n, lowCount := 0, openLoad := c.openLoad && decide (n < 10) }
  else
    let n := satAdd 10 c.lowCount 1
    { c with lowCount := n, loadedCount := 0, openLoad := c.openLoad || decide (10 ≤ n) }

/-- R21, R23. The trip condition and the consecutive-trip count of a period now ended. -/
def judgeTrip (c : HeaterChannel) : HeaterChannel :=
  if c.tripped then c else { c with tripCondition := false, tripCount := 0 }

/-- R19. The judgements of the period now ended are closed. -/
def closePeriod (peak : Nat) (c : HeaterChannel) : HeaterChannel := judgeTrip (judgeLoad peak c)

/-- R19, R20, R22, R25. The new period opens: the trip fields of the record are taken, the applied duty becomes the
period's, the output goes on for a duty above 0; a LATCHED_OFF channel stays so and does not drive. -/
def openPeriod (z : ZoneRecord) (c : HeaterChannel) : HeaterChannel :=
  let c' := { c with level := z.tripLevel, mode := z.tripMode, timeout := z.tripTimeout, tripped := false }
  if c.state = .latchedOff then { c' with periodDuty := 0, output := false }
  else if c.applied = 0 then { c' with state := .idle, periodDuty := 0, output := false }
  else { c' with state := .driving, periodDuty := c.applied, output := true }

/-- R19. The channels with the ended period's judgements closed. -/
def closedChannels (peaks : Fin 3 → Nat) (h : Hfd) : Vector HeaterChannel 3 :=
  tab fun i => closePeriod (peaks i) h.channels[i]

/-- R26. The channels that go open-load at this period start. Their F7 occurrences are reported in ascending order,
which the spec leaves open (DESIGN CHOICE, log entry 23). -/
def openLoadEntries (before after : Vector HeaterChannel 3) : List Nat :=
  (indexesWhere fun i : Fin 3 => !(before[i]).openLoad && (after[i]).openLoad).map Fin.val

/-- R19, R26 to R28. The judgements closed, the ZNC told (R51), F7 and F6 reported. The three channels are closed
together, so the F7 condition does not end where one channel leaves open-load and another enters it (DESIGN CHOICE, log
entry 29). A HOLD inhibit that ends here may switch the main board on, before the new period opens (DESIGN CHOICE, log
entry 26). -/
def closePeriods (peaks : Fin 3 → Nat) (s : State) : State :=
  let closed := closedChannels peaks s.hfd
  let s1 := syncDegraded (s.setHfd { s.hfd with channels := closed })
  conditionChanged 6 (conditionChanged 7 (reportAll 7 (openLoadEntries s.hfd.channels closed) s1))

/-- R19. The new period opens on every channel. -/
def openPeriods (s : State) : State :=
  s.setHfd { s.hfd with channels := tab fun i => openPeriod s.tbs.tables.zones[i] s.hfd.channels[i] }

/-- PERIOD_START (R19). A recomputation that an F7 with RESTART, or a HOLD inhibit that ends with its record, causes
here is taken before the period start, so the new period runs the new duties; R19 allows either order (DESIGN CHOICE,
log entry 26). -/
def execPeriodStart (p0 p1 p2 : Nat) (s : State) : Result :=
  whenPowered s fun s => openPeriods (closePeriods (![p0, p1, p2]) s)

/-- R19. The on-time of a DRIVING channel ends; at duty 1000 the output stays on for the whole period. -/
def onTimeEnd (i : Fin 3) (s : State) : State :=
  let c := s.hfd.channels[i]
  if c.state = .driving ∧ c.periodDuty < 1000 then
    s.setHfd { s.hfd with channels := upd s.hfd.channels i fun c => { c with output := false } }
  else s

/-- HEATER_ON_TIME_END (R19). -/
def execHeaterOnTimeEnd (ch : Fin 3) (s : State) : Result := whenPowered s (onTimeEnd ch)

/-! Trips -/

/-- R21, R22. A trip: the output is on, the period has had none yet, the current, in mA, lies above the trip level. -/
def isTrip (c : HeaterChannel) (current : Nat) : Bool := c.output && !c.tripped && decide (c.level * 100 < current)

/-- R22. The output off for the rest of the period. -/
def chopChannel (count : Nat) (c : HeaterChannel) : HeaterChannel :=
  { c with state := .chopped, output := false, tripCount := count }

/-- R23. The channel LATCHED_OFF, its output off, its count 0. -/
def latchChannel (c : HeaterChannel) : HeaterChannel :=
  { c with state := .latchedOff, output := false, tripCount := 0 }

/-- R22, R23. What a trip does to its channel by the trip mode in force. -/
def tripAction (c : HeaterChannel) : HeaterChannel :=
  match c.mode with
  | .report => c
  | .chop => chopChannel c.tripCount c
  | .chopTimed =>
    if c.timeout.periods ≤ c.tripCount + 1 then latchChannel c else chopChannel (c.tripCount + 1) c
  | .latch => latchChannel c

/-- R22, R23, R31. The trip mode acts on the channel; an entry into LATCHED_OFF recomputes the duties. -/
def actOnTrip (i : Fin 3) (s : State) : State :=
  let s1 := s.setHfd { s.hfd with channels := upd s.hfd.channels i tripAction }
  if (s1.hfd.channels[i]).state = .latchedOff then recomputeDuties s1 else s1

/-- R21. The trip is noted as the period's, and its condition set. -/
def noteTrip (i : Fin 3) (s : State) : State :=
  s.setHfd { s.hfd with channels := upd s.hfd.channels i fun c => { c with tripped := true, tripCondition := true } }

/-- R22. A trip reports F6 with the channel number and then acts by the channel's mode. -/
def heaterTrip (i : Fin 3) (current : Nat) (s : State) : State :=
  if isTrip s.hfd.channels[i] current then actOnTrip i (report 6 i.val (noteTrip i s)) else s

/-- HEATER_TRIP (R22). -/
def execHeaterTrip (ch : Fin 3) (current : Nat) (s : State) : Result := whenPowered s (heaterTrip ch current)

/-- R24, R31, R51. The F6 record has been cleared: every LATCHED_OFF channel becomes IDLE with its count 0, the duties
are recomputed and the ZNC told. -/
def releaseHeaters (s : State) : State :=
  syncDegraded (recomputeDuties (s.setHfd { s.hfd with
    channels := tab fun i =>
      if (s.hfd.channels[i]).state = .latchedOff then { s.hfd.channels[i] with state := .idle, tripCount := 0 }
      else s.hfd.channels[i] }))

/-! The fan's tachometer -/

/-- R36. A pulse is counted; at a duty of 200 or more it restarts the stall timer and ends a stall. -/
def tachPulse (s : State) : State :=
  let h := { s.hfd with pulses := s.hfd.pulses + 1 }
  if h.fanDuty < 200 then s.setHfd h
  else if h.fanState = .stalled then conditionChanged 9 (s.setHfd { h with fanState := .running, stall := some 0 })
  else s.setHfd { h with stall := some 0 }

/-- FAN_TACH_PULSE (R36). -/
def execFanTachPulse (s : State) : Result := whenPowered s tachPulse

/-- R36. The fan STALLED, the stall timer stopped, F9 reported. -/
def stallFan (s : State) : State := report 9 0 (s.setHfd { s.hfd with fanState := .stalled, stall := none })

/-- R36. The running stall timer reaches 200 ticks, once those that remain have passed (log entry 1). -/
def stallExpiry (s : State) : State := expire .stallTimerExpiry (stallLeft s.hfd) stallFan s

/-- STALL_TIMER_EXPIRY (R36). -/
def execStallTimerExpiry (s : State) : Result := whenPowered s stallExpiry

end Sys2Proof.Machine
end

