-- ==== Sys2Proof/Machine/Faults.lean ====
section
/-! DEFINITION. FAULT READ and FAULT CLEAR (R163, R164). -/

namespace Sys2Proof.Machine

/-- R163, R198. The items of a FAULT READ. -/
def recordItems (s : State) (k : FaultKind) : List Byte :=
  let r := s.fcl.records[k]
  [byteOf r.state.code, byteOf r.cls.code, byteOf r.occurrences, byteOf r.firstDetail] ++ be16 r.firstStamp ++
    be16 r.lastStamp ++
    [byteOf (flag (faultCondition s k)), byteOf (flag (s.tbs.tables.reactions[k]).valid),
      (reactionInForce s.tbs.tables k).reactionBits]

/-- R163. A FAULT READ past its length check. -/
def readFault (tag : Byte) (kind : Nat) (s : State) : State :=
  if h : kind < 16 then reply 0x50 tag .ok (recordItems s ⟨kind, h⟩) s else refuse 0x50 tag .badArg s

/-- R163, R173. -/
def serveFaultRead (tag : Byte) (payload : List Byte) (s : State) : State :=
  withOneByte 0x50 tag payload (readFault tag) s

/-- FAULT_READ (R163). -/
def execFaultRead (tag : Byte) (payload : List Byte) (s : State) : Result := request s (serveFaultRead tag payload)

/-- R164. The kinds a FAULT CLEAR names. -/
def namedKinds (kind : Nat) : List FaultKind := (List.finRange 16).filter fun k => kind = 0xFF || k.val = kind

/-- R164. Whether a clear of kind `k` clears its record. -/
def clearable (s : State) (k : FaultKind) : Bool := (s.fcl.records[k]).state == .latched && !faultCondition s k

/-- R164. The named records that a clear clears, in order of kind. -/
def clearedKinds (s : State) (kind : Nat) : List FaultKind := (namedKinds kind).filter (clearable s)

/-- R164. A record cleared: CLEAR, occurrences, first detail and both timestamps 0. -/
def FaultRecord.cleared (r : FaultRecord) : FaultRecord := FaultRecord.powerOn r.cls

/-- R164. The records judged by a clear. -/
def clearRecords (kind : Nat) (s : State) : State :=
  s.setFcl { s.fcl with
    records := tab fun k =>
      if (clearedKinds s kind).contains k then (s.fcl.records[k]).cleared else s.fcl.records[k] }

/-- R164, R24. After the records and the two conditions, the heaters are released when F6 went from LATCHED to CLEAR. -/
def clearFaults (kind : Nat) (s : State) : State :=
  let s1 := rejudgeRelease (clearRecords kind s)
  if (clearedKinds s kind).contains 6 then releaseHeaters s1 else s1

/-- R164. A FAULT CLEAR past its length check: the reply carries the number of records cleared. -/
def clearFault (tag : Byte) (kind : Nat) (s : State) : State :=
  checkedRequest 0x51 tag [(kind ≤ 15 || kind == 0xFF, .badArg)]
    (fun s => clearFaults kind (reply 0x51 tag .ok [byteOf (clearedKinds s kind).length] s)) s

/-- R164, R173. -/
def serveFaultClear (tag : Byte) (payload : List Byte) (s : State) : State :=
  withOneByte 0x51 tag payload (clearFault tag) s

/-- FAULT_CLEAR (R164). -/
def execFaultClear (tag : Byte) (payload : List Byte) (s : State) : Result := request s (serveFaultClear tag payload)

end Sys2Proof.Machine
end

