-- ==== Sys2Proof/Machine/History.lean ====
section
/-! DEFINITION. HISTORY READ, MARK and CLEAR (R95 to R98), with the layouts of their replies (R198, R199). -/

namespace Sys2Proof.Machine

/-- R195. The four temperatures of a snapshot. -/
def tempBytes (t : Vector Int 4) : List Byte := (List.finRange 4).flatMap fun i => beInt16 t[i]

/-- R199, selector 0. The fields after the timestamp. -/
def HistoryBody.summary : HistoryBody → List Byte
  | .powerOn load => [byteOf load.code]
  | .restart e =>
    [byteOf e.cause.code, byteOf e.detail, byteOf e.stage.code, byteOf e.fromState.code, byteOf e.count]
  | .wake e =>
    [byteOf e.cause.code, byteOf e.detail, byteOf e.stage.code, byteOf e.fromState.code, byteOf e.count]
  | .mark _ => []

/-- R96, R199. The field group of a selector, none where the entry's type does not carry the selector. -/
def HistoryEntry.group (selector : Nat) (e : HistoryEntry) : Option (List Byte) :=
  match selector, e.body with
  | 0, b => some (be16 e.stamp ++ b.summary)
  | 1, .restart i => some (tempBytes i.temps)
  | 1, .wake i => some (tempBytes i.temps)
  | 2, .restart i => some (be16 i.seconds ++ be16 i.runTime ++ [i.token, byteOf (flag i.noToken)])
  | 3, .mark bs => some bs
  | _, _ => none

/-- R198. The items of an OK reply to HISTORY READ. -/
def HistoryEntry.items (inStack : Nat) (group : List Byte) (e : HistoryEntry) : List Byte :=
  [byteOf e.body.code] ++ be16 e.ordinal.toNat ++ [byteOf inStack] ++ group

/-- R95. A HISTORY READ past its argument check. -/
def readDepth (tag : Byte) (depth selector : Nat) (s : State) : State :=
  match s.rhs.entries[depth]? with
  | none => refuse 0x30 tag .empty s
  | some e =>
    match e.group selector with
    | some group => reply 0x30 tag .ok (e.items s.rhs.entries.length group) s
    | none => reply 0x30 tag .badArg [byteOf e.body.code] s

/-- R95. A HISTORY READ past its length check. -/
def readHistory (tag : Byte) (depth selector : Nat) (s : State) : State :=
  checkedRequest 0x30 tag [(depth ≤ 15 && selector ≤ 3, .badArg)] (readDepth tag depth selector) s

/-- R95, R173. -/
def serveHistoryRead (tag : Byte) (payload : List Byte) (s : State) : State :=
  withTwoBytes 0x30 tag payload (readHistory tag) s

/-- HISTORY_READ (R95). -/
def execHistoryRead (tag : Byte) (payload : List Byte) (s : State) : Result := request s (serveHistoryRead tag payload)

/-- R97. The states in which a mark is permitted. -/
def MbsState.takesMark : MbsState → Bool
  | .run | .warn => true
  | _ => false

/-- R97. A permitted mark: the reply carries the ordinal of the entry it pushes. -/
def markHistory (tag : Byte) (payload : List Byte) (s : State) : State :=
  pushHistory (.mark payload) (reply 0x31 tag .ok (be16 s.rhs.nextOrdinal.toNat) s)

/-- R97, R173. -/
def serveHistoryMark (tag : Byte) (payload : List Byte) (s : State) : State :=
  checkedRequest 0x31 tag [(payload.length == 8, .badLength), (s.mbs.state.takesMark, .state)]
    (markHistory tag payload) s

/-- HISTORY_MARK (R97). -/
def execHistoryMark (tag : Byte) (payload : List Byte) (s : State) : Result := request s (serveHistoryMark tag payload)

/-- R98. The stack emptied; the ordinal and the since-last-entry counter stand. -/
def clearHistory (s : State) : State := s.setRhs { s.rhs with entries := [] }

/-- R98, R173. -/
def serveHistoryClear (tag : Byte) (payload : List Byte) (s : State) : State :=
  withNoPayload 0x32 tag payload
    (fun s => clearHistory (reply 0x32 tag .ok [byteOf s.rhs.entries.length] s)) s

/-- HISTORY_CLEAR (R98). -/
def execHistoryClear (tag : Byte) (payload : List Byte) (s : State) : Result :=
  request s (serveHistoryClear tag payload)

end Sys2Proof.Machine
end

