-- ==== Sys2Proof/Machine/Keys.lean ====
section
/-! DEFINITION. The repeat of a reported key (R132) and the firing of a chord (R135). -/

namespace Sys2Proof.Machine

/-! Repeats -/

/-- R132. A due time passes: the count rises, the next repeat falls due 10 ticks on. -/
def MappedKey.countRepeat (k : MappedKey) : MappedKey :=
  { k with repeatCount := satAdd 255 k.repeatCount 1, nextRepeat := k.nextRepeat + 10 }

/-- R132. The due time of a channel reported under `code`: the count rises, and with repeat on and local off a
KEY_REPEAT is offered. -/
def repeatKey (c : Fin 20) (code : Nat) (s : State) : State :=
  let s1 := updKey c MappedKey.countRepeat s
  let e := s1.tbs.tables.keymap[c]
  if e.repeats && !e.isLocal then
    offer (newEvent s1 .keyRepeat code .normal (c.val * 256 + (s1.keq.keys[c]).repeatCount)) s1
  else s1

/-- R132. The repeat of a channel in the reported-down set falls due; no repeat is due for a channel outside the set. -/
def repeatFires (c : Fin 20) (s : State) : State :=
  match (s.keq.keys[c]).reported with
  | some code => repeatKey c code s
  | none => s

/-- R132. The repeat timer of a channel reaches its due time, once the ticks that remain have passed (log entry 1). -/
def repeatDue (c : Fin 20) (s : State) : State :=
  expire (.repeatDue c) (repeatLeft s.keq.keys[c]) (repeatFires c) s

/-- REPEAT_DUE (R132). -/
def execRepeatDue (key : Fin 20) (s : State) : Result := whenPowered s (repeatDue key)

/-! Chords -/

/-- R55. The HEAT_OVERRIDE action: the mark is set in HEAT_HOLD, the action discarded elsewhere. -/
def overrideHeat (s : State) : State :=
  if s.mbs.state = .heatHold then s.setZnc { s.znc with override := true } else s

/-- R135. The action of chord `i` handed to its block. -/
def chordAction (i : Fin 8) (a : ChordAction) (s : State) : State :=
  match a with
  | .restart => requestedRestart .chord i.val .reset s
  | .cycle => requestedRestart .chord i.val .cycle s
  | .powerOff => powerOffChord i s
  | .powerOn => powerOnChord i s
  | .heatOverride => overrideHeat s
  | .report => s

/-- R135. Chord `i` FIRED, its hold timer stopped. -/
def markFired (i : Fin 8) (s : State) : State :=
  s.setKeq { s.keq with chords := upd s.keq.chords i fun r => { r with state := .fired } }

/-- R135. A chord fires: FIRED, its CHORD event offered, then its action handed. -/
def fireChord (i : Fin 8) (s : State) : State :=
  let a := (s.tbs.tables.chords[i]).action
  let s1 := markFired i s
  chordAction i a (offer (newEvent s1 .chord i.val .normal a.code) s1)

/-- R135. Chord `j` fires if it is TIMING and its hold time is reached. A chord that another chord, fired at the same
tick, has taken out of TIMING by its action does not fire (log entry 25). -/
def fireIfDue (s : State) (j : Fin 8) : State := if chordLeft s j = some 0 then fireChord j s else s

/-- R135. Chords due at the same tick fire in ascending order: those below `i` before it, each completing its offer and
hand-off before the next. -/
def fireUpTo (i : Fin 8) (s : State) : State := ((List.finRange 8).filter (· ≤ i)).foldl fireIfDue s

/-- R135. The hold timer of a TIMING chord reaches the hold time, once the ticks that remain have passed (log entry 1);
the lower chords due at that tick fire first. -/
def chordFire (i : Fin 8) (s : State) : State := expire (.chordFire i) (chordLeft s i) (fireUpTo i) s

/-- CHORD_FIRE (R135). -/
def execChordFire (chord : Fin 8) (s : State) : Result := whenPowered s (chordFire chord)

end Sys2Proof.Machine
end

