-- ==== Sys2Proof/Machine/Panel.lean ====
section
/-! DEFINITION. PANEL SET (R144). -/

namespace Sys2Proof.Machine

/-- R144. Output `i` takes a requested level. -/
def setRequested (i : Fin 6) (level : Nat) (s : State) : State :=
  s.setPog { s.pog with requested := s.pog.requested.set i level }

/-- R144. The level an accepted request stores. -/
def storedLevel (i : Fin 6) (level : Nat) : Nat := min level (outputMax i)

/-- R144. The status of an accepted request. -/
def panelStatus (s : State) (i : Fin 6) (level : Nat) : Status :=
  if outputMax i < level ∨ (s.znc.z1Cold = true ∧ (s.tbs.tables.gate[i]).coldClamp < storedLevel i level) then .okClamped
  else .ok

/-- R144. A permitted request: the level is stored and applied, and the reply carries both levels. -/
def setPanel (tag : Byte) (i : Fin 6) (level : Nat) (s : State) : State :=
  let s1 := setRequested i (storedLevel i level) s
  reply 0x40 tag (panelStatus s i level) (be16 (storedLevel i level) ++ be16 (appliedLevel s1 i)) s1

/-- R144. A PANEL SET of an output 0..5. -/
def setOutput (tag : Byte) (i : Fin 6) (level : Nat) (s : State) : State :=
  let e := s.tbs.tables.gate[i]
  checkedRequest 0x40 tag [(e.valid, .badArg), (permitted e s.mbs.state, .state)] (setPanel tag i level) s

/-- R144. A PANEL SET past its length check. -/
def panelLevel (tag : Byte) (output hi lo : Nat) (s : State) : State :=
  if h : output < 6 then setOutput tag ⟨output, h⟩ (hi * 256 + lo) s else refuse 0x40 tag .badArg s

/-- R144, R173. -/
def servePanelSet (tag : Byte) (payload : List Byte) (s : State) : State :=
  withThreeBytes 0x40 tag payload (panelLevel tag) s

/-- PANEL_SET (R144). -/
def execPanelSet (tag : Byte) (payload : List Byte) (s : State) : Result := request s (servePanelSet tag payload)

end Sys2Proof.Machine
end

