-- ==== Sys2Proof/WellFormed.lean ====
section
/-! DEFINITION. Which commands can arrive at the part at all: what a frame can carry (R168), what a row's event
presupposes of its own operand. `exec` is total and gives every command a next state, well-formed or not. -/

namespace Sys2Proof

/-- The request kinds of R173. -/
def requestKinds : List Nat :=
  [0x01, 0x02, 0x03, 0x10, 0x11, 0x12, 0x13, 0x14, 0x20, 0x30, 0x31, 0x32, 0x40, 0x50, 0x51, 0x60]

/-- Whether a KIND byte names a request (R173, check 1). -/
def isRequestKind (kind : Byte) : Bool := requestKinds.contains kind.toNat

/-- Whether a frame can carry the payload (R168: 0..63 bytes). -/
def framable (payload : List Byte) : Bool := payload.length ≤ Config.maxPayload

/-- Whether the command can arrive: a request's payload fits a frame, an UNKNOWN_KIND names no request,
a BAD_LENGTH_BYTE lies outside 2..65. -/
def Instr.wellFormed : Instr → Bool
  | .heartbeat _ p | .powerRequest _ p | .historyRead _ p | .historyMark _ p | .historyClear _ p
  | .touchRead _ p | .panelSet _ p | .faultRead _ p | .faultClear _ p | .ident _ p | .statusRead _ p
  | .tableRead _ p | .tableWrite _ p | .tableInvalidate _ p | .tableLock _ p | .storeSave _ p => framable p
  | .unknownKind kind _ p => !isRequestKind kind && framable p
  | .badLengthByte len => len.toNat < 2 || 65 < len.toNat
  | .partPowerOn _ | .partPowerOff | .conversionInstant _ _ _ _ | .suspectTimerExpiry _ | .filterWindowEnd
  | .periodStart _ _ _ | .heaterTrip _ _ | .fanTachPulse | .stallTimerExpiry | .mainPgHigh | .powerGoodLoss
  | .pgTimeout | .resetPulseExpiry | .bootTimeout | .heartbeatExpiry | .stableTimeReached | .cycleTimerExpiry
  | .pendingShutdownExpiry | .lockoutRetryExpiry | .scan _ | .stuckTimerExpiry _ | .repeatDue _ | .chordFire _
  | .badCharacter | .gapTimeout | .crcMismatch | .resyncIdle | .overrun | .txFrameEnd | .saveCompletion _
  | .goodCharacter _ | .heaterOnTimeEnd _ => true

end Sys2Proof
end

