-- ==== Sys2Proof/Machine/Store.lean ====
section
/-! DEFINITION. The table requests, the change notices and what each consumer does with them (R13, R25, R31, R35, R47,
R58, R63, R118, R137, R138, R149, R162, R181 to R188), and the saves of the retained store (R190, R191). -/

namespace Sys2Proof.Machine

/-! Consumers of a change notice; the named entries stand in the notice's order -/

/-- R137. An entry made invalid: KEY_UP UNMAPPED, the channel not down and unmarked, its chords IDLE. -/
def unmapKey (c : Fin 20) (s : State) : State :=
  syncChords (updKey c (fun k => { k with down := false, unreported := false, suppressed := false })
    (offerKeyUp c .unmapped s))

/-- R137. The key code of a channel that is down has changed: KEY_UP REMAP, the channel suppressed, its chords IDLE. -/
def remapKey (c : Fin 20) (s : State) : State :=
  syncChords (updKey c (fun k => { k with suppressed := true }) (offerKeyUp c .remap s))

/-- R137. An entry made valid: the channel not down, unmarked, outside the set. -/
def mapKey (c : Fin 20) (s : State) : State := updKey c (fun _ => MappedKey.powerOn) s

/-- R137. The KEQ takes one changed T0 entry; `old` holds the tables before the request. -/
def keymapChanged (old : Tables) (c : Fin 20) (s : State) : State :=
  let was := old.keymap[c]
  let now := s.tbs.tables.keymap[c]
  if was.valid && !now.valid then unmapKey c s
  else if !was.valid && now.valid then mapKey c s
  else if was.valid && was.code != now.code && (s.keq.keys[c]).down then remapKey c s
  else s

/-- R118. The TSU takes a change of T0 or T1: the scanned set is recomputed, and the F11 condition may end with a
channel that has become DISABLED. -/
def touchTablesChanged (s : State) : State := conditionChanged 11 (rescan s.tsu.mode s)

/-- R137, R118. A change of T0. -/
def noticeKeymap (old : Tables) (named : List (Fin 20)) (s : State) : State :=
  touchTablesChanged (named.foldl (fun s c => keymapChanged old c s) s)

/-- R138. A changed chord: SPENT where it is valid with every member down and unsuppressed, else IDLE. -/
def chordChanged (s : State) (i : Fin 8) : ChordRun := if chordHeld s i then ⟨.spent, 0⟩ else ⟨.idle, 0⟩

/-- R138, R118. A change of T1. -/
def noticeChords (named : List (Fin 8)) (s : State) : State :=
  touchTablesChanged (s.setKeq { s.keq with
    chords := tab fun i => if named.contains i then chordChanged s i else s.keq.chords[i] })

/-- R47, R58. A zone whose record has changed. -/
def zoneChanged (s : State) (i : Fin 3) : Zone :=
  let z := s.znc.zones[i]
  { cutOut := zoneCutOut s i
    degraded := if (s.tbs.tables.zones[i]).valid then z.degraded else 0
    soak := if (s.tbs.tables.zones[i]).valid then z.soak else none }

/-- R25. A heater channel whose zone record has changed; the trip fields follow at the next period start (R22). The
period in progress is still judged at its end, under the trip level it began with (DESIGN CHOICE, log entry 28). -/
def HeaterChannel.recordChanged (c : HeaterChannel) : HeaterChannel :=
  { c with tripCount := 0, lowCount := 0, loadedCount := 0 }

/-- R47. The named zones that enter cut-out at the change. Their F8 occurrences are reported in the notice's order,
which the spec leaves open (DESIGN CHOICE, log entry 23). -/
def changeCutOuts (named : List (Fin 3)) (s : State) : List Nat :=
  (named.filter fun i => !(s.znc.zones[i]).cutOut && zoneCutOut s i).map Fin.val

/-- R58, R57. The ZNC and the channel state of the HFD after a change of the named zone records. The demand at the HFD
stays the one last handed, also for a zone made invalid and valid again before the next computation (DESIGN CHOICE, log
entry 33). -/
def zonesChanged (named : List (Fin 3)) (s : State) : State :=
  (s.setZnc { s.znc with
    zones := tab fun i => if named.contains i then zoneChanged s i else s.znc.zones[i]
    z1Cold := if named.contains 1 then z1ColdNow s else s.znc.z1Cold }).setHfd
      { s.hfd with
        channels := tab fun i =>
          if named.contains i then (s.hfd.channels[i]).recordChanged else s.hfd.channels[i] }

/-- R58, R25, R31, R35. A change of T2, by zone record or of the global record. The changed zones are judged together, so
the F8 condition does not end where one leaves cut-out and another enters it (DESIGN CHOICE, log entry 29). -/
def noticeHeat (named : List (Fin 3)) (s : State) : State :=
  let entries := changeCutOuts named s
  conditionChanged 8 (reportAll 8 entries (recomputeFan (recomputeDuties (zonesChanged named s))))

/-- R149. A change of T3: the requested level of an invalid entry is 0; the applied levels follow (R148). -/
def noticeGate (named : List (Fin 6)) (s : State) : State :=
  s.setPog { s.pog with
    requested := tab fun i =>
      if named.contains i && !(s.tbs.tables.gate[i]).valid then 0 else s.pog.requested[i] }

/-- R13, R11, R12. A change of T4: the short condition judged, the ring emptied, F5 with detail CURVE where the curve
has become short. -/
def noticeCurve (s : State) : State :=
  let short := curveShort s.tbs.tables.curve
  let s1 := s.setTmu { s.tmu with short := short, ring := [], drift := 1 }
  conditionChanged 5 (reportAll 5 (if short && !s.tmu.short then [4] else []) s1)

/-- R63. The consecutive count under a new POLICY. -/
def noticePolicy (s : State) : State :=
  let p := s.tbs.tables.policy
  s.setMbs { s.mbs with
    count := if s.mbs.state = .lockout then p.nReset + p.nCycle + 1 else min s.mbs.count (p.nReset + p.nCycle) }

/-- R162. The state of a record whose class changes. -/
def movedState (before after : FaultClass) (present : Bool) (st : RecordState) : RecordState :=
  match before, after, st with
  | .hw, .sw, .active => .latched
  | .sw, .hw, .latched => if present then .active else .clear
  | _, _, st => st

/-- R162. A record under the entry now in force. -/
def reclassed (s : State) (k : FaultKind) : FaultRecord :=
  let r := s.fcl.records[k]
  let cls := (reactionInForce s.tbs.tables k).cls
  { r with cls := cls, state := movedState r.cls cls (faultCondition s k) r.state }

/-- R162, R161. A change of T6. -/
def noticeReactions (named : List FaultKind) (s : State) : State :=
  rejudgeRelease (s.setFcl { s.fcl with
    records := tab fun k => if named.contains k then reclassed s k else s.fcl.records[k] })

/-- The named indexes that lie below `n`. -/
def namedBelow (n : Nat) (named : List Nat) : List (Fin n) :=
  named.filterMap fun i => if h : i < n then some ⟨i, h⟩ else none

/-- R181. The change notice of a table reaches its consumers; `old` holds the tables before the request. An empty
notice changes nothing. -/
def notice (t : Nat) (old : Tables) (named : List Nat) (s : State) : State :=
  if named.isEmpty then s else
  match t with
  | 0 => noticeKeymap old (namedBelow 20 named) s
  | 1 => noticeChords (namedBelow 8 named) s
  | 2 => noticeHeat (namedBelow 3 named) s
  | 3 => noticeGate (namedBelow 6 named) s
  | 4 => noticeCurve s
  | 5 => noticePolicy s
  | 6 => noticeReactions (namedBelow 16 named) s
  | _ => s

/-! Table requests -/

/-- R184, R185, R188. The live tables replaced, the table's change flag set, the notice handed. -/
def changeTables (t : Fin 7) (T : Tables) (named : List Nat) (s : State) : State :=
  notice t.val s.tbs.tables named (s.setTbs { s.tbs with tables := T, changed := s.tbs.changed.set t true })

/-- R182. The argument check of a TABLE READ. -/
def readInRange (t first count : Nat) : Bool :=
  first < tableSize t && 1 ≤ count && first + count ≤ tableSize t && count * entrySize t ≤ 62

/-- R182. A TABLE READ past its length check. -/
def readTable (tag : Byte) (t first count : Nat) (s : State) : State :=
  checkedRequest 0x10 tag [(t ≤ 6, .badTable), (readInRange t first count, .badArg)]
    (reply 0x10 tag .ok (readEntries s.tbs.tables t first count)) s

/-- R182, R173. -/
def serveTableRead (tag : Byte) (payload : List Byte) (s : State) : State :=
  withThreeBytes 0x10 tag payload (readTable tag) s

/-- TABLE_READ (R182). -/
def execTableRead (tag : Byte) (payload : List Byte) (s : State) : Result := request s (serveTableRead tag payload)

/-- R183, R184. A TABLE WRITE of an UNLOCKED table. -/
def writeUnlocked (tag : Byte) (t : Fin 7) (first count : Nat) (entries : List Byte) (s : State) : State :=
  match writtenTables s.tbs.tables t.val first count entries with
  | some T => changeTables t T (List.range' first count) (reply 0x11 tag .ok [] s)
  | none => refuse 0x11 tag .badArg s

/-- R173. A TABLE WRITE past its length check: table, then lock. -/
def writeTable (tag : Byte) (t first count : Nat) (entries : List Byte) (s : State) : State :=
  if h : t < 7 then
    if s.tbs.locks[t] then refuse 0x11 tag .locked s else writeUnlocked tag ⟨t, h⟩ first count entries s
  else refuse 0x11 tag .badTable s

/-- R173. The length of a TABLE WRITE depends on its table and count. -/
def writeLengthOk (t count : Nat) (entries : List Byte) : Bool :=
  6 < t || entries.length == count * entrySize t

/-- R184, R173. A payload that no frame can carry (R168) has no length of R173 (log entry 3). -/
def serveTableWrite (tag : Byte) (payload : List Byte) (s : State) : State :=
  match payload with
  | t :: first :: count :: entries =>
    if framable payload && writeLengthOk t.toNat count.toNat entries then writeTable tag t.toNat first.toNat count.toNat entries s
    else refuse 0x11 tag .badLength s
  | _ => refuse 0x11 tag .badLength s

/-- TABLE_WRITE (R184). -/
def execTableWrite (tag : Byte) (payload : List Byte) (s : State) : Result := request s (serveTableWrite tag payload)

/-- R185. A TABLE INVALIDATE of an UNLOCKED table. -/
def invalidateUnlocked (tag : Byte) (t : Fin 7) (first extra : Nat) (s : State) : State :=
  checkedRequest 0x12 tag [(first < tableSize t.val && extra < tableSize t.val, .badArg)]
    (fun s => changeTables t (invalidatedTables s.tbs.tables t.val first extra) (invalidatedIndexes t.val first extra)
      (reply 0x12 tag .ok [] s)) s

/-- R185, R173. A TABLE INVALIDATE past its length check. -/
def invalidateTable (tag : Byte) (t first extra : Nat) (s : State) : State :=
  if h : t < 7 then
    if t = 5 then refuse 0x12 tag .badTable s
    else if s.tbs.locks[t] then refuse 0x12 tag .locked s
    else invalidateUnlocked tag ⟨t, h⟩ first extra s
  else refuse 0x12 tag .badTable s

/-- R185, R173. -/
def serveTableInvalidate (tag : Byte) (payload : List Byte) (s : State) : State :=
  withThreeBytes 0x12 tag payload (invalidateTable tag) s

/-- TABLE_INVALIDATE (R185). -/
def execTableInvalidate (tag : Byte) (payload : List Byte) (s : State) : Result :=
  request s (serveTableInvalidate tag payload)

/-- R186. The named table, or all for 0xFF, LOCKED or UNLOCKED. -/
def setLocks (t : Nat) (locked : Bool) (s : State) : State :=
  s.setTbs { s.tbs with locks := tab fun i => if t = 0xFF ∨ i.val = t then locked else s.tbs.locks[i] }

/-- R186. A TABLE LOCK past its length check. -/
def lockTable (tag : Byte) (t code : Nat) (s : State) : State :=
  checkedRequest 0x13 tag [(t ≤ 6 || t == 0xFF, .badTable), (code == 0x3C || code == 0xC3, .badArg)]
    (fun s => setLocks t (code == 0xC3) (reply 0x13 tag .ok [] s)) s

/-- R186, R173. -/
def serveTableLock (tag : Byte) (payload : List Byte) (s : State) : State :=
  withTwoBytes 0x13 tag payload (lockTable tag) s

/-- TABLE_LOCK (R186). -/
def execTableLock (tag : Byte) (payload : List Byte) (s : State) : Result := request s (serveTableLock tag payload)

/-! Saves -/

/-- R190. The snapshot is taken, every change flag cleared, the store WRITING. -/
def beginSave (s : State) : State :=
  s.setTbs { s.tbs with store := .writing s.tbs.tables, changed := tab fun _ => false }

/-- R190. A STORE SAVE past its length check. -/
def saveStore (tag : Byte) (s : State) : State :=
  match s.tbs.store with
  | .writing _ => refuse 0x14 tag .busy s
  | .idle => beginSave (reply 0x14 tag .ok [] s)

/-- R190, R173. -/
def serveStoreSave (tag : Byte) (payload : List Byte) (s : State) : State :=
  withNoPayload 0x14 tag payload (saveStore tag) s

/-- STORE_SAVE (R190). -/
def execStoreSave (tag : Byte) (payload : List Byte) (s : State) : Result := request s (serveStoreSave tag payload)

/-- R125. The STORE event offered. -/
def offerStore (value : Nat) (s : State) : State := offer (newEvent s .store 0 .normal value) s

/-- R191. A save that verified. -/
def saveMatched (snapshot : Tables) (s : State) : State :=
  offerStore 0 (s.setTbs { s.tbs with store := .idle, result := .ok, image := .written (imageBytes snapshot) })

/-- R191. A save that did not verify. Its F14 occurrence, with the FAULT event and any RESTART, comes before its STORE
event; R128 leaves the order open (DESIGN CHOICE, log entry 32). -/
def saveMismatched (s : State) : State :=
  offerStore 1 (report 14 1 (s.setTbs
    { s.tbs with store := .idle, result := .failed, image := .rejected, changed := tab fun _ => true }))

/-- R191. Writing ends; nothing ends in an IDLE store. -/
def saveCompletion (verified : Bool) (s : State) : State :=
  match s.tbs.store with
  | .writing snapshot => if verified then saveMatched snapshot s else saveMismatched s
  | .idle => s

/-- SAVE_COMPLETION (R191). -/
def execSaveCompletion (verified : Bool) (s : State) : Result := whenPowered s (saveCompletion verified)

end Sys2Proof.Machine
end

