-- ==== Sys2Proof/Machine/Temperature.lean ====
section
/-! DEFINITION. Temperature measurement and the once-a-second computation (R1 to R18, R37, R38, R44 to R57). -/

namespace Sys2Proof.Machine

/-! One channel -/

/-- R1. A raw code in range. -/
def codeInRange (code : Nat) : Bool := 16 ≤ code && code ≤ 4079

/-- R2. A code enters the window, the oldest of eight dropped. -/
def pushWindow (w : List Nat) (code : Nat) : List Nat := (w ++ [code]).drop (w.length + 1 - 8)

/-- R2, R3. One conversion of a GOOD channel. -/
def convertGood (code : Nat) (c : TmuChannel) : TmuChannel :=
  if codeInRange code then { c with window := pushWindow c.window code, outCount := 0 }
  else
    let n := satAdd 255 c.outCount 1
    if 3 ≤ n then { c with outCount := n, health := .suspect, window := [], runCount := 0, suspect := some 0 }
    else { c with outCount := n }

/-- R5. The run and the window of a channel that is not GOOD after one conversion; the eighth in-range code makes it
GOOD. -/
def convertRun (code : Nat) (c : TmuChannel) : TmuChannel :=
  if codeInRange code then
    let c' := { c with window := pushWindow c.window code, runCount := c.runCount + 1, outCount := 0 }
    if 8 ≤ c.runCount + 1 then { c' with health := .good, suspect := none } else c'
  else { c with window := [], runCount := 0, outCount := satAdd 255 c.outCount 1 }

/-- R4. The channel FAILED, its suspect timer stopped. -/
def TmuChannel.fail (c : TmuChannel) : TmuChannel := { c with health := .failed, suspect := none }

/-- R4. The suspect timer counts the instant; at 80 a channel that is still SUSPECT becomes FAILED. -/
def countSuspect (c : TmuChannel) : TmuChannel :=
  match c.suspect with
  | some t => if Config.suspectInstants ≤ t + 1 then c.fail else { c with suspect := some (t + 1) }
  | none => c

/-- R2 to R5. One conversion of a channel. -/
def convertChannel (code : Nat) (c : TmuChannel) : TmuChannel :=
  match c.health with
  | .good => convertGood code c
  | .suspect | .failed => countSuspect (convertRun code c)

/-! Linearization -/

/-- R9, R10. From the valid point `p`, whose raw code is at or below `x`, along the points after it: the interpolated
temperature, or the last point's with the out-of-table flag where `x` lies beyond it. -/
def alongCurve (p : Nat × Int) (x : Nat) : List (Nat × Int) → Int × Bool
  | [] => (p.2, decide (p.1 < x))
  | q :: rest =>
    if x < q.1 then (p.2 + (((x : Int) - p.1) * (q.2 - p.2)).tdiv ((q.1 : Int) - p.1), false)
    else alongCurve q x rest

/-- R9, R10. An averaged raw code through the valid points: temperature and out-of-table flag. -/
def linearize (points : List (Nat × Int)) (x : Nat) : Int × Bool :=
  match points with
  | [] => (0, true)
  | p :: rest => if x < p.1 then (p.2, true) else alongCurve p x rest

/-- R2. The averaged raw code of a full window. -/
def windowAverage (w : List Nat) : Nat := w.sum / 8

/-- R2. Whether a channel forms a new temperature at a second boundary. -/
def formsTemperature (short : Bool) (c : TmuChannel) : Bool :=
  c.health == .good && c.window.length == 8 && !short

/-- R2. A channel at a second boundary. -/
def formChannel (short : Bool) (points : List (Nat × Int)) (c : TmuChannel) : TmuChannel :=
  if formsTemperature short c then
    let r := linearize points (windowAverage c.window)
    { c with held := some r.1, outOfTable := r.2 }
  else c

/-! Reported health, ring and drift -/

/-- R11. The health reported to other blocks. -/
def reportedHealth (t : Tmu) (i : Fin 4) : Health := if t.short then .failed else (t.channels[i]).health

/-- R16, R17. The ring emptied, the drift class 1. -/
def Tmu.emptyRing (t : Tmu) : Tmu := { t with ring := [], drift := 1 }

/-- R16. A value enters the ring, the oldest of nine dropped. -/
def pushRing (ring : List Int) (v : Int) : List Int := (ring ++ [v]).drop (ring.length + 1 - 9)

/-- R17. The drift class of a slope. -/
def classOfSlope (slope : Int) : Fin 3 := if slope.natAbs < 5 then 0 else if slope.natAbs < 20 then 1 else 2

/-- R17. The drift class from the ring and S1's reported health. -/
def driftOf (ring : List Int) (s1Good : Bool) : Fin 3 :=
  if ring.length = 9 ∧ s1Good = true then classOfSlope (ring.getLastD 0 - ring.headD 0) else 1

/-- R14. The set handed at a boundary. -/
def Tmu.handedSet (t : Tmu) : TempSet :=
  ⟨tab fun i => ⟨(t.channels[i]).held, reportedHealth t i, (t.channels[i]).outOfTable⟩, t.drift⟩

/-- R2, R14, R16, R17. The TMU at a second boundary, over the valid points of the curve. -/
def Tmu.boundary (points : List (Nat × Int)) (t : Tmu) : Tmu :=
  let formed := tab fun i => formChannel t.short points t.channels[i]
  let ring :=
    if formsTemperature t.short t.channels[1] then pushRing t.ring (((formed[1]).held).getD 0) else t.ring
  let t1 := { t with channels := formed, ring := ring }
  let t2 := { t1 with drift := driftOf ring (reportedHealth t1 1 == Health.good) }
  { t2 with lastSet := some t2.handedSet }

/-! The Zone Controller's computation -/

/-- R44, step 1. The cut-out conditions against the last set. -/
def computeCutOuts (s : State) : State :=
  s.setZnc { s.znc with zones := tab fun i => { s.znc.zones[i] with cutOut := zoneCutOut s i } }

/-- R47. The zones that enter cut-out when the conditions are judged now. Their F8 occurrences are reported in ascending
order, which the spec leaves open (DESIGN CHOICE, log entry 23). -/
def cutOutEntries (s : State) : List Nat :=
  (indexesWhere fun i : Fin 3 => !(s.znc.zones[i]).cutOut && zoneCutOut s i).map Fin.val

/-- R44, step 2. The degraded and soak timers. -/
def computeTimers (s : State) : State :=
  s.setZnc { s.znc with
    zones := tab fun i => { s.znc.zones[i] with degraded := degradedNow s i, soak := soakNow s i } }

/-- R44, step 4, R55. The release condition; a heat override mark counts every zone as satisfied. -/
def releaseNow (s : State) : Bool := s.znc.override || (List.finRange 3).all fun i => zoneSatisfied s i

/-- R44, steps 1 to 5, but for handing the release condition and the F8 changes on: the mark is consumed. -/
def zoneComputation (s : State) : State :=
  let s2 := computeTimers (computeCutOuts s)
  let s3 := handDemands s.mbs.state.railOn s2
  s3.setZnc { s3.znc with override := false, z1Cold := z1ColdNow s2 }

/-! The Heater and Fan Driver at a set -/

/-- R35. The fan speed of the second now ended. -/
def measureSpeed (s : State) : State :=
  s.setHfd { s.hfd with speed := min 65535 (30 * s.hfd.pulses), pulses := 0 }

/-- R38. The difference S0 − S3 of the last set, where both can be read. -/
def filterDifference (s : State) : Option Int :=
  let r0 := lastReading s 0
  let r3 := lastReading s 3
  match r0.temp, r3.temp with
  | some a, some b => if r0.health = .failed ∨ r3.health = .failed then none else some (a - b)
  | _, _ => none

/-- R38. The detail of the F10 occurrence a window's end makes, if it makes one. -/
def filterVerdict (s : State) (w : FilterWindow) : Option Nat :=
  match filterDifference s with
  | some d => if w.fullDuty ∧ s.tbs.tables.glob.filterDelta ≤ d then some (min 255 (d.tdiv 10).toNat) else none
  | none => none

/-- R38. The F10 occurrence of a window judged loaded is reported, if there is one to report. -/
def reportFilter (loaded : Option Nat) (s : State) : State :=
  match loaded with
  | some d => report 10 d s
  | none => s

/-- R37, R38. A window ends: it is judged from this set, the next begins, and its occurrence is left for
FILTER_WINDOW_END to report at once (log entry 2); the occurrence of an earlier window still unreported is reported
first. -/
def endFilterWindow (w : FilterWindow) (s : State) : State :=
  reportFilter s.hfd.loadedFilter
    (s.setHfd { s.hfd with filter := some (newFilterWindow s), loadedFilter := filterVerdict s w })

/-- R37. A set is counted in the window in progress; the 600th ends it. -/
def countFilterSet (s : State) : State :=
  match s.hfd.filter with
  | none => s
  | some w =>
    let w' := { w with sets := w.sets + 1 }
    if Config.filterSets ≤ w'.sets then endFilterWindow w' s else s.setHfd { s.hfd with filter := some w' }

/-! Commands -/

/-- R14, R44. A second boundary: the set is formed and handed to the ZNC, the HFD, the FCL and the MBS in turn. The zones
are judged together, so the F8 condition does not end where one leaves cut-out and another enters it (DESIGN CHOICE, log
entry 29). -/
def secondBoundary (s : State) : State :=
  let s1 := s.setTmu (s.tmu.boundary (validPoints s.tbs.tables.curve))
  let release := releaseNow (computeTimers (computeCutOuts s1))
  let s2 := countFilterSet (recomputeFan (measureSpeed (zoneComputation s1)))
  handRelease release (conditionChanged 8 (reportAll 8 (cutOutEntries s1) s2))

/-- R4. The channels that a conversion makes FAILED. Their F5 occurrences are reported in ascending order, which the spec
leaves open (DESIGN CHOICE, log entry 23). -/
def newlyFailed (before after : Tmu) : List Nat :=
  (indexesWhere fun i : Fin 4 =>
    (before.channels[i]).health != .failed && (after.channels[i]).health == .failed).map Fin.val

/-- R1 to R5, R16. The TMU takes the four conversions of an instant; S1's leaving of GOOD empties the ring. -/
def Tmu.convert (codes : Vector (BitVec 12) 4) (t : Tmu) : Tmu :=
  let t1 := { t with
    instants := t.instants + 1
    channels := tab fun i => convertChannel (codes[i]).toNat t.channels[i]
    codes := codes }
  if reportedHealth t 1 = .good ∧ reportedHealth t1 1 ≠ .good then t1.emptyRing else t1

/-- R1. One conversion instant. Every eighth is a second boundary. The four channels are judged together, so the F5
condition does not end where one sensor recovers and another fails (DESIGN CHOICE, log entry 29). -/
def conversionInstant (codes : Vector (BitVec 12) 4) (s : State) : State :=
  let t := s.tmu.convert codes
  let s1 := conditionChanged 5 (reportAll 5 (newlyFailed s.tmu t) (s.setTmu t))
  if t.instants % 8 = 0 then secondBoundary s1 else s1

/-- CONVERSION_INSTANT (R1). -/
def execConversionInstant (c0 c1 c2 c3 : BitVec 12) (s : State) : Result :=
  whenPowered s (conversionInstant #v[c0, c1, c2, c3])

/-- R4. The next conversion instant brings the suspect timer of a SUSPECT channel to 80. -/
def suspectEnds (c : TmuChannel) : Bool :=
  c.health == .suspect && c.suspect.any fun t => Config.suspectInstants ≤ t + 1

/-- R4, R5. The conversion instant at which the suspect timer reaches 80 is made; the channel becomes FAILED at it unless
its code returns it to GOOD. An earlier instant, and a channel that is not SUSPECT, give no expiry (log entry 12). -/
def suspectExpiry (i : Fin 4) (s : State) : State :=
  if suspectEnds s.tmu.channels[i] then conversionInstant s.tmu.codes s else s

/-- SUSPECT_TIMER_EXPIRY (R4): the suspect timer reaches 80 conversion instants. Its row brings no raw codes, so the inputs
stand as they were last converted (DESIGN CHOICE, log entry 37). -/
def execSuspectTimerExpiry (sensor : Fin 4) (s : State) : Result := whenPowered s (suspectExpiry sensor)

/-- R38. The window that its 600th set has ended reports its F10 occurrence, once; a window that ended without one, and
a window in progress, report nothing. -/
def filterEnd (s : State) : State :=
  reportFilter s.hfd.loadedFilter (s.setHfd { s.hfd with loadedFilter := none })

/-- FILTER_WINDOW_END (R38): CONVERSION_INSTANT has taken the 600th set, which ended and judged the window (log entries 2
and 12). -/
def execFilterWindowEnd (s : State) : Result := whenPowered s filterEnd

end Sys2Proof.Machine
end

