-- ==== Sys2Proof/Machine/Touch.lean ====
section
/-! DEFINITION. The scan of the Touch Sense Unit (R100 to R117), the stuck key (R115) and TOUCH READ (R119). -/

namespace Sys2Proof.Machine

/-! Step 2: range and faults -/

/-- R106. A measurement in range. -/
def touchInRange (r : Nat) : Bool := 64 ≤ r && r != 65535

/-- R106, R107. The FAULTED flag and the two counts after a measurement. -/
def judgeFault (r : Nat) (faulted : Bool) (outs ins : Nat) : Bool × Nat × Nat :=
  if faulted then
    if touchInRange r then (if 16 ≤ ins + 1 then (false, 0, ins + 1) else (true, outs, ins + 1))
    else (true, outs, 0)
  else if touchInRange r then (false, 0, ins)
  else if 4 ≤ outs + 1 then (true, outs + 1, 0)
  else (false, outs + 1, ins)

/-- R106, R107. A measured key channel at step 2: a new fault makes it IDLE, an ended one makes it await its re-seed. -/
def TouchKey.judge (r : Nat) (k : TouchKey) : TouchKey :=
  let j := judgeFault r k.faulted k.outCount k.inCount
  let k' := { k with raw := r, faulted := j.1, outCount := j.2.1, inCount := j.2.2 }
  if !k.faulted && j.1 then k'.toIdle
  else if k.faulted && !j.1 then { k' with seed := true }
  else k'

/-- R106, R107. A reference at step 2. -/
def TouchRef.judge (r : Nat) (k : TouchRef) : TouchRef :=
  let j := judgeFault r k.faulted k.outCount k.inCount
  { k with raw := r, faulted := j.1, outCount := j.2.1, inCount := j.2.2, seed := k.seed || (k.faulted && !j.1) }

/-! Step 3: references -/

/-- R109, R110. Whether a reference, judged, contributes its delta: in range, not FAULTED, not re-seeding. -/
def TouchRef.usable (k : TouchRef) : Bool := touchInRange k.raw && !k.faulted && !k.seed

/-- R109. The delta of a usable reference; another's stands as it was. -/
def TouchRef.formDelta (k : TouchRef) : TouchRef :=
  if k.usable then { k with delta := (k.raw : Int) - (k.baseline / 16 : Nat) } else k

/-- R110. The counts and the condition after a comparison: disagreement count, agreement count, condition. -/
def judgeDisagreement (apart : Bool) (t : Tsu) : Nat × Nat × Bool :=
  if apart then
    let n := satAdd 10 t.disagree 1
    (n, 0, t.disagreement || decide (10 ≤ n))
  else
    let n := satAdd 10 t.agree 1
    (0, n, t.disagreement && decide (n < 10))

/-- R109, R110. Step 3, over references judged at step 2. -/
def Tsu.compareRefs (t : Tsu) : Tsu :=
  let refs := tab fun i => (t.refs[i]).formDelta
  let t' := { t with refs := refs }
  if (t.refs[0]).usable && (t.refs[1]).usable then
    let j := judgeDisagreement (decide (200 < ((refs[0]).delta - (refs[1]).delta).natAbs)) t
    { t' with disagree := j.1, agree := j.2.1, disagreement := j.2.2 }
  else t'

/-- R109. The value d_ref of a scan, after step 3. -/
def Tsu.dRef (t : Tsu) : Int :=
  if (t.refs[0]).usable && (t.refs[1]).usable && !t.disagreement then
    ((t.refs[0]).delta + (t.refs[1]).delta).tdiv 2
  else 0

/-! Step 4: guard and thresholds -/

/-- R112. Whether guard is in force at a scan with the given disagreement condition. -/
def guardNow (s : State) (disagreement : Bool) : Bool :=
  (s.znc.z1Cold && decide (0 < (s.hfd.channels[1]).applied)) || disagreement

/-- R112. T_on_eff. -/
def onThreshold (guarded : Bool) (e : KeymapEntry) : Nat := if guarded then 2 * e.sensitivity else e.sensitivity

/-- R112. T_off_eff. -/
def offThreshold (guarded : Bool) (e : KeymapEntry) : Nat := onThreshold guarded e * 3 / 4

/-! Step 5: key channels -/

/-- R111. The corrected count. -/
def correctedCount (r : Nat) (dRef : Int) (weight : Nat) : Nat :=
  (clampInt 0 65535 ((r : Int) - (dRef * weight).tdiv 16)).toNat

/-- What a scan hands the key mapper for one channel. -/
inductive KeyTransition where
  | none
  | touch
  | release (cause : Cause)
  deriving DecidableEq, Repr

/-- R113. The state step of a key in IDLE or ARMING. -/
def TouchKey.stepUp (on : Nat) (k : TouchKey) : TouchKey × KeyTransition :=
  if (on : Int) ≤ k.delta then
    if k.state = .idle then ({ k with state := .arming, arming := 1 }, .none)
    else if 3 ≤ k.arming + 1 then ({ k with state := .touched, arming := 0, stuck := some 0 }, .touch)
    else ({ k with arming := k.arming + 1 }, .none)
  else ({ k with state := .idle, arming := 0 }, .none)

/-- R114. The state step of a key in TOUCHED or RELEASING. -/
def TouchKey.stepDown (off : Nat) (k : TouchKey) : TouchKey × KeyTransition :=
  if k.delta < (off : Int) then
    if k.state = .touched then ({ k with state := .releasing }, .none)
    else (k.toIdle, .release .normal)
  else ({ k with state := .touched }, .none)

/-- R113, R114. The state step. -/
def TouchKey.stateStep (on off : Nat) (k : TouchKey) : TouchKey × KeyTransition :=
  if k.state.isTouch then k.stepDown off else k.stepUp on

/-- R115. Whether a key is stuck after its state step. -/
def TouchKey.isStuck (k : TouchKey) : Bool :=
  k.state.isTouch &&
    match k.stuck with
    | some t => Config.stuckTicks ≤ t
    | none => false

/-- R115. A stuck key: IDLE, its baseline at the corrected count. -/
def TouchKey.unstick (k : TouchKey) : TouchKey := { k.toIdle with baseline := k.corrected * 16 }

/-- R116. The factor a of a drift class. -/
def driftFactor (d : Fin 3) : Nat :=
  match d with
  | 0 => 1
  | 1 => 8
  | 2 => 32

/-- R116, R117. A baseline after one ordinary step towards a count. -/
def stepBaseline (baseline count factor : Nat) : Nat :=
  ((baseline : Int) + ((((count * 16 : Nat) : Int) - baseline) * factor).tdiv 256).toNat

/-- R116. The baseline update of a key that is IDLE after its state step. -/
def TouchKey.follow (off factor : Nat) (k : TouchKey) : TouchKey :=
  if k.state = .idle then
    if k.delta ≤ -(off : Int) then { k with baseline := k.corrected * 16 }
    else { k with baseline := stepBaseline k.baseline k.corrected factor }
  else k

/-- R104. A key channel at its re-seeding scan. -/
def TouchKey.reseed (c : Nat) (k : TouchKey) : TouchKey :=
  { k with corrected := c, delta := 0, baseline := c * 16, seed := false }

/-- R111, R113 to R116. A key channel that takes the whole of step 5, with corrected count `c`. -/
def TouchKey.sense (on off factor c : Nat) (k : TouchKey) : TouchKey × KeyTransition :=
  let j := ({ k with corrected := c, delta := (c : Int) - (k.baseline / 16 : Nat) } : TouchKey).stateStep on off
  if j.1.isStuck then (j.1.unstick, .release .stuck) else (j.1.follow off factor, j.2)

/-- R105, step 5. A key channel judged at step 2. -/
def TouchKey.step (guarded : Bool) (dRef : Int) (factor : Nat) (e : KeymapEntry) (k : TouchKey) :
    TouchKey × KeyTransition :=
  if touchInRange k.raw && !k.faulted then
    let c := correctedCount k.raw dRef e.weight
    if k.seed then (k.reseed c, .none)
    else k.sense (onThreshold guarded e) (offThreshold guarded e) factor c
  else (k, .none)

/-! Step 6 -/

/-- R104, R117. A reference's baseline at the end of a scan, its delta formed. -/
def TouchRef.follow (factor : Nat) (k : TouchRef) : TouchRef :=
  if touchInRange k.raw && !k.faulted then
    if k.seed then { k with baseline := k.raw * 16, seed := false }
    else { k with baseline := stepBaseline k.baseline k.raw factor }
  else k

/-! The whole scan -/

/-- R117. The drift class of the last temperature set; 1 before the first. -/
def scanDrift (s : State) : Fin 3 :=
  match s.tmu.lastSet with
  | some t => t.drift
  | none => 1

/-- The raw count of a key channel. -/
def keyRaw (raw : Vector (BitVec 16) 22) (c : Fin 20) : Nat := (raw[c.val]).toNat

/-- The raw count of a reference, index 20 or 21. -/
def refRaw (raw : Vector (BitVec 16) 22) (i : Fin 2) : Nat := (raw[i.val + 20]).toNat

/-- R105, steps 1 and 2. -/
def Tsu.judged (raw : Vector (BitVec 16) 22) (t : Tsu) : Tsu :=
  { t with
    keys := tab fun c => if (t.keys[c]).scanned then (t.keys[c]).judge (keyRaw raw c) else t.keys[c]
    refs := tab fun i => (t.refs[i]).judge (refRaw raw i) }

/-- R105, steps 1 to 4. -/
def scanPrepared (raw : Vector (BitVec 16) 22) (s : State) : Tsu :=
  let t := (s.tsu.judged raw).compareRefs
  { t with guarded := guardNow s t.disagreement }

/-- R105, step 5, of one key channel: one not scanned keeps its values, one that a fault made IDLE at step 2 hands its
release with cause FAULT (R106). -/
def scanKey (raw : Vector (BitVec 16) 22) (s : State) (c : Fin 20) : TouchKey × KeyTransition :=
  let t := scanPrepared raw s
  let k := t.keys[c]
  let was := s.tsu.keys[c]
  if !was.scanned then (k, .none)
  else if !was.faulted && k.faulted then (k, if was.state.isTouch then .release .fault else .none)
  else k.step t.guarded t.dRef (driftFactor (scanDrift s)) s.tbs.tables.keymap[c]

/-- R105, steps 1 to 6. The TSU after a scan. -/
def scanned (raw : Vector (BitVec 16) 22) (s : State) : Tsu :=
  let t := scanPrepared raw s
  { t with
    keys := tab fun c => (scanKey raw s c).1
    refs := tab fun i => (t.refs[i]).follow (driftFactor (scanDrift s))
    lastScan := some s.tick }

/-- R105, step 7. One transition reaches the key mapper (R130, R131). -/
def handTransition (c : Fin 20) (t : KeyTransition) (s : State) : State :=
  match t with
  | .none => s
  | .touch => touchTransition c s
  | .release cause => releaseTransition c cause s

/-- R108. The channel indexes that a scan makes FAULTED. Their F11 occurrences are reported in ascending index order, keys
before references, which the spec leaves open (DESIGN CHOICE, log entry 23). -/
def faultEntries (before after : Tsu) : List Nat :=
  ((indexesWhere fun c : Fin 20 => !(before.keys[c]).faulted && (after.keys[c]).faulted).map Fin.val) ++
    ((indexesWhere fun i : Fin 2 => !(before.refs[i]).faulted && (after.refs[i]).faulted).map fun i => i.val + 20)

/-- R105, step 7. The fault changes of a scan: F11, F13 and F12 occurrences, then the conditions that ended. The F11
condition does not end where one channel recovers and another becomes FAULTED (DESIGN CHOICE, log entry 29). -/
def reportScan (before : Tsu) (stuck : List Nat) (s : State) : State :=
  let after := s.tsu
  let s1 := reportAll 11 (faultEntries before after) s
  let s2 := reportAll 13 (if !before.disagreement && after.disagreement then [0] else []) s1
  conditionChanged 13 (conditionChanged 11 (reportAll 12 stuck s2))

/-- R115. The key channels that a scan finds stuck. Their F12 occurrences are reported in ascending order, which the spec
leaves open (DESIGN CHOICE, log entry 23). -/
def stuckKeys (raw : Vector (BitVec 16) 22) (s : State) : List Nat :=
  (indexesWhere fun c : Fin 20 => (scanKey raw s c).2 == .release .stuck).map Fin.val

/-- R105. One scan; at its end the suppressed marks of IDLE channels fall (R133). A touch of step 7 that wakes the MBS
(R83), with the switch-on that may follow (R64, R65), is complete before the scan's higher channels reach the key mapper
and before its fault changes are reported, which the rules do not order (DESIGN CHOICE, log entry 40). -/
def scanInstant (raw : Vector (BitVec 16) 22) (s : State) : State :=
  let s1 := s.setTsu (scanned raw s)
  let s2 := (List.finRange 20).foldl (fun acc c => handTransition c (scanKey raw s c).2 acc) s1
  clearIdleSuppressed (reportScan s.tsu (stuckKeys raw s) s2)

/-! Scan instants -/

/-- R101. The ticks from tick count `tick` to the first scan instant at which no scan has been made yet, `last` being the
tick of the last scan: in ACTIVE every tick is a scan instant, in STANDBY every multiple of 8 from 8 on. -/
def scanWait (mode : ScanMode) (last : Option Nat) (tick : Nat) : Nat :=
  match mode with
  | .active => if last = some tick then 1 else 0
  | .standby => if 0 < tick ∧ tick % 8 = 0 ∧ last ≠ some tick then 0 else 8 - tick % 8

/-- R101. Whether this moment is a scan instant whose scan has not been made. -/
def atScanInstant (s : State) : Bool := scanWait s.tsu.mode s.tsu.lastScan s.tick == 0

/-- SCAN (R105): at a scan instant of the mode in force; elsewhere no scan is made (R101). -/
def execScan (raw : Vector (BitVec 16) 22) (s : State) : Result :=
  whenPowered s fun s => if atScanInstant s then scanInstant raw s else s

/-! A stuck key -/

/-- R115. The ticks until the stuck timer of a held key reaches 6000. -/
def stuckLeft (k : TouchKey) : Option Nat :=
  if k.state.isTouch then k.stuck.map fun t => Config.stuckTicks - t else none

/-- R115, R101. The ticks until the first scan instant at which the stuck timer of a held key has reached 6000. -/
def stuckScanLeft (c : Fin 20) (s : State) : Option Nat :=
  (stuckLeft s.tsu.keys[c]).map fun left => left + scanWait s.tsu.mode s.tsu.lastScan (s.tick + left)

/-- The raw counts of the last scan of each channel (R105), C0 to C19, REF0 and REF1. -/
def heldCounts (t : Tsu) : Vector (BitVec 16) 22 :=
  tab fun i => BitVec.ofNat 16 (if h : i.val < 20 then (t.keys[i.val]).raw else (t.refs[i.val - 20]).raw)

/-- STUCK_TIMER_EXPIRY (R115): the stuck timer reaches 6000 ticks, and the first scan from then on is made, which judges
the key after its state step (log entry 1). The electrodes stand as they were last measured (DESIGN CHOICE, log entry
27). This scan comes before a repeat or a chord that falls due at its very tick, which is lost where the scan releases its
key (DESIGN CHOICE, log entry 34). -/
def execStuckTimerExpiry (key : Fin 20) (s : State) : Result :=
  whenPowered s fun s => expire (.stuckTimerExpiry key) (stuckScanLeft key s) (scanInstant (heldCounts s.tsu)) s

/-! TOUCH READ -/

/-- R119, R198. The items of a key channel; a DISABLED channel's thresholds are 0. -/
def keyItems (s : State) (c : Fin 20) : List Byte :=
  let k := s.tsu.keys[c]
  let e := s.tbs.tables.keymap[c]
  be16 k.raw ++ be16 k.corrected ++ be24 k.baseline ++ beInt24 k.delta ++
    [byteOf k.state.code, touchFlags k.faulted (!e.valid)] ++
    (if e.valid then be16 (onThreshold s.tsu.guarded e) ++ be16 (offThreshold s.tsu.guarded e) else be16 0 ++ be16 0)

/-- R119, R198. The items of a reference. -/
def refItems (s : State) (i : Fin 2) : List Byte :=
  let k := s.tsu.refs[i]
  be16 k.raw ++ be16 k.raw ++ be24 k.baseline ++ beInt24 k.delta ++
    [byteOf KeyState.idle.code, touchFlags k.faulted false] ++ be16 0 ++ be16 0

/-- R119. The items of a channel index. -/
def touchItems (s : State) (index : Nat) : List Byte :=
  if h : index < 20 then keyItems s ⟨index, h⟩
  else if index = 20 then refItems s 0 else refItems s 1

/-- R119. A TOUCH READ past its length check. -/
def readTouch (tag : Byte) (index : Nat) (s : State) : State :=
  checkedRequest 0x60 tag [(index ≤ 21, .badArg)] (reply 0x60 tag .ok (touchItems s index)) s

/-- R119, R173. -/
def serveTouchRead (tag : Byte) (payload : List Byte) (s : State) : State :=
  withOneByte 0x60 tag payload (readTouch tag) s

/-- TOUCH_READ (R119). -/
def execTouchRead (tag : Byte) (payload : List Byte) (s : State) : Result := request s (serveTouchRead tag payload)

end Sys2Proof.Machine
end

