-- ==== Sys2Proof/Machine/Link.lean ====
section
/-! DEFINITION. The service link: the frame receiver (R169 to R172), the transmitter (R175), IDENT and STATUS READ
(R177, R178), and the serving of a frame that passes CHECK by its KIND (R173). -/

namespace Sys2Proof.Machine

/-! IDENT and STATUS READ -/

/-- R177, R198. -/
def identItems (s : State) : List Byte :=
  [byteOf Config.vendorCode] ++ be16 Config.partCode ++ [byteOf Config.revision] ++
    [byteOf 20, byteOf 8, byteOf 4, byteOf 6, byteOf 16, byteOf 1, byteOf 16] ++ [byteOf (flag s.slp.rate)]

/-- R177, R173. -/
def serveIdent (tag : Byte) (payload : List Byte) (s : State) : State :=
  withNoPayload 0x01 tag payload (reply 0x01 tag .ok (identItems s)) s

/-- IDENT (R177). -/
def execIdent (tag : Byte) (payload : List Byte) (s : State) : Result := request s (serveIdent tag payload)

/-- R85. The ticks left on the timer that decides the supervisory state. -/
def decidingTimer (m : Mbs) : Nat :=
  match m.state with
  | .off | .heatHold => 0
  | .powering => m.resetTimer.getD m.pgLeft
  | .boot => m.bootTimer.getD 0
  | .run | .warn => m.heartbeatTimer.getD 0
  | .resetting => m.resetTimer.getD 0
  | .cycling => m.cycleTimer.getD 0
  | .lockout => m.lockoutTimer.getD 0

/-- R82, R85. The pending-shutdown seconds, rounded up; 0 while none is armed. -/
def shutdownSeconds (m : Mbs) : Nat := (m.shutdown.getD 0 + 99) / 100

/-- R85, R198, selector 0. -/
def mbsItems (s : State) : List Byte :=
  [byteOf s.mbs.state.code, byteOf s.mbs.count, byteOf (shutdownSeconds s.mbs)] ++
    be16 (min 65535 (tenths (decidingTimer s.mbs)))

/-- R15, R198. One sensor of selector 1. -/
def sensorItems (s : State) (i : Fin 4) : List Byte :=
  let c := s.tmu.channels[i]
  beInt16 (c.held.getD Config.noTemperature) ++ [byteOf (reportedHealth s.tmu i).code, byteOf (flag c.outOfTable)]

/-- R15, R198, selector 1. -/
def tmuItems (s : State) : List Byte := ((List.finRange 4).flatMap (sensorItems s)) ++ [byteOf s.tmu.drift.val]

/-- R39, R198. One heater of selector 2. -/
def heaterItems (c : HeaterChannel) : List Byte :=
  be16 c.applied ++ be16 c.demand ++ [byteOf c.state.code, byteOf (flag c.openLoad)]

/-- R39, R198, selector 2. -/
def hfdItems (s : State) : List Byte :=
  ((List.finRange 3).flatMap fun i => heaterItems s.hfd.channels[i]) ++ be16 s.hfd.fanDuty ++ be16 s.hfd.speed ++
    [byteOf s.hfd.fanState.code]

/-- R120, R139, R198, selector 3. -/
def keyStatusItems (s : State) : List Byte :=
  [byteOf s.tsu.mode.code, byteOf (flag s.tsu.guarded), byteOf s.keq.queue.length] ++
    channelMask (fun c => (s.keq.keys[c]).reported.isSome) ++ channelMask (fun c => (s.keq.keys[c]).unreported) ++
    channelMask (fun c => (s.keq.keys[c]).suppressed)

/-- R150, R198, selector 4. The applied level of an output follows its conditions (R148). -/
def panelItems (s : State) : List Byte :=
  (List.finRange 6).flatMap fun i => be16 (reportedRequest s i) ++ be16 (appliedLevel s i)

/-- R194, R198, selector 5. -/
def storeItems (s : State) : List Byte :=
  [byteOf s.tbs.store.code, byteOf s.tbs.result.code, tableMask s.tbs.locks, tableMask s.tbs.changed]

/-- R178. The items of a selector 0..5. -/
def statusItems (s : State) (selector : Nat) : List Byte :=
  match selector with
  | 0 => mbsItems s
  | 1 => tmuItems s
  | 2 => hfdItems s
  | 3 => keyStatusItems s
  | 4 => panelItems s
  | _ => storeItems s

/-- R178. A STATUS READ past its length check. -/
def readStatus (tag : Byte) (selector : Nat) (s : State) : State :=
  checkedRequest 0x03 tag [(selector ≤ 5, .badArg)] (reply 0x03 tag .ok (statusItems s selector)) s

/-- R178, R173. -/
def serveStatusRead (tag : Byte) (payload : List Byte) (s : State) : State :=
  withOneByte 0x03 tag payload (readStatus tag) s

/-- STATUS_READ (R178). -/
def execStatusRead (tag : Byte) (payload : List Byte) (s : State) : Result := request s (serveStatusRead tag payload)

/-! A request of unknown KIND -/

/-- R173, check 1, R174. -/
def serveUnknown (kind tag : Byte) (s : State) : State := refuse kind tag .badKind s

/-- UNKNOWN_KIND (R174). A KIND that names a request is not this event, and nothing happens (log entry 12). The payload
of an unknown kind is not looked at. -/
def execUnknownKind (kind tag : Byte) (_payload : List Byte) (s : State) : Result :=
  if isRequestKind kind then whenPowered s id else request s (serveUnknown kind tag)

/-! The frame receiver -/

/-- R171. RESYNC entered from LENGTH, BODY or CHECK with a detail: F0 is reported; idle time already elapsed counts, so
a line idle for 3 character times is in HUNT at once. -/
def enterResync (detail : Nat) (s : State) : State :=
  report 0 detail (s.setSlp { s.slp with
    rx := if 3 ≤ s.slp.idle then .hunt else .resync, gap := none, body := [], toGo := 0 })

/-- Whether the receiver is inside a frame, the gap timer running. -/
def RxState.inFrame : RxState → Bool
  | .length | .body => true
  | .hunt | .check | .resync => false

/-- R171. A character, good or bad, ends the line's idle time. -/
def lineBusy (s : State) : State := s.setSlp { s.slp with idle := 0 }

/-- R169. A LEN outside 2..65 where LEN is expected; nothing in another state or for another LEN. -/
def badLength (len : Byte) (s : State) : State :=
  if s.slp.rx = .length ∧ (len.toNat < 2 ∨ 65 < len.toNat) then enterResync 0 (lineBusy s) else s

/-- BAD_LENGTH_BYTE (R169). -/
def execBadLengthByte (len : Byte) (s : State) : Result := whenPowered s (badLength len)

/-- R169, R170, R171. A bad character: inside a frame it abandons the frame, elsewhere it is discarded. -/
def badChar (s : State) : State := if s.slp.rx.inFrame then enterResync 2 (lineBusy s) else lineBusy s

/-- BAD_CHARACTER (R170). -/
def execBadCharacter (s : State) : Result := whenPowered s badChar

/-- R170, R171. The running gap timer passes 4 character times: the frame is abandoned, and the line has been idle long
enough for HUNT. -/
def gapExpired (s : State) : State :=
  match s.slp.gap with
  | some _ => enterResync 1 (s.setSlp { s.slp with idle := 4 })
  | none => s

/-- GAP_TIMEOUT (R170). -/
def execGapTimeout (s : State) : Result := whenPowered s gapExpired

/-- CRC_MISMATCH (R170): the completed frame is discarded unanswered; the event stands for the whole frame (log
entry 11). -/
def execCrcMismatch (s : State) : Result := whenPowered s fun s => enterResync 3 (lineBusy s)

/-- R171. In RESYNC the line has been idle for 3 character times. -/
def idleLine (s : State) : State :=
  if s.slp.rx = .resync then s.setSlp { s.slp with rx := .hunt, idle := 3 } else s

/-- RESYNC_IDLE (R171). -/
def execResyncIdle (s : State) : Result := whenPowered s idleLine

/-- R172. A taken request meets an occupied reply buffer; with a free buffer this is no overrun, and nothing happens. -/
def overrun (s : State) : State := if s.slp.reply.isSome then report 0 4 (rxTaken s) else s

/-- OVERRUN (R172). -/
def execOverrun (s : State) : Result := whenPowered s overrun

/-- R173. The owner of a request, by its KIND. -/
def serveKind (kind tag : Byte) (payload : List Byte) (s : State) : State :=
  match kind.toNat with
  | 0x01 => serveIdent tag payload s
  | 0x02 => serveHeartbeat tag payload s
  | 0x03 => serveStatusRead tag payload s
  | 0x10 => serveTableRead tag payload s
  | 0x11 => serveTableWrite tag payload s
  | 0x12 => serveTableInvalidate tag payload s
  | 0x13 => serveTableLock tag payload s
  | 0x14 => serveStoreSave tag payload s
  | 0x20 => servePowerRequest tag payload s
  | 0x30 => serveHistoryRead tag payload s
  | 0x31 => serveHistoryMark tag payload s
  | 0x32 => serveHistoryClear tag payload s
  | 0x40 => servePanelSet tag payload s
  | 0x50 => serveFaultRead tag payload s
  | 0x51 => serveFaultClear tag payload s
  | 0x60 => serveTouchRead tag payload s
  | _ => serveUnknown kind tag s

/-- R170. CHECK of a completed frame: the first LEN bytes of BODY are KIND, TAG and the payload, the rest the received
CRC, high byte first. -/
def checkFrame (s : State) : State :=
  if s.slp.body.drop s.slp.len = be16 s.slp.crc.toNat then
    match s.slp.body.take s.slp.len with
    | kind :: tag :: payload => takeRequest (serveKind kind tag payload) s
    | _ => s
  else enterResync 3 s

/-- R170. One byte of BODY: each of the first LEN bytes also enters the CRC register. -/
def bodyTaken (b : Byte) (x : Slp) : Slp :=
  { x with
    body := x.body ++ [b], toGo := x.toGo - 1, gap := some 0
    crc := if x.body.length < x.len then crcByte x.crc b else x.crc }

/-- R170. A good character in BODY; the last CRC byte completes the frame, which is judged at once. -/
def takeBody (b : Byte) (s : State) : State :=
  let x := bodyTaken b s.slp
  if x.toGo = 0 then checkFrame (s.setSlp { x with rx := .check, gap := none }) else s.setSlp x

/-- R169. A good character in LENGTH. -/
def takeLength (b : Byte) (s : State) : State :=
  if 2 ≤ b.toNat ∧ b.toNat ≤ 65 then
    s.setSlp { s.slp with
      rx := .body, len := b.toNat, crc := crcByte 0xFFFF#16 b, body := [], toGo := b.toNat + 2, gap := some 0 }
  else enterResync 0 s

/-- R169. A good character in HUNT. -/
def takeHunt (b : Byte) (s : State) : State :=
  if b = Config.marker then s.setSlp { s.slp with rx := .length, gap := some 0 } else s

/-- R169 to R171. A good character, by the receiver's state; CHECK ends within the character that completes a frame. -/
def goodChar (b : Byte) (s : State) : State :=
  let s1 := lineBusy s
  match s.slp.rx with
  | .hunt => takeHunt b s1
  | .length => takeLength b s1
  | .body => takeBody b s1
  | .check | .resync => s1

/-- GOOD_CHARACTER (R169). -/
def execGoodCharacter (char : Byte) (s : State) : Result := whenPowered s (goodChar char)

/-! The transmitter -/

/-- R174, R175. The frame in flight ends: the buffer is free if it was the reply, and the next frame is chosen. -/
def txEnd (s : State) : State :=
  match s.slp.tx with
  | .idle => s
  | .reply _ => kickTx (s.setSlp { s.slp with tx := .idle, reply := none })
  | .event _ => kickTx (s.setSlp { s.slp with tx := .idle })

/-- TX_FRAME_END (R175). -/
def execTxFrameEnd (s : State) : Result := whenPowered s txEnd

end Sys2Proof.Machine
end

