-- ==== Sys2Proof/Machine/Power.lean ====
section
/-! DEFINITION. Part power-on and power-off (R192, R193). -/

namespace Sys2Proof.Machine

/-- R192. The retained image after a loss of supply: partly written where a save was in flight. -/
def imageAfterLoss (b : Tbs) : Image :=
  match b.store with
  | .writing _ => .partlyWritten
  | .idle => b.image

/-- R90, R166, R193. The part right after power-on over a retained image: the tables loaded or the built-in ones, every
block at its power-on value, then the F14 occurrence of a fallback and the F5 occurrence of a short curve (R18). -/
def powerOn (rate : Bool) (image : Image) (pending : List Instr) : State :=
  let s := match image.load with
    | some T => State.atPowerOn rate T .retained image pending
    | none => recordOccurrence 14 0 (State.atPowerOn rate defaultTables .defaults image pending)
  if s.tmu.short then recordOccurrence 5 4 s else s

/-- R193. The supply becomes good. Volatile state is lost at the loss that came before, so a part still powered in the
model starts afresh too (log entry 6). -/
def execPartPowerOn (rate : Bool) (s : State) : Result :=
  done (powerOn rate (imageAfterLoss s.tbs) s.pending)

/-- R192. A part without supply: nothing volatile is left, no output is driven, the image alone is kept. -/
def unpowered (image : Image) (pending : List Instr) : State :=
  let s := State.atPowerOn false defaultTables .defaults image pending
  { s with powered := false, rhs := { s.rhs with entries := [] }, pog := { s.pog with requested := tab fun _ => 0 } }

/-- R192. The supply is lost: the volatile state is lost, and a save in flight leaves the image partly written. -/
def execPartPowerOff (s : State) : Result :=
  .next (if s.powered then unpowered (imageAfterLoss s.tbs) s.pending else s)

end Sys2Proof.Machine
end

