-- ==== Sys2Proof/Machine/Dispatch.lean ====
section
/-! DEFINITION. The dispatch: one command, one meaning, in the table's order. -/

namespace Sys2Proof.Machine

/-- What a command does to everything but the queue of commands. -/
def exec (i : Instr) (s : State) : Host.Outcome State Fault Refusal :=
  match i with
  | .partPowerOn rate => Sys2Proof.Machine.execPartPowerOn rate s
  | .partPowerOff => Sys2Proof.Machine.execPartPowerOff s
  | .conversionInstant c0 c1 c2 c3 => Sys2Proof.Machine.execConversionInstant c0 c1 c2 c3 s
  | .suspectTimerExpiry sensor => Sys2Proof.Machine.execSuspectTimerExpiry sensor s
  | .filterWindowEnd => Sys2Proof.Machine.execFilterWindowEnd s
  | .periodStart p0 p1 p2 => Sys2Proof.Machine.execPeriodStart p0 p1 p2 s
  | .heaterTrip ch current => Sys2Proof.Machine.execHeaterTrip ch current s
  | .fanTachPulse => Sys2Proof.Machine.execFanTachPulse s
  | .stallTimerExpiry => Sys2Proof.Machine.execStallTimerExpiry s
  | .mainPgHigh => Sys2Proof.Machine.execMainPgHigh s
  | .powerGoodLoss => Sys2Proof.Machine.execPowerGoodLoss s
  | .pgTimeout => Sys2Proof.Machine.execPgTimeout s
  | .resetPulseExpiry => Sys2Proof.Machine.execResetPulseExpiry s
  | .bootTimeout => Sys2Proof.Machine.execBootTimeout s
  | .heartbeat tag payload => Sys2Proof.Machine.execHeartbeat tag payload s
  | .heartbeatExpiry => Sys2Proof.Machine.execHeartbeatExpiry s
  | .stableTimeReached => Sys2Proof.Machine.execStableTimeReached s
  | .cycleTimerExpiry => Sys2Proof.Machine.execCycleTimerExpiry s
  | .powerRequest tag payload => Sys2Proof.Machine.execPowerRequest tag payload s
  | .pendingShutdownExpiry => Sys2Proof.Machine.execPendingShutdownExpiry s
  | .lockoutRetryExpiry => Sys2Proof.Machine.execLockoutRetryExpiry s
  | .historyRead tag payload => Sys2Proof.Machine.execHistoryRead tag payload s
  | .historyMark tag payload => Sys2Proof.Machine.execHistoryMark tag payload s
  | .historyClear tag payload => Sys2Proof.Machine.execHistoryClear tag payload s
  | .scan raw => Sys2Proof.Machine.execScan raw s
  | .stuckTimerExpiry key => Sys2Proof.Machine.execStuckTimerExpiry key s
  | .touchRead tag payload => Sys2Proof.Machine.execTouchRead tag payload s
  | .repeatDue key => Sys2Proof.Machine.execRepeatDue key s
  | .chordFire chord => Sys2Proof.Machine.execChordFire chord s
  | .panelSet tag payload => Sys2Proof.Machine.execPanelSet tag payload s
  | .faultRead tag payload => Sys2Proof.Machine.execFaultRead tag payload s
  | .faultClear tag payload => Sys2Proof.Machine.execFaultClear tag payload s
  | .badLengthByte len => Sys2Proof.Machine.execBadLengthByte len s
  | .badCharacter => Sys2Proof.Machine.execBadCharacter s
  | .gapTimeout => Sys2Proof.Machine.execGapTimeout s
  | .crcMismatch => Sys2Proof.Machine.execCrcMismatch s
  | .resyncIdle => Sys2Proof.Machine.execResyncIdle s
  | .overrun => Sys2Proof.Machine.execOverrun s
  | .unknownKind kind tag payload => Sys2Proof.Machine.execUnknownKind kind tag payload s
  | .txFrameEnd => Sys2Proof.Machine.execTxFrameEnd s
  | .ident tag payload => Sys2Proof.Machine.execIdent tag payload s
  | .statusRead tag payload => Sys2Proof.Machine.execStatusRead tag payload s
  | .tableRead tag payload => Sys2Proof.Machine.execTableRead tag payload s
  | .tableWrite tag payload => Sys2Proof.Machine.execTableWrite tag payload s
  | .tableInvalidate tag payload => Sys2Proof.Machine.execTableInvalidate tag payload s
  | .tableLock tag payload => Sys2Proof.Machine.execTableLock tag payload s
  | .storeSave tag payload => Sys2Proof.Machine.execStoreSave tag payload s
  | .saveCompletion verified => Sys2Proof.Machine.execSaveCompletion verified s
  | .goodCharacter char => Sys2Proof.Machine.execGoodCharacter char s
  | .heaterOnTimeEnd ch => Sys2Proof.Machine.execHeaterOnTimeEnd ch s

end Sys2Proof.Machine
end

