-- ==== Sys2Proof/Safety.lean ====
section
/-! DEFINITION. What claims about the part speak of: the states a run reaches, and the invariants that the spec's rules
promise of every state. A run of this part is safe while every invariant holds; no step of it faults or refuses. -/

namespace Sys2Proof.Machine

/-- The states that the part reaches from reset, whatever commands are sent to it in between. -/
inductive Reachable : State → Prop where
  | reset : Reachable State.reset
  | send (s : State) (cmds : List Instr) : Reachable s → Reachable { s with pending := s.pending ++ cmds }
  | step (s t : State) : Reachable s → step s = .next t → Reachable t

/-! Supervision -/

/-- R61. MAIN_PWR_EN, MAIN_RST_N and the scan mode (R101) agree with the supervisory state. -/
def Mbs.railOk (m : Mbs) (mode : ScanMode) : Prop :=
  m.pwrEn = m.state.railOn ∧ m.rstN = m.state.admits ∧ mode = railMode m.pwrEn

/-- R61, R66, R70, R82. Each timer of the supervisor runs only in the states it belongs to. -/
def Mbs.timersOk (m : Mbs) : Prop :=
  (m.resetTimer.isSome = true → m.state = .powering ∨ m.state = .resetting) ∧
  (m.pgRunning = true → m.state = .powering) ∧
  (m.bootTimer.isSome = true → m.state = .boot) ∧
  (m.heartbeatTimer.isSome = true → m.state = .run ∨ m.state = .warn) ∧
  (m.cycleTimer.isSome = true → m.state = .cycling) ∧
  (m.lockoutTimer.isSome = true → m.state = .lockout) ∧
  (m.shutdown.isSome = true → m.state = .boot ∨ m.state = .run ∨ m.state = .warn) ∧
  (m.runTicks.isSome = true → m.state = .run ∨ m.state = .warn) ∧
  (m.stable.isSome = true → m.runTicks.isSome = true)

/-- R63. The consecutive count never exceeds n_reset + n_cycle + 1, and equals that value in LOCKOUT alone. -/
def Mbs.countOk (m : Mbs) (p : Policy) : Prop :=
  if m.state = .lockout then m.count = p.nReset + p.nCycle + 1 else m.count ≤ p.nReset + p.nCycle

/-- The supervisor's invariant. -/
def SupervisorOk (s : State) : Prop :=
  s.mbs.railOk s.tsu.mode ∧ s.mbs.timersOk ∧ s.mbs.countOk s.tbs.tables.policy

/-- R85. No timer of the supervisor stands expired, and the one that decides a state runs in it. -/
def Mbs.runsOn (m : Mbs) : Prop :=
  (∀ e ∈ boardExpiries, e.timer m ≠ some 0) ∧
  (m.state = .powering → 0 < m.pgLeft ∧ (m.pgRunning = true ∨ m.resetTimer.isSome = true)) ∧
  (m.state = .boot → m.bootTimer.isSome = true) ∧
  (m.state = .run ∨ m.state = .warn → m.heartbeatTimer.isSome = true) ∧
  (m.state = .resetting → m.resetTimer.isSome = true) ∧
  (m.state = .cycling → m.cycleTimer.isSome = true)

/-- None of the part's own events but `c` falls due within `n` ticks (log entry 1). -/
def onlyDue (c : Instr) (n : Nat) (s : State) : Bool := (ownEvents s).all fun e => e.1 == c || !dueWithin n e

/-! Heating -/

/-- R20, R31. The applied duties are those that a recomputation now would give, no rail change is half made, and a
LATCHED_OFF channel's output is off. -/
def HeatersOk (s : State) : Prop :=
  s.hfd.railChange = .none ∧ ∀ i : Fin 3, (s.hfd.channels[i]).applied = newDuty s i ∧
    ((s.hfd.channels[i]).state = .latchedOff → (s.hfd.channels[i]).output = false)

/-- R34, R35. The fan runs at the duty that the last set, the rail and the tables give it. -/
def FanOk (s : State) : Prop := s.hfd.fanDuty = fanDutyNow s

/-- R30. The allotment in force, in watts. -/
def allotment (s : State) : Nat := if s.mbs.pwrEn then s.tbs.tables.glob.aRun else s.tbs.tables.glob.aCold

/-! Touch -/

/-- R116, R117. Every baseline lies between 0 and 1 048 560 sixteenths of a count; a corrected count between 0 and
65 535. -/
def BaselinesOk (s : State) : Prop :=
  (∀ c : Fin 20, (s.tsu.keys[c]).baseline ≤ 1048560 ∧ (s.tsu.keys[c]).corrected ≤ 65535) ∧
  ∀ i : Fin 2, (s.tsu.refs[i]).baseline ≤ 1048560

/-- R102, R103. A key channel is scanned exactly when the scanned set of the mode holds it, and a DISABLED one is not
FAULTED. -/
def ScannedSetOk (s : State) : Prop :=
  ∀ c : Fin 20, (s.tsu.keys[c]).scanned = inScannedSet s.tsu.mode s.tbs.tables c ∧
    ((s.tbs.tables.keymap[c]).valid = false → (s.tsu.keys[c]).faulted = false)

/-- R130, R131. A key that the key mapper holds down, its entry valid, is TOUCHED or RELEASING at the touch unit. -/
def DownKeysOk (s : State) : Prop :=
  ∀ c : Fin 20, (s.keq.keys[c]).down = true → (s.tbs.tables.keymap[c]).valid = true →
    (s.tsu.keys[c]).state = .touched ∨ (s.tsu.keys[c]).state = .releasing

/-- R101 to R104, R118. From `s` to `t` the touch unit has taken the scanned set of `mode`. A channel that leaves the set is
IDLE, its arming count and stuck timer cleared; one that enters it awaits its re-seed; every other keeps everything. The
fault counts of a channel whose entry is invalid are the model's choice (log entry 31). -/
def Rescanned (s t : State) (mode : ScanMode) : Prop :=
  t.tsu = { s.tsu with mode := mode, keys := t.tsu.keys } ∧
  ∀ c : Fin 20,
    let k := s.tsu.keys[c]
    let valid := (s.tbs.tables.keymap[c]).valid
    let inSet := inScannedSet mode s.tbs.tables c
    (valid = false → t.tsu.keys[c] = { k with
      state := .idle, arming := 0, stuck := none, faulted := false, outCount := 0, inCount := 0, scanned := false }) ∧
    (valid = true → k.scanned = true → inSet = false → t.tsu.keys[c] = { k with
      state := .idle, arming := 0, stuck := none, scanned := false }) ∧
    (valid = true → k.scanned = false → inSet = true → t.tsu.keys[c] = { k with scanned := true, seed := true }) ∧
    (valid = true → k.scanned = inSet → t.tsu.keys[c] = k)

/-- R103. The touch unit hands a release, cause NORMAL, for a key that leaves the scanned set for that of `mode`: it was
TOUCHED or RELEASING and is not DISABLED. -/
def leavesHeld (s : State) (mode : ScanMode) (c : Fin 20) : Bool :=
  (s.tbs.tables.keymap[c]).valid && (s.tsu.keys[c]).scanned && !inScannedSet mode s.tbs.tables c &&
    ((s.tsu.keys[c]).state == .touched || (s.tsu.keys[c]).state == .releasing)

/-- R101. The last scan made does not lie in the future. -/
def LastScanOk (s : State) : Prop := ∀ k, s.tsu.lastScan = some k → k ≤ s.tick

/-! Queue and history -/

/-- R128. The records of the event queue and the reported-down set together never exceed 32. -/
def QueueOk (s : State) : Prop := s.keq.queue.length + reportedCount s.keq ≤ Config.queueDepth

/-- R87, R88. At most 16 entries, and their ordinals the last ones given, newest first. -/
def HistoryOk (s : State) : Prop :=
  s.rhs.entries.length ≤ Config.historyDepth ∧
  ∀ (i : Nat) (e : HistoryEntry), s.rhs.entries[i]? = some e →
    e.ordinal + 1 + BitVec.ofNat 16 i = s.rhs.nextOrdinal

/-! The link -/

/-- R174, R175. An idle transmitter has no reply to send, and in RUN and WARN no record; a reply being sent is the one
in the buffer. -/
def TransmitterOk (s : State) : Prop :=
  match s.slp.tx with
  | .idle => s.slp.reply = none ∧ (s.mbs.state = .run ∨ s.mbs.state = .warn → s.keq.queue = [])
  | .reply bs => ∃ f : Frame, s.slp.reply = some f ∧ bs = f.bytes
  | .event _ => True

/-- R172, R174, R175. The link after a taken request that met a free reply buffer: the receiver in HUNT, the reply `f`
in the buffer, and being sent if the transmitter was idle. -/
def Slp.answered (x : Slp) (f : Frame) : Slp :=
  { x with
    rx := .hunt, gap := none, body := [], toGo := 0, reply := some f
    tx := match x.tx with
      | .idle => .reply f.bytes
      | busy => busy }

/-- R173, R198. A reply of the given KIND, TAG and status code with its items. -/
def replyFrame (kind tag : Byte) (code : Nat) (items : List Byte) : Frame := ⟨kind, tag, byteOf code :: items⟩

/-- R195, R198 to R200. The field of `width` bytes at `offset` of an item list, most significant byte first. -/
def itemField (bs : List Byte) (offset width : Nat) : Nat :=
  ((bs.drop offset).take width).foldl (fun n b => n * 256 + b.toNat) 0

/-- R195. What a field of `bits` bits holds of a two's complement value. -/
def signedField (bits : Nat) (x : Int) : Nat := (x % 2 ^ bits).toNat

/-- The request changed the link, which answered `f`, and nothing else; the pins show their applied levels. -/
def OnlyAnswered (s t : State) (f : Frame) : Prop :=
  t = { s with slp := s.slp.answered f, pog := { s.pog with applied := tab fun i => appliedLevel s i } }

/-! Restarts -/

/-- R94. The temperature of sensor `i` in an entry created now. -/
def SnapshotOf (s : State) (i : Fin 4) (x : Int) : Prop :=
  (s.tmu.lastSet = none → x = -32768) ∧
  ∀ set, s.tmu.lastSet = some set →
    ((set.readings[i]).health = .failed ∨ (set.readings[i]).temp = none → x = -32768) ∧
    ∀ held, (set.readings[i]).health ≠ .failed → (set.readings[i]).temp = some held → x = held

/-- R87 to R89. `t`'s history is `s`'s with one entry pushed, stamped with `t`'s tick, the oldest of a full stack gone. -/
def EntryPushed (s t : State) (body : HistoryBody) : Prop :=
  t.rhs = ⟨(⟨s.rhs.nextOrdinal, t.tick % 65536, body⟩ :: s.rhs.entries).take 16, s.rhs.nextOrdinal + 1, 0⟩

/-- R78, R91, R92, R94. `t`'s history is `s`'s with the RESTART entry of a departure pushed, every field of it given. The
token of a departure from POWERING is the model's choice (log entry 24). -/
def RestartEntry (s t : State) (cause : Cause) (detail : Nat) (stage : Stage) (count : Nat) : Prop :=
  ∃ info : RestartInfo, EntryPushed s t (.restart info) ∧
    info.cause = cause ∧ info.detail = detail ∧ info.stage = stage ∧ info.fromState = s.mbs.state ∧
    info.count = count ∧ (∀ i : Fin 4, SnapshotOf s i info.temps[i]) ∧ info.seconds = min 65535 (s.rhs.since / 100) ∧
    info.runTime = (if s.mbs.state = .run ∨ s.mbs.state = .warn then min 65535 (s.mbs.runTicks.getD 0 / 100) else 0) ∧
    info.noToken = s.mbs.token.isNone ∧ info.token = s.mbs.token.getD 0

/-- R93, R94. `t`'s history is `s`'s with the WAKE entry of a departure from OFF or LOCKOUT pushed. -/
def WakeEntry (s t : State) (cause : Cause) (detail : Nat) (stage : Stage) (count : Nat) : Prop :=
  ∃ temps : Vector Int 4, (∀ i : Fin 4, SnapshotOf s i temps[i]) ∧
    EntryPushed s t (.wake ⟨cause, detail, stage, s.mbs.state, count, temps⟩)

/-- R136, R103, R131. From `s` to `t` the key mapper has flushed. The queue and the reported-down set are empty, no key is
unreported, each key that is not IDLE at the touch unit is suppressed, and down marks stand. `leaving` are the keys
that the touch unit releases after the flush: not down and unmarked. Every chord is IDLE, in states where a key held down is
held at the touch unit too, or where nothing is released. -/
def Flushed (s t : State) (leaving : Fin 20 → Bool) : Prop :=
  t.keq.queue = [] ∧
  (∀ c : Fin 20, let k := s.keq.keys[c]
    t.keq.keys[c] = if leaving c then ⟨false, none, 0, 0, 0, false, false⟩ else { k with
      reported := none, repeatTimer := 0, nextRepeat := 0, repeatCount := 0, unreported := false
      suppressed := k.suppressed || (s.tsu.keys[c]).state != .idle }) ∧
  (DownKeysOk s → (∀ i : Fin 8, (s.tbs.tables.chords[i]).inRange = true) →
    ∀ i : Fin 8, t.keq.chords[i] = ⟨.idle, 0⟩)

/-- R78 to R80, R84, R91, R92, R94, R103, R136. `t` follows `s` by a departure from a rail-on state with the given cause,
detail and stage, `count` being the count after it: the RESTART entry, the flush, MAIN_RST_N low, what was pending
cancelled, the timer of the stage started and every other timer of a supervisory state stopped, and with any stage but
RESET the rail off, the scanned set that of STANDBY. The tables, the temperatures, the zones, the
requested levels and the link, but for what the transmitter sends, are as they were. -/
def Departed (s t : State) (cause : Cause) (detail : Nat) (stage : Stage) (count : Nat) : Prop :=
  let p := s.tbs.tables.policy
  t.mbs.state = (match stage with
    | .reset => .resetting
    | .cycle => .cycling
    | .lockout => .lockout
    | .off | .none => .off) ∧
  t.mbs.count = count ∧ t.mbs.rstN = false ∧ t.mbs.shutdown = none ∧ t.mbs.runTicks = none ∧ t.mbs.stable = none ∧
  t.mbs.pwrEn = (if stage = .reset then s.mbs.pwrEn else false) ∧
  t.mbs.resetTimer = (if stage = .reset then some p.resetPulse else none) ∧
  t.mbs.cycleTimer = (if stage = .cycle then some (p.cycleOffTime * 100) else none) ∧
  t.mbs.lockoutTimer = (if stage = .lockout ∧ 0 < p.lockoutRetry then some (p.lockoutRetry * 6000) else none) ∧
  t.mbs.pgRunning = false ∧ t.mbs.bootTimer = none ∧ t.mbs.heartbeatTimer = none ∧
  RestartEntry s t cause detail stage count ∧
  Flushed s t (fun c => stage ≠ .reset && leavesHeld s .standby c) ∧
  (stage = .reset → t.tsu = s.tsu ∧ ∀ i : Fin 8, t.keq.chords[i] = ⟨.idle, 0⟩) ∧
  (stage ≠ .reset → Rescanned s t .standby) ∧
  t.tbs = s.tbs ∧ t.tmu = s.tmu ∧ t.znc = s.znc ∧ t.pog.requested = s.pog.requested ∧
  t.slp = { s.slp with tx := t.slp.tx } ∧ t.powered = s.powered ∧ t.pending = s.pending ∧ t.tick = s.tick ∧
  t.hfd.filter = none ∧ t.hfd.loadedFilter = s.hfd.loadedFilter

/-- R75, R78 to R80, R84, R91, R92, R94, R136. `t` follows `s` by a restart decision with the given cause and detail, F15
apart: the ladder's stage, the count raised, the boot cause set, and the departure with the timer of its stage. -/
def RestartedBy (s t : State) (cause : Cause) (detail : Nat) : Prop :=
  let p := s.tbs.tables.policy
  let count := s.mbs.count + 1
  let stage : Stage :=
    if count ≤ p.nReset ∧ cause ≠ .pgTimeout ∧ cause ≠ .pgLost then .reset
    else if count ≤ p.nReset + p.nCycle then .cycle
    else .lockout
  Departed s t cause detail stage count ∧ t.mbs.bootCause = cause

/-- R155. The record of kind `k` in `t` has counted one occurrence more than in `s`, now. -/
def Counted (s t : State) (k : FaultKind) (detail : Nat) : Prop :=
  (t.fcl.records[k]).occurrences = min 255 ((s.fcl.records[k]).occurrences + 1) ∧
  (t.fcl.records[k]).lastStamp = t.tick % 65536 ∧
  ((s.fcl.records[k]).state = .clear →
    (t.fcl.records[k]).firstDetail = detail ∧ (t.fcl.records[k]).firstStamp = t.tick % 65536) ∧
  ((s.fcl.records[k]).state ≠ .clear →
    (t.fcl.records[k]).firstDetail = (s.fcl.records[k]).firstDetail ∧
    (t.fcl.records[k]).firstStamp = (s.fcl.records[k]).firstStamp ∧
    (t.fcl.records[k]).state = (s.fcl.records[k]).state)

/-- R155. From `s` to `t` the record of kind `k` has counted `n` occurrences at one instant, `t`'s tick. -/
def CountedTimes (s t : State) (k : FaultKind) (n : Nat) : Prop :=
  let r := s.fcl.records[k]
  let x := t.fcl.records[k]
  (n = 0 → x.occurrences = r.occurrences ∧ x.firstDetail = r.firstDetail ∧ x.firstStamp = r.firstStamp ∧
    x.lastStamp = r.lastStamp) ∧
  (n ≠ 0 → x.occurrences = min 255 (r.occurrences + n) ∧ x.lastStamp = t.tick % 65536 ∧
    (r.state ≠ .clear → x.firstDetail = r.firstDetail ∧ x.firstStamp = r.firstStamp))

/-- R155. The indexes at which something began have each counted one occurrence of kind `k` (log entry 23 says in which
order); one alone is the detail of a record that was CLEAR. -/
def CountedEach {n : Nat} (s t : State) (k : FaultKind) (began : Fin n → Bool) : Prop :=
  CountedTimes s t k ((List.finRange n).filter began).length ∧
  ∀ i, (List.finRange n).filter began = [i] → Counted s t k i.val

/-- R115, R131. In `t` the key mapper has taken the release of key `c`, and an F12 occurrence has been counted at this
tick. -/
def ReleasedStuck (c : Fin 20) (s t : State) : Prop :=
  (t.keq.keys[c]).down = false ∧ (t.keq.keys[c]).reported = none ∧ (t.keq.keys[c]).suppressed = false ∧
  (t.fcl.records[12]).lastStamp = t.tick % 65536 ∧
  ((s.fcl.records[12]).occurrences < 255 → (s.fcl.records[12]).occurrences < (t.fcl.records[12]).occurrences)

/-- R155, R160. `t` follows `s` by the records, the queue and the transmitter alone, as a reported occurrence whose
RESTART reaction is off changes them; the pins show their levels. -/
def OnlyReported (s t : State) : Prop :=
  t = { s with
    fcl := t.fcl
    keq := { s.keq with queue := t.keq.queue }
    slp := { s.slp with tx := t.slp.tx }
    pog := { s.pog with applied := t.pog.applied } }

/-! Faults and panel -/

/-- R146, R147. The part of an output's level that follows the requested level: 0 with the rail off or the state outside
the permit mask, else the requested level, lowered to the cold clamp while Z1 cold holds. -/
def GateLevel (s : State) (i : Fin 6) (level : Nat) : Prop :=
  let e := s.tbs.tables.gate[i]
  let permits := (s.mbs.state = .boot ∧ e.permitBoot = true) ∨ (s.mbs.state = .run ∧ e.permitRun = true) ∨
    (s.mbs.state = .warn ∧ e.permitWarn = true)
  (s.mbs.pwrEn = false ∨ ¬permits → level = 0) ∧
  (s.mbs.pwrEn = true → permits → s.znc.z1Cold = true → level = min s.pog.requested[i] e.coldClamp) ∧
  (s.mbs.pwrEn = true → permits → s.znc.z1Cold = false → level = s.pog.requested[i])

/-- R147. The condition of an indicator's status source holds; the fault indication is R161's. -/
def StatusOn (s : State) (i : Fin 6) : Prop :=
  let source := (s.tbs.tables.gate[i]).source
  (source = .heat ∧ s.mbs.state = .heatHold) ∨
  (source = .fault ∧ s.fcl.indication = true) ∨
  (source = .lockout ∧ s.mbs.state = .lockout)

/-- R161. The fault indication and the HOLD inhibit are those that the records and the reactions in force give. -/
def IndicationOk (s : State) : Prop :=
  s.fcl.indication = someReaction s (fun e => e.indicate) ∧ s.fcl.hold = someReaction s (fun e => e.hold)

/-- R156, R157, R159. Every record has the class in force; one of class HW is ACTIVE while its kind's lasting condition
holds and CLEAR otherwise; one of class SW is never ACTIVE, and is out of CLEAR while the condition holds. -/
def RecordsOk (s : State) : Prop :=
  ∀ k : Fin 16, let r := s.fcl.records[k]
    r.cls = (reactionInForce s.tbs.tables k).cls ∧
    (r.cls = .hw → r.state = if faultCondition s k then .active else .clear) ∧
    (r.cls = .sw → r.state ≠ .active ∧ (faultCondition s k = true → r.state = .latched))

/-- R148. Every pin is driven with its applied level. -/
def PinsOk (s : State) : Prop := ∀ i : Fin 6, s.pog.applied[i] = appliedLevel s i

/-! Tables -/

/-- R183. Every field of every entry is in its range, every relation within an entry holds, the curve ascends. -/
def Tables.inRange (T : Tables) : Prop :=
  (∀ c : Fin 20, (T.keymap[c]).inRange = true) ∧ (∀ i : Fin 8, (T.chords[i]).inRange = true) ∧
  (∀ i : Fin 3, (T.zones[i]).inRange = true) ∧ T.glob.inRange = true ∧
  (∀ i : Fin 6, (T.gate[i]).inRange i = true) ∧ (∀ i : Fin 16, (T.curve[i]).inRange = true) ∧
  T.policy.inRange = true ∧ (∀ k : Fin 16, (T.reactions[k]).inRange k = true) ∧ curveOrdered T.curve = true

/-- The `k`-th entry of `size` bytes in `bs`. -/
def entrySlice (bs : List Byte) (size k : Nat) : List Byte := (bs.drop (k * size)).take size

/-- R184. `T` is `old` with the `count` entries of table `t` from `first` on replaced, valid flag and fields, by those
that `bs` carries in order in the layout of the table, and with every other entry of every table as it was. -/
def WrittenBy (old T : Tables) (t first count : Nat) (bs : List Byte) : Prop :=
  let named := fun (table i : Nat) => t = table ∧ first ≤ i ∧ i < first + count
  let slice := fun (i : Nat) => entrySlice bs (entrySize t) (i - first)
  (∀ i : Fin 20, (named 0 i.val → KeymapEntry.ofBytes (slice i.val) = some T.keymap[i]) ∧
    (¬named 0 i.val → T.keymap[i] = old.keymap[i])) ∧
  (∀ i : Fin 8, (named 1 i.val → ChordEntry.ofBytes (slice i.val) = some T.chords[i]) ∧
    (¬named 1 i.val → T.chords[i] = old.chords[i])) ∧
  (∀ i : Fin 3, (named 2 i.val → ZoneRecord.ofBytes (slice i.val) = some T.zones[i]) ∧
    (¬named 2 i.val → T.zones[i] = old.zones[i])) ∧
  ((named 2 3 → GlobalRecord.ofBytes (slice 3) = some T.glob) ∧ (¬named 2 3 → T.glob = old.glob)) ∧
  (∀ i : Fin 6, (named 3 i.val → GateEntry.ofBytes (slice i.val) = some T.gate[i]) ∧
    (¬named 3 i.val → T.gate[i] = old.gate[i])) ∧
  (∀ i : Fin 16, (named 4 i.val → CurvePoint.ofBytes (slice i.val) = some T.curve[i]) ∧
    (¬named 4 i.val → T.curve[i] = old.curve[i])) ∧
  ((named 5 0 → Policy.ofBytes (slice 0) = some T.policy) ∧ (¬named 5 0 → T.policy = old.policy)) ∧
  (∀ i : Fin 16, (named 6 i.val → ReactionEntry.ofBytes (slice i.val) = some T.reactions[i]) ∧
    (¬named 6 i.val → T.reactions[i] = old.reactions[i]))

/-- R183. The named entries of table `t` of `T` are in range, and a named curve's valid raw codes ascend. -/
def Tables.namedInRange (T : Tables) (t first count : Nat) : Prop :=
  let named := fun (table i : Nat) => t = table ∧ first ≤ i ∧ i < first + count
  (∀ i : Fin 20, named 0 i.val → (T.keymap[i]).inRange = true) ∧
  (∀ i : Fin 8, named 1 i.val → (T.chords[i]).inRange = true) ∧
  (∀ i : Fin 3, named 2 i.val → (T.zones[i]).inRange = true) ∧ (named 2 3 → T.glob.inRange = true) ∧
  (∀ i : Fin 6, named 3 i.val → (T.gate[i]).inRange i = true) ∧
  (∀ i : Fin 16, named 4 i.val → (T.curve[i]).inRange = true) ∧ (t = 4 → curveOrdered T.curve = true) ∧
  (named 5 0 → T.policy.inRange = true) ∧ ∀ i : Fin 16, named 6 i.val → (T.reactions[i]).inRange i = true

/-- R193, R196. A retained image, where there is one, is that of tables in range. -/
def Image.ok : Image → Prop
  | .written bs => ∃ T : Tables, T.inRange ∧ bs = imageBytes T
  | .unwritten | .partlyWritten | .rejected => True

/-- The snapshot of a save in flight is in range. -/
def Store.ok : Store → Prop
  | .writing T => T.inRange
  | .idle => True

/-- The live tables, the snapshot and the image hold nothing out of range. -/
def TablesOk (s : State) : Prop := s.tbs.tables.inRange ∧ s.tbs.store.ok ∧ s.tbs.image.ok

end Sys2Proof.Machine
end

