-- ==== Sys2Proof/Certificates/Slice0/Obligations.lean ====
section
/-! DEFINITION. The statements for the provers. Throughout, `t = { s with … }` says that everything not named between
the braces is unchanged, the queue of commands and the tick count among it. -/

section
open Sys2Proof Sys2Proof.Machine

/-! The machine as a whole -/

/-- A step with a command at the front of the queue runs exactly that command on the state without it. -/
def Obligations.StepRunsTheFrontCommand : Prop :=
  ∀ (c : Instr) (rest : List Instr) (s : State), s.pending = c :: rest → step s = exec c { s with pending := rest }

/-- The model's own clock (log entry 1): with no command waiting, a part without supply rests; else what falls due at
the next tick joins the queue, and when nothing does, that tick passes, which moves timers and nothing else. An expiry
of the supervisor changes nothing while its timer is stopped or another event of the part falls due before it. -/
def Obligations.EmptyQueuePassesOneTick : Prop :=
  (∀ s : State, s.pending = [] →
    (s.powered = false → step s = .next s) ∧
    (∀ c, s.powered = true → nextDue s = some c → step s = .next { s with pending := [c] }) ∧
    (s.powered = true → nextDue s = none → ∃ t, step s = .next t ∧
      t = { s with tick := s.tick + 1, hfd := t.hfd, mbs := t.mbs, rhs := t.rhs, tsu := t.tsu, keq := t.keq } ∧
      t.mbs.state = s.mbs.state ∧ t.mbs.pwrEn = s.mbs.pwrEn ∧ t.mbs.count = s.mbs.count ∧
      t.mbs.heartbeatTimer = s.mbs.heartbeatTimer.map (· - 1) ∧ t.mbs.bootTimer = s.mbs.bootTimer.map (· - 1) ∧
      t.mbs.runTicks = s.mbs.runTicks.map (· + 1) ∧ t.hfd.channels = s.hfd.channels ∧
      t.rhs.entries = s.rhs.entries ∧ t.rhs.since = min 6553500 (s.rhs.since + 1) ∧
      t.keq.queue = s.keq.queue ∧ t.tsu.refs = s.tsu.refs)) ∧
  ∀ s : State, s.powered = true → ∀ e ∈ boardExpiries,
    (e.timer s.mbs = none → ∃ t, exec e.cmd s = .next t ∧ t = { s with pog := { s.pog with applied := t.pog.applied } }) ∧
    (∀ n, e.timer s.mbs = some n → nothingBefore n s = false →
      ∃ t, exec e.cmd s = .next t ∧ t = { s with pog := { s.pog with applied := t.pog.applied } })

/-- Every command, on every state, is answered with a next state in which the commands that wait still wait. A part
without supply takes nothing but PART_POWER_ON (log entry 6). -/
def Obligations.EveryCommandAnswersANextState : Prop :=
  ∀ (c : Instr) (s : State),
    (∃ t, exec c s = .next t ∧ t.pending = s.pending) ∧
    (s.powered = false → (∀ r, c ≠ .partPowerOn r) → exec c s = .next s)

/-! Power -/

/-- R193, R90, R166, R179, R188, R194 at a power-on over an image that is not usable; R193, R90, R18, R188 over one that
is. Both clauses hold of a part that is still powered too, which PART_POWER_ON starts afresh (log entry 6), and an image is
usable where `Image.load` takes tables from it, which judges the codes of its fields besides version and CRC (log entry 14):
both are the model's. -/
def Obligations.PowerOnLoadsTheImageOrFallsBack : Prop :=
  (∀ (rate : Bool) (s : State), (imageAfterLoss s.tbs).load = none →
    ∃ t, exec (.partPowerOn rate) s = .next t ∧ t.powered = true ∧ t.tick = 0 ∧ t.tbs.tables = defaultTables ∧
      (∀ i : Fin 7, t.tbs.changed[i] = true ∧ t.tbs.locks[i] = true) ∧ t.tbs.store = .idle ∧ t.tbs.result = .none ∧
      t.tbs.image = imageAfterLoss s.tbs ∧
      t.fcl.records[14] = ⟨.latched, .sw, 1, 0, 0, 0⟩ ∧
      (∀ k : Fin 16, k ≠ 14 → (t.fcl.records[k]).state = .clear ∧ (t.fcl.records[k]).occurrences = 0) ∧
      t.fcl.indication = true ∧ t.fcl.hold = false ∧
      t.rhs = ⟨[⟨0, 0, .powerOn .defaults⟩], 1, 0⟩ ∧
      t.mbs.state = .heatHold ∧ t.mbs.pwrEn = false ∧ t.mbs.rstN = false ∧ t.mbs.count = 0 ∧
      t.keq.queue = [] ∧ t.slp.rate = rate ∧ t.slp.rx = .resync ∧ t.slp.reply = none ∧ t.slp.tx = .idle ∧
      t.pog.applied = #v[0, 1, 1, 0, 0, 0] ∧ t.pog.requested = #v[800, 0, 0, 0, 0, 0]) ∧
  ∀ (rate : Bool) (s : State) (T : Tables), (imageAfterLoss s.tbs).load = some T →
    ∃ t, exec (.partPowerOn rate) s = .next t ∧ t.powered = true ∧ t.tick = 0 ∧ t.tbs.tables = T ∧
      (∀ i : Fin 7, t.tbs.changed[i] = false ∧ t.tbs.locks[i] = true) ∧ t.tbs.store = .idle ∧ t.tbs.result = .none ∧
      (t.fcl.records[14]).state = .clear ∧ t.rhs = ⟨[⟨0, 0, .powerOn .retained⟩], 1, 0⟩ ∧ t.mbs.state = .heatHold ∧
      (curveShort T.curve = true → (t.fcl.records[5]).occurrences = 1 ∧ (t.fcl.records[5]).firstDetail = 4 ∧
        (t.fcl.records[5]).state ≠ .clear) ∧
      (curveShort T.curve = false → (t.fcl.records[5]).occurrences = 0 ∧ (t.fcl.records[5]).state = .clear)

/-- R192, R90, R140, R179: what a loss of supply leaves. That what is lost stands empty, and that no output is driven,
is the model's choice (log entry 6). -/
def Obligations.PowerOffKeepsTheImageAlone : Prop :=
  ∀ s : State, s.powered = true →
    ∃ t, exec .partPowerOff s = .next t ∧ t.powered = false ∧ t.pending = s.pending ∧
      (∀ T, s.tbs.store = .writing T → t.tbs.image = .partlyWritten) ∧
      (s.tbs.store = .idle → t.tbs.image = s.tbs.image) ∧ t.tbs.store = .idle ∧
      t.rhs.entries = [] ∧ t.keq.queue = [] ∧ t.slp.reply = none ∧ t.slp.tx = .idle ∧
      t.pog.applied = #v[0, 0, 0, 0, 0, 0]

/-- The state after reset is the first power-on over a store that no save has written (log entries 4 and 5), and it
meets every invariant. -/
def Obligations.ResetMeetsTheInvariants : Prop :=
  exec (.partPowerOn false) (unpowered .unwritten []) = .next State.reset ∧
  SupervisorOk State.reset ∧ HeatersOk State.reset ∧ BaselinesOk State.reset ∧ ScannedSetOk State.reset ∧
  QueueOk State.reset ∧ HistoryOk State.reset ∧ TransmitterOk State.reset ∧ IndicationOk State.reset ∧
  PinsOk State.reset ∧ TablesOk State.reset ∧ State.reset.mbs.runsOn ∧ FanOk State.reset ∧ LastScanOk State.reset ∧
  RecordsOk State.reset ∧ DownKeysOk State.reset

/-! Invariants that every step keeps -/

/-- R61, R63, R66 to R70, R82, R101. -/
def Obligations.EveryStepKeepsTheSupervisorConsistent : Prop :=
  ∀ s t : State, SupervisorOk s → step s = .next t → SupervisorOk t

/-- R85, R66 to R71, R79, R80, R84: no timer of the supervisor stands expired, so a remaining time of 0 means that no
timer decides the state. -/
def Obligations.EveryStepLeavesNoTimerExpired : Prop :=
  (∀ s t : State, SupervisorOk s → TablesOk s → s.mbs.runsOn → step s = .next t → t.mbs.runsOn) ∧
  ∀ m : Mbs, m.runsOn →
    (decidingTimer m = 0 ↔ m.state = .off ∨ m.state = .heatHold ∨ (m.state = .lockout ∧ m.lockoutTimer = none)) ∧
    (shutdownSeconds m = 0 ↔ m.shutdown = none)

/-- R20, R31 to R33, in states that meet the supervisor's invariant. -/
def Obligations.EveryStepKeepsTheDutiesUpToDate : Prop :=
  ∀ s t : State, SupervisorOk s → HeatersOk s → step s = .next t → HeatersOk t

/-- R104, R116, R117: the baselines and corrected counts. R102, R103, R118: the scanned set. R101: the last scan does
not lie in the future. R130, R131: a key held down at the key mapper is held at the touch unit. R102 to R104, R118: what
taking a scanned set does to each channel at the touch unit and at the key mapper; the fault counts of a channel that
becomes DISABLED are the model's choice (log entry 31). -/
def Obligations.EveryStepKeepsBaselinesAndTheScannedSet : Prop :=
  (∀ s t : State, BaselinesOk s → step s = .next t → BaselinesOk t) ∧
  (∀ s t : State, ScannedSetOk s → step s = .next t → ScannedSetOk t) ∧
  (∀ s t : State, LastScanOk s → step s = .next t → LastScanOk t) ∧
  (∀ s t : State, DownKeysOk s → step s = .next t → DownKeysOk t) ∧
  (∀ (mode : ScanMode) (T : Tables) (c : Fin 20), inScannedSet mode T c = true ↔
    (T.keymap[c]).valid = true ∧ (mode = .active ∨ (T.keymap[c]).wake = true ∨
      ∃ i : Fin 8, (T.chords[i]).valid = true ∧ (T.chords[i]).members.getLsbD c.val = true ∧
        ((T.chords[i]).condition = .any ∨ (T.chords[i]).condition = .railOff))) ∧
  ∀ (mode : ScanMode) (s : State), let t := rescan mode s
    Rescanned s t mode ∧
    t = ((List.finRange 20).filter (leavesHeld s mode)).foldl (fun u c => releaseTransition c .normal u)
      { s with tsu := t.tsu } ∧
    t = { s with tsu := t.tsu, keq := t.keq, slp := { s.slp with tx := t.slp.tx } } ∧
    ∀ c : Fin 20,
      let k := s.keq.keys[c]
      (leavesHeld s mode c = true → k.reported = none →
        t.keq.keys[c] = { k with down := false, unreported := false, suppressed := false }) ∧
      (leavesHeld s mode c = true → k.reported ≠ none → t.keq.keys[c] = ⟨false, none, 0, 0, 0, false, false⟩) ∧
      (leavesHeld s mode c = false → t.keq.keys[c] = k)

/-- R126 to R128. -/
def Obligations.EveryStepKeepsTheQueueReserve : Prop :=
  ∀ s t : State, QueueOk s → step s = .next t → QueueOk t

/-- R87, R88, R98. -/
def Obligations.EveryStepKeepsTheHistoryInOrder : Prop :=
  ∀ s t : State, HistoryOk s → step s = .next t → HistoryOk t

/-- R172, R174, R175. -/
def Obligations.EveryStepKeepsTheTransmitterBusy : Prop :=
  ∀ s t : State, TransmitterOk s → step s = .next t → TransmitterOk t

/-- R161, R162, R164: the two conditions. R156, R157, R159, R162: the records' classes and states, in states that meet
the scanned set's invariant. R156: what the end of a lasting condition does to its record. -/
def Obligations.EveryStepKeepsTheIndication : Prop :=
  (∀ s t : State, IndicationOk s → step s = .next t → IndicationOk t) ∧
  (∀ s t : State, ScannedSetOk s → RecordsOk s → step s = .next t → RecordsOk t) ∧
  ∀ (k : FaultKind) (s : State),
    let r := s.fcl.records[k]
    let t := conditionChanged k s
    (∀ j : Fin 16, j ≠ k → t.fcl.records[j] = s.fcl.records[j]) ∧
    (r.cls = .hw → r.state = .active → faultCondition s k = false → t.fcl.records[k] = { r with state := .clear }) ∧
    (r.cls = .sw ∨ r.state ≠ .active ∨ faultCondition s k = true → t = s)

/-- R183, R185, R189, R193. -/
def Obligations.EveryStepKeepsTablesInRange : Prop :=
  ∀ s t : State, TablesOk s → step s = .next t → TablesOk t

/-- R146 to R148: after every command that leaves the part powered every pin has the level that the rows of its output
give, and the backlight stands within its bounds. -/
def Obligations.PinsFollowTheGateAfterEveryCommand : Prop :=
  ∀ (c : Instr) (s t : State), exec c s = .next t → s.powered = true → t.powered = true →
    PinsOk t ∧ t.pog.applied[0] ≤ t.pog.requested[0] ∧ (t.mbs.pwrEn = false → t.pog.applied[0] = 0 ∧ t.pog.applied[5] = 0) ∧
    (t.znc.z1Cold = true → t.pog.applied[0] ≤ (t.tbs.tables.gate[0]).coldClamp) ∧
    (∀ i : Fin 6, (t.tbs.tables.gate[i]).valid = false → t.pog.applied[i] = 0) ∧
    (∀ i : Fin 6, i = 0 ∨ i = 5 → (t.tbs.tables.gate[i]).valid = true → GateLevel t i t.pog.applied[i]) ∧
    ∀ i : Fin 6, i ≠ 0 → i ≠ 5 → (t.tbs.tables.gate[i]).valid = true →
      ∃ requested, GateLevel t i requested ∧ (t.pog.applied[i] = 1 ↔ StatusOn t i ∨ 1 ≤ requested) ∧ t.pog.applied[i] ≤ 1

/-! Encodings -/

/-- R168 to R173: the characters of a request's frame, received from HUNT, serve exactly that request. That CHECK ends
within the last character is the model's reading (log entry 13). -/
def Obligations.AFrameIsReadBackAsItsRequest : Prop :=
  ∀ (kind tag : Byte) (payload : List Byte) (s : State), payload.length ≤ 63 → s.slp.rx = .hunt →
    ∃ x : Slp, (Frame.bytes ⟨kind, tag, payload⟩).foldl (fun s b => goodChar b s) s =
        takeRequest (serveKind kind tag payload) (s.setSlp x) ∧
      x = { s.slp with
        rx := .check, gap := none, idle := 0, len := payload.length + 2, toGo := 0, crc := x.crc, body := x.body }

/-- R195, R196, R201: in each of the eight layouts the bytes of an entry in range carry its fields at the offsets of the
layout, spare bits and bytes 0, and are read back as that entry; the codes of the enumerated fields; and what is not
judged and not stored. R189, R193, R201: the image of tables in range loads as exactly those tables. -/
def Obligations.EntriesAndImagesAreReadBack : Prop :=
  (∀ e : KeymapEntry, e.inRange = true → e.bytes.length = 4 ∧ KeymapEntry.ofBytes e.bytes = some e ∧
    let at? := itemField e.bytes
    at? 0 1 = e.valid.toNat + 2 * e.repeats.toNat + 4 * e.wake.toNat + 8 * e.isLocal.toNat ∧ at? 1 1 = e.code ∧
    at? 2 1 = e.sensitivity ∧ at? 3 1 = e.weight) ∧
  (∀ e : ChordEntry, e.inRange = true → e.bytes.length = 7 ∧ ChordEntry.ofBytes e.bytes = some e ∧
    let at? := itemField e.bytes
    at? 0 1 = e.valid.toNat ∧ at? 1 3 = e.members.toNat ∧ at? 4 1 = e.hold ∧ at? 5 1 = e.action.code ∧
    at? 6 1 = e.condition.code) ∧
  (∀ e : ZoneRecord, e.inRange = true → e.bytes.length = 19 ∧ ZoneRecord.ofBytes e.bytes = some e ∧
    let at? := itemField e.bytes
    at? 0 1 = e.valid.toNat ∧ at? 1 2 = signedField 16 e.release ∧ at? 3 1 = e.band ∧
    at? 4 2 = signedField 16 e.target ∧ at? 6 1 = e.gain ∧ at? 7 2 = e.dmax ∧ at? 9 2 = e.fallbackDuty ∧
    at? 11 2 = e.fallbackTime ∧ at? 13 1 = e.weight ∧ at? 14 2 = signedField 16 e.cutOut ∧ at? 16 1 = e.tripLevel ∧
    at? 17 1 = e.tripMode.code ∧ at? 18 1 = e.tripTimeout.code) ∧
  (∀ e : GlobalRecord, e.inRange = true → e.bytes.length = 19 ∧ GlobalRecord.ofBytes e.bytes = some e ∧
    let at? := itemField e.bytes
    at? 0 1 = 1 ∧ at? 1 2 = e.aCold ∧ at? 3 2 = e.aRun ∧ at? 5 2 = e.soakTime ∧ at? 7 2 = signedField 16 e.fanStart ∧
    at? 9 2 = signedField 16 e.fanFull ∧ at? 11 2 = e.fanMin ∧ at? 13 2 = signedField 16 e.filterDelta ∧
    at? 15 4 = 0) ∧
  (∀ (i : Fin 6) (e : GateEntry), e.inRange i = true → e.bytes.length = 7 ∧ GateEntry.ofBytes e.bytes = some e ∧
    let at? := itemField e.bytes
    at? 0 1 = e.valid.toNat ∧ at? 1 1 = e.permitBoot.toNat + 2 * e.permitRun.toNat + 4 * e.permitWarn.toNat ∧
    at? 2 2 = e.coldClamp ∧ at? 4 1 = e.source.code ∧ at? 5 2 = e.restartDefault) ∧
  (∀ e : CurvePoint, e.inRange = true → e.bytes.length = 5 ∧ CurvePoint.ofBytes e.bytes = some e ∧
    let at? := itemField e.bytes
    at? 0 1 = e.valid.toNat ∧ at? 1 2 = e.raw ∧ at? 3 2 = signedField 16 e.temp) ∧
  (∀ e : Policy, e.inRange = true → e.bytes.length = 14 ∧ Policy.ofBytes e.bytes = some e ∧
    let at? := itemField e.bytes
    at? 0 1 = 1 ∧ at? 1 2 = e.heartbeatLimit ∧ at? 3 2 = e.bootWindow ∧ at? 5 1 = e.resetPulse ∧
    at? 6 1 = e.cycleOffTime ∧ at? 7 1 = e.nReset ∧ at? 8 1 = e.nCycle ∧ at? 9 2 = e.stableTime ∧
    at? 11 1 = e.lockoutRetry ∧ at? 12 1 = e.pgTimeout ∧ at? 13 1 = e.warnEnable.toNat) ∧
  (∀ e : ReactionEntry, e.bytes.length = 2 ∧ ReactionEntry.ofBytes e.bytes = some e ∧
    let at? := itemField e.bytes
    at? 0 1 = e.valid.toNat + 2 * e.cls.code ∧
    at? 1 1 = e.report.toNat + 2 * e.indicate.toNat + 4 * e.hold.toNat + 8 * e.restart.toNat) ∧
  ([ChordAction.restart, .cycle, .powerOff, .powerOn, .heatOverride, .report].map ChordAction.code = List.range 6 ∧
    [ChordCondition.any, .railOn, .railOff].map ChordCondition.code = List.range 3 ∧
    [TripMode.report, .chop, .chopTimed, .latch].map TripMode.code = List.range 4 ∧
    [TripTimeout.ms100, .ms200, .ms400, .ms800].map TripTimeout.code = List.range 4 ∧
    [StatusSource.none, .heat, .fault, .lockout].map StatusSource.code = List.range 4 ∧
    [FaultClass.hw, .sw].map FaultClass.code = List.range 2) ∧
  (∀ (f p : Byte) (bs : List Byte),
    KeymapEntry.ofBytes (f :: bs) = KeymapEntry.ofBytes ((f &&& 0x0F) :: bs) ∧
    ChordEntry.ofBytes (f :: bs) = ChordEntry.ofBytes ((f &&& 1) :: bs) ∧
    ZoneRecord.ofBytes (f :: bs) = ZoneRecord.ofBytes ((f &&& 1) :: bs) ∧
    (∀ spare : List Byte, bs.length = 14 → spare.length = 4 →
      GlobalRecord.ofBytes (f :: bs ++ spare) = GlobalRecord.ofBytes (1 :: bs ++ [0, 0, 0, 0])) ∧
    GateEntry.ofBytes (f :: p :: bs) = GateEntry.ofBytes ((f &&& 1) :: (p &&& 7) :: bs) ∧
    CurvePoint.ofBytes (f :: bs) = CurvePoint.ofBytes ((f &&& 1) :: bs) ∧
    Policy.ofBytes (f :: bs) = Policy.ofBytes (1 :: bs) ∧
    Policy.ofBytes (bs ++ [p]) = Policy.ofBytes (bs ++ [p &&& 1]) ∧
    ReactionEntry.ofBytes (f :: p :: bs) = ReactionEntry.ofBytes ((f &&& 3) :: (p &&& 0x0F) :: bs)) ∧
  ∀ T : Tables, T.inRange → tablesOfImage (imageBytes T) = some T

/-! Temperature -/

/-- R1 to R3: a conversion instant between second boundaries, every channel GOOD, every code in range. R1 to R5: at every
instant each channel is as its own conversion makes it, but for the temperature that a second boundary forms; and what one
conversion makes of a channel, GOOD or not, with a code in range or out of range, at every count, run and suspect timer. -/
def Obligations.ConversionsFillWindowsAndMoveHealth : Prop :=
  (∀ (c0 c1 c2 c3 : BitVec 12) (s : State), s.powered = true → (s.tmu.instants + 1) % 8 ≠ 0 →
    (∀ i : Fin 4, (s.tmu.channels[i]).health = .good) → (s.fcl.records[5]).state ≠ .active →
    (∀ i : Fin 4, 16 ≤ (#v[c0, c1, c2, c3][i]).toNat ∧ (#v[c0, c1, c2, c3][i]).toNat ≤ 4079) →
    ∃ t, exec (.conversionInstant c0 c1 c2 c3) s = .next t ∧
      t = { s with
        tmu := { s.tmu with
          instants := s.tmu.instants + 1, channels := t.tmu.channels, codes := #v[c0, c1, c2, c3] }
        pog := { s.pog with applied := t.pog.applied } } ∧
      ∀ i : Fin 4, t.tmu.channels[i] = { s.tmu.channels[i] with
        outCount := 0
        window := (((s.tmu.channels[i]).window ++ [(#v[c0, c1, c2, c3][i]).toNat]).drop
          ((s.tmu.channels[i]).window.length - 7)) }) ∧
  (∀ (c0 c1 c2 c3 : BitVec 12) (s : State), s.powered = true →
    ∃ t, exec (.conversionInstant c0 c1 c2 c3) s = .next t ∧ t.tmu.instants = s.tmu.instants + 1 ∧
      t.tmu.codes = #v[c0, c1, c2, c3] ∧ ∀ i : Fin 4,
        let d := convertChannel (#v[c0, c1, c2, c3][i]).toNat s.tmu.channels[i]
        t.tmu.channels[i] =
          { d with held := (t.tmu.channels[i]).held, outOfTable := (t.tmu.channels[i]).outOfTable } ∧
        ((s.tmu.instants + 1) % 8 ≠ 0 → t.tmu.channels[i] = d)) ∧
  ∀ (code : Nat) (c : TmuChannel),
    let d := convertChannel code c
    let inRange := 16 ≤ code ∧ code ≤ 4079
    let pushed := (c.window ++ [code]).drop (c.window.length - 7)
    let counted := { c with outCount := min 255 (c.outCount + 1) }
    let timed :=
      (c.suspect = none → d.health = c.health ∧ d.suspect = none) ∧
      (∀ n, c.suspect = some n → n < 79 → d.health = c.health ∧ d.suspect = some (n + 1)) ∧
      (∀ n, c.suspect = some n → 79 ≤ n → d.health = .failed ∧ d.suspect = none)
    (c.health = .good → inRange → d = { c with window := pushed, outCount := 0 }) ∧
    (c.health = .good → ¬inRange → c.outCount < 2 → d = counted) ∧
    (c.health = .good → ¬inRange → c.outCount = 2 →
      d = { counted with health := .suspect, window := [], runCount := 0, suspect := some 0 }) ∧
    (c.health ≠ .good → inRange → c.runCount < 7 → timed ∧ d = { c with
      window := pushed, runCount := c.runCount + 1, outCount := 0, health := d.health, suspect := d.suspect }) ∧
    (c.health ≠ .good → inRange → 7 ≤ c.runCount → d = { c with
      window := pushed, runCount := c.runCount + 1, outCount := 0, health := .good, suspect := none }) ∧
    (c.health ≠ .good → ¬inRange → timed ∧
      d = { counted with window := [], runCount := 0, health := d.health, suspect := d.suspect })

/-- R4, R5, R12: the suspect timer counts every conversion instant; at the one that brings it to 80 the channel becomes
FAILED, with its F5 occurrence, unless its code returns it to GOOD. SUSPECT_TIMER_EXPIRY is that instant, the inputs as
they were last converted (the model's choice, log entry 37); at an earlier one, and for a channel that is not SUSPECT, it
changes nothing (the model's choice, log entry 12). The order of several occurrences (log entry 23), and that the F5
condition does not end where another sensor recovers at the same instant (log entry 29), are the model's choices. -/
def Obligations.SuspectTimerExpiryFailsTheSensor : Prop :=
  let recovers := fun (code : BitVec 12) (c : TmuChannel) => 16 ≤ code.toNat ∧ code.toNat ≤ 4079 ∧ 7 ≤ c.runCount
  let counted := fun s t : State => CountedEach s t 5 fun j : Fin 4 =>
    (s.tmu.channels[j]).health != .failed && (t.tmu.channels[j]).health == .failed
  let failed := fun c d : TmuChannel =>
    d.health = .failed ∧ d.suspect = none ∧ d.held = c.held ∧ d.outOfTable = c.outOfTable
  (∀ (c0 c1 c2 c3 : BitVec 12) (i : Fin 4) (n : Nat) (s : State), s.powered = true →
    (s.tmu.channels[i]).health = .suspect → (s.tmu.channels[i]).suspect = some n →
    ∃ t, exec (.conversionInstant c0 c1 c2 c3) s = .next t ∧ t.tick = s.tick ∧ t.tbs = s.tbs ∧ counted s t ∧
      let codes := #v[c0, c1, c2, c3]
      let c := s.tmu.channels[i]
      let d := t.tmu.channels[i]
      (recovers codes[i] c → d.health = .good ∧ d.suspect = none) ∧
      (¬recovers codes[i] c → n < 79 → d.health = .suspect ∧ d.suspect = some (n + 1) ∧ d.held = c.held) ∧
      (¬recovers codes[i] c → 79 ≤ n → failed c d) ∧
      ((s.tmu.instants + 1) % 8 ≠ 0 →
        (∀ j : Fin 4, t.tmu.channels[j] = convertChannel (codes[j]).toNat s.tmu.channels[j]) ∧
        t.tmu = { s.tmu with
          instants := s.tmu.instants + 1, channels := t.tmu.channels, ring := t.tmu.ring, drift := t.tmu.drift
          codes := codes } ∧
        (¬recovers codes[i] c → 79 ≤ n → (∀ j : Fin 4, j ≠ i →
            (t.tmu.channels[j]).health = .failed → (s.tmu.channels[j]).health = .failed) →
          Counted s t 5 i.val ∧ t = drivePins (report 5 i.val { s with tmu := t.tmu }) ∧
          ((reactionInForce s.tbs.tables 5).restart = false → OnlyReported { s with tmu := t.tmu } t)))) ∧
  ∀ (i : Fin 4) (s : State), s.powered = true →
    let c := s.tmu.channels[i]
    let codes := s.tmu.codes
    (∀ n, c.health = .suspect → c.suspect = some n → 79 ≤ n →
      ∃ t, exec (.suspectTimerExpiry i) s = .next t ∧
        exec (.conversionInstant codes[0] codes[1] codes[2] codes[3]) s = .next t ∧ t.tick = s.tick ∧ counted s t ∧
        (¬recovers codes[i] c → failed c t.tmu.channels[i]) ∧
        (recovers codes[i] c → (t.tmu.channels[i]).health = .good ∧ (t.tmu.channels[i]).suspect = none)) ∧
    (c.health ≠ .suspect ∨ (∀ n, c.suspect = some n → n < 79) →
      ∃ t, exec (.suspectTimerExpiry i) s = .next t ∧ t = { s with pog := { s.pog with applied := t.pog.applied } })

/-- R9, R10: linearization along valid points whose raw codes ascend. -/
def Obligations.LinearizationInterpolatesAndClamps : Prop :=
  ∀ (points : List (Nat × Int)) (x : Nat), ascending points = true →
    (∀ p rest, points = p :: rest → x < p.1 → linearize points x = (p.2, true)) ∧
    (∀ l p, points = l ++ [p] → x = p.1 → linearize points x = (p.2, false)) ∧
    (∀ l p, points = l ++ [p] → p.1 < x → linearize points x = (p.2, true)) ∧
    (∀ l p q r, points = l ++ p :: q :: r → p.1 ≤ x → x < q.1 →
      linearize points x = (p.2 + (((x : Int) - p.1) * (q.2 - p.2)).tdiv ((q.1 : Int) - p.1), false))

/-- R2, R10, R14: a second boundary hands the set of what the channels then hold. R16: the ring takes S1's new value. -/
def Obligations.ASecondBoundaryHandsTheSet : Prop :=
  ∀ (c0 c1 c2 c3 : BitVec 12) (s : State), s.powered = true → (s.tmu.instants + 1) % 8 = 0 →
    ∃ t set, exec (.conversionInstant c0 c1 c2 c3) s = .next t ∧ t.tmu.lastSet = some set ∧ set.drift = t.tmu.drift ∧
      t.tick = s.tick ∧ t.tbs = s.tbs ∧ t.tmu.instants = s.tmu.instants + 1 ∧
      t.hfd.pulses = 0 ∧ t.hfd.speed = min 65535 (30 * s.hfd.pulses) ∧
      let forms := fun i : Fin 4 =>
        (t.tmu.channels[i]).health = .good ∧ (t.tmu.channels[i]).window.length = 8 ∧ t.tmu.short = false
      (∀ v, forms 1 → (t.tmu.channels[1]).held = some v → t.tmu.ring = (s.tmu.ring ++ [v]).drop (s.tmu.ring.length - 8)) ∧
      (¬forms 1 → t.tmu.ring =
        if reportedHealth s.tmu 1 = .good ∧ reportedHealth t.tmu 1 ≠ .good then [] else s.tmu.ring) ∧
      ∀ i : Fin 4,
        (set.readings[i]).temp = (t.tmu.channels[i]).held ∧
        (set.readings[i]).outOfTable = (t.tmu.channels[i]).outOfTable ∧
        (set.readings[i]).health = (if t.tmu.short then .failed else (t.tmu.channels[i]).health) ∧
        (forms i → let r := linearize (validPoints s.tbs.tables.curve) ((t.tmu.channels[i]).window.sum / 8)
          (t.tmu.channels[i]).held = some r.1 ∧ (t.tmu.channels[i]).outOfTable = r.2) ∧
        (¬forms i → (t.tmu.channels[i]).held = (s.tmu.channels[i]).held ∧
          (t.tmu.channels[i]).outOfTable = (s.tmu.channels[i]).outOfTable)

/-- R17: the drift class at a second boundary, at each emptying of the ring (S1 leaving GOOD by its third code out of
range; a change to T4, by which a short curve begins), in the set handed on and in STATUS READ. -/
def Obligations.DriftClassFollowsTheSlope : Prop :=
  (∀ (c0 c1 c2 c3 : BitVec 12) (s : State), s.powered = true → (s.tmu.instants + 1) % 8 = 0 →
    ∃ t, exec (.conversionInstant c0 c1 c2 c3) s = .next t ∧
    let u := t.tmu
    let slope := u.ring.getLastD 0 - u.ring.headD 0
    (u.ring.length = 9 → reportedHealth u 1 = .good → slope.natAbs < 5 → u.drift = 0) ∧
    (u.ring.length = 9 → reportedHealth u 1 = .good → 5 ≤ slope.natAbs → slope.natAbs < 20 → u.drift = 1) ∧
    (u.ring.length = 9 → reportedHealth u 1 = .good → 20 ≤ slope.natAbs → u.drift = 2) ∧
    (u.ring.length < 9 ∨ reportedHealth u 1 ≠ .good → u.drift = 1) ∧
    u.lastSet.map (fun x => x.drift) = some u.drift) ∧
  (∀ (c0 c1 c2 c3 : BitVec 12) (s : State), s.powered = true → s.tmu.short = false →
    (s.tmu.channels[1]).health = .good → (s.tmu.channels[1]).outCount = 2 → c1.toNat < 16 ∨ 4079 < c1.toNat →
    ∃ t, exec (.conversionInstant c0 c1 c2 c3) s = .next t ∧ t.tmu.ring = [] ∧ t.tmu.drift = 1) ∧
  (∀ s : State, (noticeCurve s).tmu.ring = [] ∧ (noticeCurve s).tmu.drift = 1 ∧
    (noticeCurve s).tmu.short = curveShort s.tbs.tables.curve) ∧
  ∀ s : State, (statusItems s 1).getLast? = some (byteOf s.tmu.drift.val)

/-- R37, R38: in RUN and WARN a second boundary counts its set in the filter window in progress; the 600th ends the
window, judges it and begins the next, while F5 and F8 restart nothing. FILTER_WINDOW_END, due at once, reports the F10
occurrence of a window judged loaded, once, and without one nothing; that the report is a command of its own is the
model's choice (log entry 2). -/
def Obligations.AFilterWindowEndIsJudged : Prop :=
  (∀ (c0 c1 c2 c3 : BitVec 12) (w : FilterWindow) (s : State), s.powered = true → (s.tmu.instants + 1) % 8 = 0 →
    s.hfd.filter = some w → s.hfd.loadedFilter = none → s.mbs.state = .run ∨ s.mbs.state = .warn →
    (∀ k ∈ ([5, 8] : List FaultKind), (reactionInForce s.tbs.tables k).restart = false) →
    ∃ t set, exec (.conversionInstant c0 c1 c2 c3) s = .next t ∧ t.tmu.lastSet = some set ∧
      t.fcl.records[10] = s.fcl.records[10] ∧
      let full := w.fullDuty && decide (1000 ≤ t.hfd.fanDuty)
      let due := t.hfd.loadedFilter
      (w.sets + 1 < 600 → t.hfd.filter = some ⟨w.sets + 1, full⟩ ∧ due = none) ∧
      (600 ≤ w.sets + 1 → t.hfd.filter = some ⟨0, decide (1000 ≤ t.hfd.fanDuty)⟩ ∧
        (∀ a b, (set.readings[0]).temp = some a → (set.readings[3]).temp = some b →
          (set.readings[0]).health ≠ .failed → (set.readings[3]).health ≠ .failed →
          (full = true → s.tbs.tables.glob.filterDelta ≤ a - b → due = some (min 255 ((a - b).tdiv 10).toNat)) ∧
          (full = false ∨ a - b < s.tbs.tables.glob.filterDelta → due = none)) ∧
        ((set.readings[0]).health = .failed ∨ (set.readings[3]).health = .failed ∨ (set.readings[0]).temp = none ∨
          (set.readings[3]).temp = none → due = none))) ∧
  ∀ s : State, s.powered = true →
    ∃ t, exec .filterWindowEnd s = .next t ∧
      (s.hfd.loadedFilter = none → t = { s with pog := { s.pog with applied := t.pog.applied } }) ∧
      ∀ d, s.hfd.loadedFilter = some d → Counted s t 10 d ∧ t.hfd.loadedFilter = none ∧
        t = drivePins (report 10 d { s with hfd := { s.hfd with loadedFilter := none } }) ∧
        ((reactionInForce s.tbs.tables 10).restart = false →
          OnlyReported { s with hfd := { s.hfd with loadedFilter := none } } t)

/-! Heaters and fan -/

/-- R29, R30: the effective demands, their scaling, that it fits the allotment, and that in every state that meets the
heaters' invariant the applied duties fit the allotment in force and are gated. -/
def Obligations.ScaledDutiesFitTheAllotment : Prop :=
  (∀ (s : State) (i : Fin 3), s.hfd.railChange = .none →
    effectiveDemand s i =
      if (s.tbs.tables.zones[i]).valid = false ∨ (s.hfd.channels[i]).state = .latchedOff ∨
        (s.znc.zones[i]).cutOut = true ∨ s.mbs.state = .off ∨ s.mbs.state = .lockout then 0
      else min (s.hfd.channels[i]).demand (s.tbs.tables.zones[i]).dmax) ∧
  (∀ (T : Tables) (e : Fin 3 → Nat) (watts : Nat),
    let sum := e 0 * (T.zones[0]).weight + e 1 * (T.zones[1]).weight + e 2 * (T.zones[2]).weight
    (sum ≤ watts * 1000 → ∀ i, scaledDuty T e watts i = e i) ∧
    (watts * 1000 < sum → ∀ i, scaledDuty T e watts i = e i * (watts * 1000) / sum) ∧
    scaledDuty T e watts 0 * (T.zones[0]).weight + scaledDuty T e watts 1 * (T.zones[1]).weight +
      scaledDuty T e watts 2 * (T.zones[2]).weight ≤ watts * 1000) ∧
  ∀ s : State, HeatersOk s →
    (s.hfd.channels[0]).applied * (s.tbs.tables.zones[0]).weight +
      (s.hfd.channels[1]).applied * (s.tbs.tables.zones[1]).weight +
      (s.hfd.channels[2]).applied * (s.tbs.tables.zones[2]).weight ≤ allotment s * 1000 ∧
    ∀ i : Fin 3,
      (s.hfd.channels[i]).applied = scaledDuty s.tbs.tables (effectiveDemand s) (allotment s) i ∧
      (s.hfd.channels[i]).applied ≤ (s.tbs.tables.zones[i]).dmax ∧
      ((s.tbs.tables.zones[i]).valid = false ∨ (s.hfd.channels[i]).state = .latchedOff ∨
        (s.znc.zones[i]).cutOut = true ∨ s.mbs.state = .off ∨ s.mbs.state = .lockout →
        (s.hfd.channels[i]).applied = 0)

/-- R19, R22, R23, R25 to R27: what every channel holds after a period start, its low and loaded counts, and when it enters
and leaves open-load, with its F7 occurrence; R51, R52: the degraded timer of its zone. That the new period runs the duties as the command leaves them, also where an F7 with RESTART or the end of
a HOLD inhibit recomputes them, is the model's choice (log entry 26); so are the order of two occurrences (log entry 23)
and that one channel's entry into open-load at a period start at which another leaves it is a further occurrence of a
condition that has not ended (log entry 29), that a period in which the zone record has changed is judged as the first of
the ten (log entry 28), and that the period whose trip latched the channel is judged and can end its open-load (log entry
39).
R19: the end of an on-time; that of a channel which is not DRIVING changes nothing (log entry 12). -/
def Obligations.PeriodsTakeTheDutiesAndEndTheirOnTimes : Prop :=
  (∀ (p0 p1 p2 : Nat) (s : State), s.powered = true →
    ∃ t, exec (.periodStart p0 p1 p2) s = .next t ∧ t.tick = s.tick ∧ t.tbs = s.tbs ∧ t.tmu = s.tmu ∧
      ((reactionInForce s.tbs.tables 7).restart = false → s.mbs.state ≠ .heatHold ∨ s.znc.release = false →
        OnlyReported
          { s with
            hfd := { s.hfd with channels := t.hfd.channels }
            znc := { s.znc with zones := tab fun i =>
              { s.znc.zones[i] with degraded := (t.znc.zones[i]).degraded } } } t ∧
        ∀ i : Fin 3, (t.hfd.channels[i]).applied = (s.hfd.channels[i]).applied ∧
          (t.hfd.channels[i]).demand = (s.hfd.channels[i]).demand) ∧
      CountedEach s t 7 (fun i : Fin 3 => !(s.hfd.channels[i]).openLoad && (t.hfd.channels[i]).openLoad) ∧
      ∀ i : Fin 3,
        let c := s.hfd.channels[i]
        let d := t.hfd.channels[i]
        let z := s.tbs.tables.zones[i]
        let loaded := c.tripped = true ∨ c.level * 100 ≤ (#v[p0, p1, p2][i]) * 8
        (t.znc.zones[i]).degraded = (if zoneDegraded t i then (s.znc.zones[i]).degraded else 0) ∧
        d.level = z.tripLevel ∧ d.mode = z.tripMode ∧ d.timeout = z.tripTimeout ∧ d.tripped = false ∧
        d.tripCondition = (c.tripCondition && c.tripped) ∧ d.tripCount = (if c.tripped then c.tripCount else 0) ∧
        (c.state = .latchedOff → d.state = .latchedOff ∧ d.periodDuty = 0 ∧ d.output = false) ∧
        (c.state ≠ .latchedOff → d.periodDuty = d.applied ∧ d.output = decide (0 < d.applied) ∧
          d.state = (if d.applied = 0 then .idle else .driving)) ∧
        (c.periodDuty ≠ 0 → ¬loaded → d.lowCount = min 10 (c.lowCount + 1) ∧ d.loadedCount = 0 ∧
          d.openLoad = (c.openLoad || decide (9 ≤ c.lowCount))) ∧
        (c.periodDuty ≠ 0 → loaded → d.loadedCount = min 10 (c.loadedCount + 1) ∧ d.lowCount = 0 ∧
          d.openLoad = (c.openLoad && decide (c.loadedCount < 9))) ∧
        (c.periodDuty = 0 → d.openLoad = c.openLoad ∧ d.lowCount = c.lowCount ∧ d.loadedCount = c.loadedCount)) ∧
  ∀ (i : Fin 3) (s : State), s.powered = true →
    ∃ t, exec (.heaterOnTimeEnd i) s = .next t ∧
      t = { s with
        hfd := { s.hfd with channels := t.hfd.channels }
        pog := { s.pog with applied := t.pog.applied } } ∧
      ((s.hfd.channels[i]).state = .driving → (s.hfd.channels[i]).periodDuty < 1000 →
        t.hfd.channels[i] = { s.hfd.channels[i] with output := false }) ∧
      ((s.hfd.channels[i]).state ≠ .driving ∨ 1000 ≤ (s.hfd.channels[i]).periodDuty →
        t.hfd.channels[i] = s.hfd.channels[i]) ∧
      ∀ j : Fin 3, j ≠ i → t.hfd.channels[j] = s.hfd.channels[j]

/-- R21 to R24: a trip, by the trip mode in force for the period. R23, R31: an entry into LATCHED_OFF recomputes the duties
of all three channels, its own to 0. -/
def Obligations.ATripActsByItsMode : Prop :=
  ∀ (i : Fin 3) (current : Nat) (s : State), s.powered = true → (s.hfd.channels[i]).output = true →
    (s.hfd.channels[i]).tripped = false → (s.hfd.channels[i]).level * 100 < current →
    ∃ t, exec (.heaterTrip i current) s = .next t ∧ Counted s t 6 i.val ∧ t.tick = s.tick ∧ t.tbs = s.tbs ∧
      let c := s.hfd.channels[i]
      let d := t.hfd.channels[i]
      let u := report 6 i.val { s with hfd := { s.hfd with
        channels := s.hfd.channels.set i { c with tripped := true, tripCondition := true } } }
      (∀ j : Fin 3, j ≠ i →
        t.hfd.channels[j] = { s.hfd.channels[j] with applied := (t.hfd.channels[j]).applied }) ∧
      ((reactionInForce s.tbs.tables 6).restart = false →
        OnlyReported { s with hfd := { s.hfd with channels := t.hfd.channels } } t) ∧
      t = drivePins { u with hfd := { u.hfd with channels := t.hfd.channels } } ∧
      d = { c with
        state := d.state, output := d.output, tripped := true, tripCondition := true, tripCount := d.tripCount
        applied := d.applied } ∧
      (d.state = .latchedOff → d.applied = 0 ∧ ∀ j : Fin 3, (t.hfd.channels[j]).applied = newDuty t j) ∧
      (d.state ≠ .latchedOff → (reactionInForce s.tbs.tables 6).restart = false →
        ∀ j : Fin 3, (t.hfd.channels[j]).applied = (s.hfd.channels[j]).applied) ∧
      (c.mode = .report → d.state = c.state ∧ d.output = true ∧ d.tripCount = c.tripCount) ∧
      (c.mode = .chop → d.state = .chopped ∧ d.output = false ∧ d.tripCount = c.tripCount) ∧
      (c.mode = .chopTimed → c.tripCount + 1 < c.timeout.periods →
        d.state = .chopped ∧ d.output = false ∧ d.tripCount = c.tripCount + 1) ∧
      (c.mode = .chopTimed → c.timeout.periods ≤ c.tripCount + 1 →
        d.state = .latchedOff ∧ d.output = false ∧ d.tripCount = 0) ∧
      (c.mode = .latch → d.state = .latchedOff ∧ d.output = false ∧ d.tripCount = 0)

/-- R36: 200 ticks without a pulse at a duty of 200 or more stall the fan, once those that remain have passed with
nothing else falling due (log entry 1); a tachometer pulse, where the end of a stall is said for the case that it
switches no main board on. -/
def Obligations.FanStallsAndRecovers : Prop :=
  (∀ (n : Nat) (s : State), s.powered = true → s.hfd.stall = some n →
    onlyDue .stallTimerExpiry (200 - n) s = true →
    ∃ t, exec .stallTimerExpiry s = .next t ∧ t.hfd.fanState = .stalled ∧ t.hfd.stall = none ∧
      t.tick = s.tick + (200 - n) ∧ Counted s t 9 0 ∧ t.tmu = s.tmu ∧ t.tbs = s.tbs ∧
      t = drivePins (report 9 0
        { elapse (200 - n) s with hfd := { s.hfd with fanState := .stalled, stall := none } }) ∧
      ((reactionInForce s.tbs.tables 9).restart = false → OnlyReported
        { elapse (200 - n) s with hfd := { s.hfd with fanState := .stalled, stall := none } } t)) ∧
  ∀ s : State, s.powered = true →
    ∃ t, exec .fanTachPulse s = .next t ∧
      (s.hfd.fanDuty < 200 → t = { s with
        hfd := { s.hfd with pulses := s.hfd.pulses + 1 }, pog := { s.pog with applied := t.pog.applied } }) ∧
      (200 ≤ s.hfd.fanDuty → s.hfd.fanState ≠ .stalled → t = { s with
        hfd := { s.hfd with pulses := s.hfd.pulses + 1, stall := some 0 }
        pog := { s.pog with applied := t.pog.applied } }) ∧
      (200 ≤ s.hfd.fanDuty → s.hfd.fanState = .stalled →
        s.fcl.hold = false ∨ s.mbs.state ≠ .heatHold ∨ s.znc.release = false →
        t = { s with
          hfd := { s.hfd with pulses := s.hfd.pulses + 1, fanState := .running, stall := some 0 }
          fcl := t.fcl, pog := { s.pog with applied := t.pog.applied } } ∧
        ((s.fcl.records[9]).cls = .hw → (s.fcl.records[9]).state = .active →
          (t.fcl.records[9]) = { s.fcl.records[9] with state := .clear }))

/-- R34: the fan duty by the first row that applies. R36, R37: what a duty in force does to the fan state, the stall
timer and the full-duty mark. R35: every step keeps the fan at the duty that the last set, the rail and the tables give
it. -/
def Obligations.TheFanDutyFollowsItsTable : Prop :=
  (∀ s : State,
    let g := s.tbs.tables.glob
    let r := lastReading s 3
    let below := ∃ i : Fin 3, (s.tbs.tables.zones[i]).valid = true ∧ (lastReading s (zoneSensor i)).health ≠ .failed ∧
      ∃ x, (lastReading s (zoneSensor i)).temp = some x ∧ x < (s.tbs.tables.zones[i]).release
    (s.mbs.pwrEn = false ∨ below → fanDutyNow s = 0) ∧
    (s.mbs.pwrEn = true → ¬below → r.health = .failed ∨ r.temp = none → fanDutyNow s = 1000) ∧
    ∀ x, s.mbs.pwrEn = true → ¬below → r.health ≠ .failed → r.temp = some x →
      (x ≤ g.fanStart → fanDutyNow s = 0) ∧
      (g.fanStart < x → g.fanFull ≤ x → fanDutyNow s = 1000) ∧
      (g.fanStart < x → x < g.fanFull → (fanDutyNow s : Int) =
        g.fanMin + ((x - g.fanStart) * (1000 - (g.fanMin : Int))).tdiv (g.fanFull - g.fanStart))) ∧
  (∀ (d : Nat) (s : State),
    let t := setFanDuty d s
    t = { s with hfd := { s.hfd with
      fanDuty := d, fanState := t.hfd.fanState, stall := t.hfd.stall, filter := t.hfd.filter } } ∧
    (s.hfd.fanState = .stalled → t.hfd.fanState = .stalled ∧ t.hfd.stall = none) ∧
    (s.hfd.fanState ≠ .stalled → t.hfd.fanState = if d = 0 then .stopped else .running) ∧
    (d < 200 → t.hfd.stall = none) ∧
    (s.hfd.fanState ≠ .stalled → 200 ≤ d → t.hfd.stall = some (s.hfd.stall.getD 0)) ∧
    (∀ w, s.hfd.filter = some w → t.hfd.filter = some ⟨w.sets, w.fullDuty && decide (1000 ≤ d)⟩)) ∧
  ∀ s t : State, SupervisorOk s → FanOk s → step s = .next t → FanOk t

/-! Zones -/

/-- R47, R51 to R55, R57: the Zone Controller's conditions, timers, Z1 cold and release condition at a computation; the
degraded timer of a zone that is not degraded, valid or not, is 0 then (R52). R44,
R48, R54, R56, R64: what a second boundary hands on and which zones count F8, where F5, F8 and F10 restart nothing; in
HEAT_HOLD it is said from a state in which the release condition did not hold before. That one zone's entry into cut-out
at the computation at which another leaves it is a further occurrence of F8 is the model's choice (log entry 29); so is
that the notice of the switch-on takes up changed tables (log entry 30). Release is judged against the HOLD inhibit as the
F5 and F8 reports of the same second boundary leave it, an order that is DEDUCED (log entry 7). -/
def Obligations.TheZoneComputationFollowsItsRules : Prop :=
  (∀ s : State, let t := zoneComputation s
    t.znc.override = false ∧ t.znc.z1Cold = z1ColdNow s ∧
    ((s.tbs.tables.zones[1]).valid = true →
      (z1ColdNow s = false ↔ (lastReading s 1).health = .good ∧
        ∃ x, (lastReading s 1).temp = some x ∧ (s.tbs.tables.zones[1]).release ≤ x)) ∧
    ∀ i : Fin 3,
      let z := s.tbs.tables.zones[i]
      let r := lastReading s (zoneSensor i)
      (z.valid = false → (t.znc.zones[i]).cutOut = false ∧ (t.znc.zones[i]).degraded = 0 ∧
        (t.znc.zones[i]).soak = none ∧ (t.hfd.channels[i]).demand = 0) ∧
      (∀ x, z.valid = true → r.temp = some x →
        (z.cutOut ≤ x → (t.znc.zones[i]).cutOut = true) ∧
        (x < z.cutOut - 20 → (t.znc.zones[i]).cutOut = false) ∧
        (z.cutOut - 20 ≤ x → x < z.cutOut → (t.znc.zones[i]).cutOut = (s.znc.zones[i]).cutOut)) ∧
      (z.valid = true → r.temp = none → (t.znc.zones[i]).cutOut = false) ∧
      (zoneDegraded s i = true → s.mbs.state = .heatHold →
        (t.znc.zones[i]).degraded = min 3600 ((s.znc.zones[i]).degraded + 1)) ∧
      (zoneDegraded s i = true → s.mbs.state ≠ .heatHold →
        (t.znc.zones[i]).degraded = (s.znc.zones[i]).degraded) ∧
      (zoneDegraded s i = false → (t.znc.zones[i]).degraded = 0) ∧
      (∀ x, z.valid = true → r.health = .good → r.temp = some x → z.release ≤ x →
        (t.znc.zones[i]).soak = (match (s.znc.zones[i]).soak with | some n => some (min 600 (n + 1)) | none => some 0)) ∧
      (∀ x, r.temp = some x → x < z.release → (t.znc.zones[i]).soak = none) ∧
      (z.valid = true → r.health ≠ .good ∨ r.temp = none → (t.znc.zones[i]).soak = none)) ∧
  (∀ s : State,
    (∀ i : Fin 3, zoneDegraded s i = true ↔ (s.tbs.tables.zones[i]).valid = true ∧
      ((lastReading s (zoneSensor i)).health = .failed ∨ (s.hfd.channels[i]).openLoad = true ∨
        (s.hfd.channels[i]).state = .latchedOff)) ∧
    (releaseNow s = true ↔ s.znc.override = true ∨ ∀ i : Fin 3,
      (s.tbs.tables.zones[i]).valid = false ∨
      (∃ n, (s.znc.zones[i]).soak = some n ∧ s.tbs.tables.glob.soakTime ≤ n) ∨
      (zoneDegraded s i = true ∧ (s.tbs.tables.zones[i]).fallbackTime ≤ (s.znc.zones[i]).degraded))) ∧
  ∀ (c0 c1 c2 c3 : BitVec 12) (s : State), s.powered = true → (s.tmu.instants + 1) % 8 = 0 →
    (∀ k ∈ ([5, 8, 10] : List FaultKind), (reactionInForce s.tbs.tables k).restart = false) →
    let u := s.setTmu ((s.tmu.convert #v[c0, c1, c2, c3]).boundary (validPoints s.tbs.tables.curve))
    let v := zoneComputation u
    let r := releaseNow (computeTimers (computeCutOuts u))
    ∃ t, exec (.conversionInstant c0 c1 c2 c3) s = .next t ∧
      CountedEach s t 8 (fun i : Fin 3 => !(s.znc.zones[i]).cutOut && (t.znc.zones[i]).cutOut) ∧
      (s.mbs.state ≠ .heatHold ∨ (s.znc.release = false ∧ (r = false ∨ t.fcl.hold = true)) →
        t.znc = { v.znc with release := r } ∧ t.mbs = s.mbs ∧
        ∀ i : Fin 3, (t.hfd.channels[i]).demand = zoneDemand (computeTimers (computeCutOuts u)) s.mbs.state.railOn i) ∧
      (s.mbs.state = .heatHold → s.znc.release = false → r = true → t.fcl.hold = false →
        t.mbs.state = .powering ∧ t.mbs.pwrEn = true ∧ t.znc = { v.znc with release := true } ∧
        ∀ i : Fin 3, (t.hfd.channels[i]).demand = zoneDemand t true i)

/-- R45, R46, R49, R50: the demand of a zone by the first row that applies. -/
def Obligations.TheDemandComesFromTheFirstRow : Prop :=
  ∀ (s : State) (railOn : Bool) (i : Fin 3),
    let z := s.tbs.tables.zones[i]
    let r := lastReading s (zoneSensor i)
    let target := if railOn then z.target else z.release + z.band
    (z.valid = false ∨ s.mbs.state = .off ∨ s.mbs.state = .lockout ∨ (s.znc.zones[i]).cutOut = true →
      zoneDemand s railOn i = 0) ∧
    (∀ x, z.valid = true → s.mbs.state ≠ .off → s.mbs.state ≠ .lockout → (s.znc.zones[i]).cutOut = false →
      r.health ≠ .failed → r.temp = some x →
      ((zoneDemand s railOn i : Nat) : Int) = max 0 (min (z.dmax : Int) ((target - x) * (z.gain : Int)))) ∧
    (z.valid = true → s.mbs.state ≠ .off → s.mbs.state ≠ .lockout → (s.znc.zones[i]).cutOut = false →
      r.health = .failed ∨ r.temp = none →
      (railOn = false →
        zoneDemand s railOn i = if (s.znc.zones[i]).degraded < z.fallbackTime then z.fallbackDuty else 0) ∧
      (∀ x, railOn = true → (lastReading s 3).health = .good → (lastReading s 3).temp = some x →
        zoneDemand s railOn i = if x < z.target then z.fallbackDuty else 0) ∧
      (railOn = true → (lastReading s 3).health ≠ .good ∨ (lastReading s 3).temp = none → zoneDemand s railOn i = 0))

/-! Supervision -/

/-- R75, R77 to R80, R84, R91, R92, R94, R103, R136: the ladder of a restart decision, the timer that its stage starts,
its RESTART entry, the flush and the scanned set. The token in the entry of a departure from POWERING is the model's choice (log entry 24). -/
def Obligations.ARestartDecisionClimbsTheLadder : Prop :=
  ∀ (cause : Cause) (detail : Nat) (s : State),
    (s.mbs.state = .powering ∨ s.mbs.state = .boot ∨ s.mbs.state = .run ∨ s.mbs.state = .warn →
      RestartedBy s (restartDecision cause detail s) cause detail ∧
      ((restartDecision cause detail s).mbs.state = .lockout →
        Counted s (restartDecision cause detail s) 15 cause.code)) ∧
    (s.mbs.state ≠ .powering → s.mbs.state ≠ .boot → s.mbs.state ≠ .run → s.mbs.state ≠ .warn →
      restartDecision cause detail s = s)

/-- R66, R74: a high sample of MAIN_PG begins the reset pulse in POWERING, and elsewhere changes nothing but the level
that the model remembers (log entry 9); a low sample, where a F4 that restarts of itself is left to R75's statement. -/
def Obligations.MainPgSamplesAreJudgedByState : Prop :=
  (∀ s : State, s.powered = true →
    ∃ t, exec .mainPgHigh s = .next t ∧
      (s.mbs.state = .powering → s.mbs.pgRunning = true → t = { s with
        mbs := { s.mbs with
          mainPg := true, pgRunning := false, resetTimer := some s.tbs.tables.policy.resetPulse }
        pog := { s.pog with applied := t.pog.applied } }) ∧
      (s.mbs.state ≠ .powering ∨ s.mbs.pgRunning = false → t = { s with
        mbs := { s.mbs with mainPg := true }, pog := { s.pog with applied := t.pog.applied } })) ∧
  ∀ s : State, s.powered = true → (reactionInForce s.tbs.tables 4).restart = false →
    ∃ t, exec .powerGoodLoss s = .next t ∧ t.tick = s.tick ∧
      (s.mbs.state = .boot → RestartedBy s t .pgLost 0 ∧ Counted s t 4 0) ∧
      (s.mbs.state = .run → RestartedBy s t .pgLost 1 ∧ Counted s t 4 1) ∧
      (s.mbs.state = .warn → RestartedBy s t .pgLost 2 ∧ Counted s t 4 2) ∧
      (s.mbs.state = .powering → s.mbs.resetTimer.isSome = true → t = { s with
        mbs := { s.mbs with mainPg := false, resetTimer := none, pgRunning := true }
        pog := { s.pog with applied := t.pog.applied } }) ∧
      (s.mbs.state ≠ .boot → s.mbs.state ≠ .run → s.mbs.state ≠ .warn →
        s.mbs.state ≠ .powering ∨ s.mbs.resetTimer = none → t = { s with
        mbs := { s.mbs with mainPg := false }, pog := { s.pog with applied := t.pog.applied } })

/-- R71, with warn enable on: the first expiry in RUN warns, said while the transmitter is busy and the queue has room.
R66, R68, R71, R72: the four watchdog expiries that end in a restart decision, each reported first. The ticks that the
timer still has pass before it, with nothing else falling due (log entry 1). The token in the entry of PG_TIMEOUT is the
model's choice (log entry 24). -/
def Obligations.WatchdogExpiriesWarnOrRestart : Prop :=
  (∀ (n : Nat) (s : State), s.powered = true → s.mbs.state = .run → s.mbs.heartbeatTimer = some n →
    s.tbs.tables.policy.warnEnable = true → s.slp.tx ≠ .idle →
    reportedCount s.keq + s.keq.queue.length < 32 → onlyDue .heartbeatExpiry n s = true →
    ∃ t, exec .heartbeatExpiry s = .next t ∧ t.tick = s.tick + n ∧
      t = { elapse n s with
        mbs := { (elapse n s).mbs with
          state := .warn, heartbeatTimer := some (s.tbs.tables.policy.heartbeatLimit * 10) }
        keq := { (elapse n s).keq with queue := s.keq.queue ++
          [⟨.warn, 0, .normal, s.tbs.tables.policy.heartbeatLimit, false, (s.tick + n) % 65536⟩] }
        pog := { s.pog with applied := t.pog.applied } }) ∧
  ∀ (n : Nat) (s : State), s.powered = true →
    (s.mbs.state = .powering → s.mbs.pgRunning = true → (reactionInForce s.tbs.tables 3).restart = false →
      onlyDue .pgTimeout s.mbs.pgLeft s = true →
      ∃ t, exec .pgTimeout s = .next t ∧ t.tick = s.tick + s.mbs.pgLeft ∧
        RestartedBy (elapse s.mbs.pgLeft s) t .pgTimeout 0 ∧ Counted s t 3 0) ∧
    (s.mbs.state = .boot → s.mbs.bootTimer = some n → (reactionInForce s.tbs.tables 2).restart = false →
      onlyDue .bootTimeout n s = true →
      ∃ t, exec .bootTimeout s = .next t ∧ t.tick = s.tick + n ∧ RestartedBy (elapse n s) t .bootTimeout 0 ∧
        Counted s t 2 0) ∧
    (s.mbs.state = .run → s.mbs.heartbeatTimer = some n → s.tbs.tables.policy.warnEnable = false →
      (reactionInForce s.tbs.tables 1).restart = false → onlyDue .heartbeatExpiry n s = true →
      ∃ t, exec .heartbeatExpiry s = .next t ∧ t.tick = s.tick + n ∧ RestartedBy (elapse n s) t .heartbeatMiss 0 ∧
        Counted s t 1 0) ∧
    (s.mbs.state = .warn → s.mbs.heartbeatTimer = some n → (reactionInForce s.tbs.tables 1).restart = false →
      onlyDue .heartbeatExpiry n s = true →
      ∃ t, exec .heartbeatExpiry s = .next t ∧ t.tick = s.tick + n ∧ RestartedBy (elapse n s) t .heartbeatMiss 1 ∧
        Counted s t 1 1)

/-- R67, R79: the end of a reset pulse enters BOOT, once the ticks that remain have passed with nothing else falling due
(log entry 1). -/
def Obligations.TheResetPulseExpiryEntersBoot : Prop :=
  ∀ (n : Nat) (s : State), s.powered = true → s.mbs.resetTimer = some n →
    onlyDue .resetPulseExpiry n s = true →
    ∃ t, exec .resetPulseExpiry s = .next t ∧ t.tick = s.tick + n ∧ t.mbs.state = .boot ∧ t.mbs.rstN = true ∧
      t.mbs.token = none ∧ t.mbs.bootTimer = some (s.tbs.tables.policy.bootWindow * 100) ∧ t.mbs.resetTimer = none ∧
      t.mbs.pwrEn = s.mbs.pwrEn ∧ t.mbs.count = s.mbs.count ∧ t.mbs.bootCause = s.mbs.bootCause ∧
      t.mbs.shutdown = s.mbs.shutdown.map (· - n) ∧ (∀ i : Fin 7, t.tbs.locks[i] = true) ∧
      t.mbs = { (elapse n s).mbs.leave with
        state := .boot, rstN := true, token := none
        bootTimer := some (s.tbs.tables.policy.bootWindow * 100) } ∧
      t = { elapse n s with
        mbs := t.mbs, tbs := { s.tbs with locks := t.tbs.locks }, pog := t.pog, slp := { s.slp with tx := t.slp.tx }
        keq := { (elapse n s).keq with queue := t.keq.queue } } ∧
      (∀ i : Fin 6, t.pog.requested[i] =
        if (s.tbs.tables.gate[i]).valid then (s.tbs.tables.gate[i]).restartDefault else 0) ∧
      (s.keq.queue = [] → reportedCount s.keq = 0 →
        t.keq.queue = [⟨.restart, 0, s.mbs.bootCause, s.mbs.count, false, (s.tick + n) % 65536⟩])

/-- R69, R68, R70, R72, R174: a HEARTBEAT that meets a free reply buffer; the key mapper keeps everything. -/
def Obligations.AHeartbeatIsAcceptedOrStale : Prop :=
  ∀ (tag token : Byte) (s : State), s.powered = true → s.slp.reply = none →
    let left := ((if s.mbs.state = .boot then s.mbs.bootTimer else s.mbs.heartbeatTimer).getD 0 + 9) / 10
    ∃ t, exec (.heartbeat tag [token]) s = .next t ∧
      t = { s with
        mbs := t.mbs, hfd := { s.hfd with filter := t.hfd.filter }, slp := t.slp
        pog := { s.pog with applied := t.pog.applied } } ∧
      (s.mbs.state = .boot → s.mbs.token ≠ some token →
        t.slp = s.slp.answered (replyFrame 0x82 tag 0 (be16 left)) ∧
        t.hfd.filter = some ⟨0, decide (1000 ≤ s.hfd.fanDuty)⟩ ∧ t.mbs = { s.mbs.leave with
          state := .run, token := some token, heartbeatTimer := some (s.tbs.tables.policy.heartbeatLimit * 10)
          runTicks := some 0, stable := some s.tbs.tables.policy.stableTime }) ∧
      (s.mbs.state = .run ∨ s.mbs.state = .warn → s.mbs.token ≠ some token →
        t.slp = s.slp.answered (replyFrame 0x82 tag 0 (be16 left)) ∧ t.hfd = s.hfd ∧
        t.mbs = { s.mbs with
          state := .run, token := some token, heartbeatTimer := some (s.tbs.tables.policy.heartbeatLimit * 10) }) ∧
      (s.mbs.state = .boot ∨ s.mbs.state = .run ∨ s.mbs.state = .warn → s.mbs.token = some token →
        OnlyAnswered s t (replyFrame 0x82 tag 2 (be16 left))) ∧
      (s.mbs.state ≠ .boot → s.mbs.state ≠ .run → s.mbs.state ≠ .warn →
        OnlyAnswered s t (replyFrame 0x82 tag 0x15 []))

/-- R80, R84, R56, R64, R93, R103: the timers that lead from CYCLING and LOCKOUT to HEAT_HOLD, where release is judged
at once, with the demands and the scanned set of a switch-on. The ticks that remain pass first, with nothing else
falling due (log entry 1). That the notice of the switch-on takes up changed tables (log entry 30), and that the
release condition judged after a lockout is the one last handed, formed before the degraded timers are set to 0 (log entry
38), are the model's choices. -/
def Obligations.RailOffTimersReturnToHeating : Prop :=
  ∀ (n : Nat) (s : State), s.powered = true →
    let released := s.znc.release = true ∧ s.fcl.hold = false
    let kept := fun t : State => t.tbs = s.tbs ∧ t.tmu = s.tmu ∧ t.fcl = s.fcl ∧ t.slp = s.slp ∧ t.keq.queue = s.keq.queue ∧
      t.pog.requested = s.pog.requested ∧ t.tsu.refs = s.tsu.refs ∧ t.znc.override = false ∧
      (released → Rescanned (elapse n s) t .active ∧ ∀ i : Fin 3, (t.hfd.channels[i]).demand = zoneDemand t true i) ∧
      (¬released → t.tsu = (elapse n s).tsu)
    (s.mbs.state = .cycling → s.mbs.cycleTimer = some n → onlyDue .cycleTimerExpiry n s = true →
      ∃ t, exec .cycleTimerExpiry s = .next t ∧ t.tick = s.tick + n ∧ kept t ∧ t.mbs.cycleTimer = none ∧
        t.mbs.count = s.mbs.count ∧ t.rhs.entries = s.rhs.entries ∧
        (released → t.mbs.state = .powering ∧ t.mbs.pwrEn = true ∧ t.tsu.mode = .active ∧ t.mbs.pgRunning = true ∧
          t.mbs.pgLeft = s.tbs.tables.policy.pgTimeout) ∧
        (¬released → t.mbs.state = .heatHold ∧ t.mbs.pwrEn = false)) ∧
    (s.mbs.state = .lockout → s.mbs.lockoutTimer = some n → onlyDue .lockoutRetryExpiry n s = true →
      ∃ t, exec .lockoutRetryExpiry s = .next t ∧ t.tick = s.tick + n ∧ kept t ∧ t.mbs.lockoutTimer = none ∧
        t.mbs.count = 0 ∧ t.mbs.bootCause = .retry ∧
        t.rhs.entries = (⟨s.rhs.nextOrdinal, (s.tick + n) % 65536,
          .wake ⟨.retry, 0, .none, .lockout, 0, snapshot s⟩⟩ :: s.rhs.entries).take 16 ∧
        (released → t.mbs.state = .powering ∧ t.mbs.pwrEn = true) ∧
        (¬released → t.mbs.state = .heatHold ∧ t.mbs.pwrEn = false ∧
          ∀ i : Fin 3, (t.znc.zones[i]).degraded = 0))

/-- R81, R82, R76, R78, R91, R136: POWER REQUEST that meets a free reply buffer. -/
def Obligations.APowerRequestRestartsOrArms : Prop :=
  ∀ (tag action delay : Byte) (s : State), s.powered = true → s.slp.reply = none →
    let permitted := s.mbs.state = .boot ∨ s.mbs.state = .run ∨ s.mbs.state = .warn
    let taken := { s with slp := s.slp.answered (replyFrame 0xA0 tag 0 []) }
    ∃ t, exec (.powerRequest tag [action, delay]) s = .next t ∧ t.tick = s.tick ∧ t.tbs = s.tbs ∧ t.tmu = s.tmu ∧
      t.znc = s.znc ∧ t.fcl = s.fcl ∧ t.pog.requested = s.pog.requested ∧ t.tsu.refs = s.tsu.refs ∧
      (2 < action.toNat ∨ (action = 2 ∧ delay = 0) → OnlyAnswered s t (replyFrame 0xA0 tag 0x13 [])) ∧
      (action.toNat ≤ 2 → ¬(action = 2 ∧ delay = 0) → ¬permitted →
        OnlyAnswered s t (replyFrame 0xA0 tag 0x15 [])) ∧
      (permitted → action = 0 → t.slp.reply = some (replyFrame 0xA0 tag 0 []) ∧ t.mbs.state = .resetting ∧
        t.mbs.count = s.mbs.count ∧ t.mbs.pwrEn = s.mbs.pwrEn ∧ t.mbs.rstN = false ∧ t.mbs.bootCause = .hostRequest ∧
        t.mbs.resetTimer = some s.tbs.tables.policy.resetPulse ∧ t.keq.queue = [] ∧
        Departed taken t .hostRequest 0 .reset s.mbs.count) ∧
      (permitted → action = 1 → t.slp.reply = some (replyFrame 0xA0 tag 0 []) ∧ t.mbs.state = .cycling ∧
        t.mbs.count = s.mbs.count ∧ t.mbs.pwrEn = false ∧ t.mbs.bootCause = .hostRequest ∧
        t.mbs.cycleTimer = some (s.tbs.tables.policy.cycleOffTime * 100) ∧ t.keq.queue = [] ∧
        Departed taken t .hostRequest 0 .cycle s.mbs.count) ∧
      (permitted → action = 2 → delay ≠ 0 → t = { s with
        slp := s.slp.answered (replyFrame 0xA0 tag 0 [])
        mbs := { s.mbs with shutdown := some (delay.toNat * 100) }
        pog := { s.pog with applied := t.pog.applied } })

/-- R70: a run that reaches its stable time. R82, R78, R91, R103, R136: the pending shutdown. The ticks that remain pass
first, with nothing else falling due (log entry 1). -/
def Obligations.StableTimeAndPendingShutdownEnd : Prop :=
  (∀ (seconds ticks : Nat) (s : State), s.powered = true → s.mbs.stable = some seconds → s.mbs.runTicks = some ticks →
    onlyDue .stableTimeReached (seconds * 100 - ticks) s = true →
    let u := elapse (seconds * 100 - ticks) s
    ∃ t, exec .stableTimeReached s = .next t ∧ t.tick = s.tick + (seconds * 100 - ticks) ∧ t = { u with
      mbs := { u.mbs with count := 0, stable := none }
      pog := { s.pog with applied := t.pog.applied } }) ∧
  ∀ (n : Nat) (s : State), s.powered = true → s.mbs.shutdown = some n →
    s.mbs.state = .boot ∨ s.mbs.state = .run ∨ s.mbs.state = .warn → onlyDue .pendingShutdownExpiry n s = true →
    ∃ t, exec .pendingShutdownExpiry s = .next t ∧ t.tick = s.tick + n ∧ t.mbs.state = .off ∧
      t.mbs.pwrEn = false ∧ t.mbs.rstN = false ∧ t.mbs.shutdown = none ∧ t.mbs.count = s.mbs.count ∧
      t.mbs.bootCause = s.mbs.bootCause ∧ t.keq.queue = [] ∧ t.tsu.mode = .standby ∧
      (∀ i : Fin 3, (t.hfd.channels[i]).applied = 0) ∧ t.hfd.fanDuty = 0 ∧ t.tbs = s.tbs ∧ t.tmu = s.tmu ∧
      t.znc = s.znc ∧ t.fcl = s.fcl ∧ t.slp = s.slp ∧ t.pog.requested = s.pog.requested ∧ t.tsu.refs = s.tsu.refs ∧
      Departed (elapse n s) t .hostRequest 0 .off s.mbs.count

/-! History and the requests that only read -/

/-- R97, R98: HISTORY MARK and HISTORY CLEAR that meet a free reply buffer. -/
def Obligations.HistoryMarkPushesAndClearEmpties : Prop :=
  ∀ (tag : Byte) (s : State), s.powered = true → s.slp.reply = none →
    (∀ bytes : List Byte, bytes.length = 8 → s.mbs.state = .run ∨ s.mbs.state = .warn →
      ∃ t, exec (.historyMark tag bytes) s = .next t ∧ t = { s with
        slp := s.slp.answered (replyFrame 0xB1 tag 0 (be16 s.rhs.nextOrdinal.toNat))
        rhs := ⟨(⟨s.rhs.nextOrdinal, s.tick % 65536, .mark bytes⟩ :: s.rhs.entries).take 16, s.rhs.nextOrdinal + 1, 0⟩
        pog := { s.pog with applied := t.pog.applied } }) ∧
    (∀ bytes : List Byte, bytes.length = 8 → s.mbs.state ≠ .run → s.mbs.state ≠ .warn →
      ∃ t, exec (.historyMark tag bytes) s = .next t ∧ OnlyAnswered s t (replyFrame 0xB1 tag 0x15 [])) ∧
    ∃ t, exec (.historyClear tag []) s = .next t ∧ t = { s with
      slp := s.slp.answered (replyFrame 0xB2 tag 0 [byteOf s.rhs.entries.length])
      rhs := { s.rhs with entries := [] }
      pog := { s.pog with applied := t.pog.applied } }

/-- R95, R119, R163, R177, R178, R182: the requests that read change the link alone, and answer with the items of the
block they read. R195, R198, R199: what stands at each offset of those items, the codes of every enumerated field among
them; of a mask and of a flag byte, the defined bits, the other ones being the model's choice (log entry 35). -/
def Obligations.ReadRequestsChangeOnlyTheLink : Prop :=
  (∀ s : State,
    let at0 := itemField (statusItems s 0)
    let at1 := itemField (statusItems s 1)
    let at2 := itemField (statusItems s 2)
    let at3 := itemField (statusItems s 3)
    let at4 := itemField (statusItems s 4)
    let at5 := itemField (statusItems s 5)
    (List.range 6).map (fun n => (statusItems s n).length) = [5, 17, 23, 12, 24, 4] ∧
    (at0 0 1 = s.mbs.state.code ∧ at0 1 1 = s.mbs.count % 256 ∧ at0 2 1 = (s.mbs.shutdown.getD 0 + 99) / 100 % 256 ∧
      at0 3 2 = min 65535 ((decidingTimer s.mbs + 9) / 10)) ∧
    (∀ i : Fin 4, let c := s.tmu.channels[i]
      at1 (4 * i.val) 2 = signedField 16 (c.held.getD (-32768)) ∧
      at1 (4 * i.val + 2) 1 = (if s.tmu.short then 2 else c.health.code) ∧
      at1 (4 * i.val + 3) 1 = c.outOfTable.toNat) ∧
    at1 16 1 = s.tmu.drift.val ∧
    (∀ i : Fin 3, let c := s.hfd.channels[i]
      at2 (6 * i.val) 2 = c.applied % 65536 ∧ at2 (6 * i.val + 2) 2 = c.demand % 65536 ∧
      at2 (6 * i.val + 4) 1 = c.state.code ∧ at2 (6 * i.val + 5) 1 = c.openLoad.toNat) ∧
    at2 18 2 = s.hfd.fanDuty % 65536 ∧ at2 20 2 = s.hfd.speed % 65536 ∧ at2 22 1 = s.hfd.fanState.code ∧
    at3 0 1 = s.tsu.mode.code ∧ at3 1 1 = s.tsu.guarded.toNat ∧ at3 2 1 = s.keq.queue.length % 256 ∧
    (∀ c : Fin 20, (at3 3 3).testBit c.val = (s.keq.keys[c]).reported.isSome ∧
      (at3 6 3).testBit c.val = (s.keq.keys[c]).unreported ∧ (at3 9 3).testBit c.val = (s.keq.keys[c]).suppressed) ∧
    (∀ i : Fin 6,
      at4 (4 * i.val) 2 = (if (s.tbs.tables.gate[i]).valid then s.pog.requested[i] % 65536 else 0) ∧
      (PinsOk s → at4 (4 * i.val + 2) 2 = s.pog.applied[i] % 65536)) ∧
    at5 0 1 = s.tbs.store.code ∧ at5 1 1 = s.tbs.result.code ∧
    ∀ i : Fin 7, (at5 2 1).testBit i.val = s.tbs.locks[i] ∧ (at5 3 1).testBit i.val = s.tbs.changed[i]) ∧
  (∀ (s : State) (k : Fin 16) (c : Fin 20) (i : Fin 2),
    let r := s.fcl.records[k]
    let e := reactionInForce s.tbs.tables k
    let at? := itemField (recordItems s k)
    let touch := fun (bs : List Byte) (raw corrected baseline : Nat) (delta : Int) (state : KeyState)
        (faulted disabled : Bool) (on off : Nat) => bs.length = 16 ∧
      itemField bs 0 2 = raw % 65536 ∧ itemField bs 2 2 = corrected % 65536 ∧ itemField bs 4 3 = baseline % 16777216 ∧
      itemField bs 7 3 = signedField 24 delta ∧ itemField bs 10 1 = state.code ∧
      (itemField bs 11 1).testBit 0 = faulted ∧ (itemField bs 11 1).testBit 1 = disabled ∧
      itemField bs 12 2 = on % 65536 ∧ itemField bs 14 2 = off % 65536
    let t := s.tsu.keys[c]
    let f := s.tsu.refs[i]
    let m := s.tbs.tables.keymap[c]
    let on := if s.tsu.guarded then 2 * m.sensitivity else m.sensitivity
    ((recordItems s k).length = 11 ∧ at? 0 1 = r.state.code ∧ at? 1 1 = r.cls.code ∧ at? 2 1 = r.occurrences % 256 ∧
      at? 3 1 = r.firstDetail % 256 ∧ at? 4 2 = r.firstStamp % 65536 ∧ at? 6 2 = r.lastStamp % 65536 ∧
      at? 8 1 = (faultCondition s k).toNat ∧ at? 9 1 = (s.tbs.tables.reactions[k]).valid.toNat ∧
      (at? 10 1).testBit 0 = e.report ∧ (at? 10 1).testBit 1 = e.indicate ∧ (at? 10 1).testBit 2 = e.hold ∧
      (at? 10 1).testBit 3 = e.restart) ∧
    touch (keyItems s c) t.raw t.corrected t.baseline t.delta t.state t.faulted (!m.valid)
      (if m.valid then on else 0) (if m.valid then on * 3 / 4 else 0) ∧
    touch (refItems s i) f.raw f.raw f.baseline f.delta .idle f.faulted false 0 0) ∧
  (∀ (e : HistoryEntry) (load : LoadResult) (r : RestartInfo) (w : WakeInfo) (bytes : List Byte),
    let carries := fun (selector : Nat) (p : List Byte → Prop) => ∃ g, e.group selector = some g ∧ p g
    let dated := fun g : List Byte => itemField g 0 2 = e.stamp % 65536
    let caused := fun (g : List Byte) (cause : Cause) (detail : Nat) (stage : Stage) (m : MbsState) (count : Nat) =>
      g.length = 7 ∧ dated g ∧ itemField g 2 1 = cause.code ∧ itemField g 3 1 = detail % 256 ∧
      itemField g 4 1 = stage.code ∧ itemField g 5 1 = m.code ∧ itemField g 6 1 = count % 256
    let temps := fun (v : Vector Int 4) (g : List Byte) =>
      g.length = 8 ∧ ∀ i : Fin 4, itemField g (2 * i.val) 2 = signedField 16 v[i]
    (e.body = .powerOn load → e.body.code = 0 ∧ carries 0 (fun g => g.length = 3 ∧ dated g ∧ itemField g 2 1 = load.code) ∧
      ∀ n, n ≠ 0 → e.group n = none) ∧
    (e.body = .restart r → e.body.code = 1 ∧ carries 0 (fun g => caused g r.cause r.detail r.stage r.fromState r.count) ∧
      carries 1 (temps r.temps) ∧ carries 2 (fun g => g.length = 6 ∧ itemField g 0 2 = r.seconds % 65536 ∧
        itemField g 2 2 = r.runTime % 65536 ∧ itemField g 4 1 = r.token.toNat ∧ itemField g 5 1 = r.noToken.toNat) ∧
      ∀ n, 2 < n → e.group n = none) ∧
    (e.body = .wake w → e.body.code = 2 ∧ carries 0 (fun g => caused g w.cause w.detail w.stage w.fromState w.count) ∧
      carries 1 (temps w.temps) ∧ ∀ n, 1 < n → e.group n = none) ∧
    (e.body = .mark bytes → e.body.code = 3 ∧ carries 0 (fun g => g.length = 2 ∧ dated g) ∧ carries 3 (fun g => g = bytes) ∧
      ∀ n, n ≠ 0 → n ≠ 3 → e.group n = none)) ∧
  ([MbsState.off, .heatHold, .powering, .boot, .run, .warn, .resetting, .cycling, .lockout].map MbsState.code =
      List.range 9 ∧
    [Cause.normal, .stuck, .fault, .unmapped, .remap, .heartbeatMiss, .bootTimeout, .pgTimeout, .pgLost, .hostRequest,
      .chord, .key, .retry].map Cause.code = List.range 13 ∧
    [Stage.none, .reset, .cycle, .lockout, .off].map Stage.code = List.range 5 ∧
    [LoadResult.retained, .defaults].map LoadResult.code = List.range 2 ∧
    [Health.good, .suspect, .failed].map Health.code = List.range 3 ∧
    [HeaterState.idle, .driving, .chopped, .latchedOff].map HeaterState.code = List.range 4 ∧
    [FanState.stopped, .running, .stalled].map FanState.code = List.range 3 ∧
    [KeyState.idle, .arming, .touched, .releasing].map KeyState.code = List.range 4 ∧
    [ScanMode.standby, .active].map ScanMode.code = List.range 2 ∧
    [RecordState.clear, .active, .latched].map RecordState.code = List.range 3 ∧
    [FaultClass.hw, .sw].map FaultClass.code = List.range 2 ∧
    [Store.idle, .writing defaultTables].map Store.code = List.range 2 ∧
    [SaveResult.none, .ok, .failed].map SaveResult.code = List.range 3) ∧
  ∀ (tag a b d : Byte) (s : State), s.powered = true → s.slp.reply = none →
    (∃ t, exec (.ident tag []) s = .next t ∧ OnlyAnswered s t (replyFrame 0x81 tag 0
      [0x43, 0x03, 0x20, 2, 20, 8, 4, 6, 16, 1, 16, if s.slp.rate then 1 else 0])) ∧
    (∃ t, exec (.statusRead tag [a]) s = .next t ∧
      (a.toNat ≤ 5 → OnlyAnswered s t (replyFrame 0x83 tag 0 (statusItems s a.toNat))) ∧
      (5 < a.toNat → OnlyAnswered s t (replyFrame 0x83 tag 0x13 []))) ∧
    (∃ t, exec (.tableRead tag [a, b, d]) s = .next t ∧
      (6 < a.toNat → OnlyAnswered s t (replyFrame 0x90 tag 0x12 [])) ∧
      (a.toNat ≤ 6 → b.toNat < tableSize a.toNat → 1 ≤ d.toNat → b.toNat + d.toNat ≤ tableSize a.toNat →
        d.toNat * entrySize a.toNat ≤ 62 →
        OnlyAnswered s t (replyFrame 0x90 tag 0 (readEntries s.tbs.tables a.toNat b.toNat d.toNat))) ∧
      (a.toNat ≤ 6 → d = 0 ∨ tableSize a.toNat < b.toNat + d.toNat ∨ 62 < d.toNat * entrySize a.toNat →
        OnlyAnswered s t (replyFrame 0x90 tag 0x13 []))) ∧
    (∃ t, exec (.historyRead tag [a, b]) s = .next t ∧
      (15 < a.toNat ∨ 3 < b.toNat → OnlyAnswered s t (replyFrame 0xB0 tag 0x13 [])) ∧
      (a.toNat ≤ 15 → b.toNat ≤ 3 → s.rhs.entries.length ≤ a.toNat →
        OnlyAnswered s t (replyFrame 0xB0 tag 0x16 [])) ∧
      (∀ e, a.toNat ≤ 15 → b.toNat ≤ 3 → s.rhs.entries[a.toNat]? = some e →
        (∀ group, e.group b.toNat = some group → OnlyAnswered s t (replyFrame 0xB0 tag 0
          ([byteOf e.body.code] ++ be16 e.ordinal.toNat ++ [byteOf s.rhs.entries.length] ++ group))) ∧
        (e.group b.toNat = none → OnlyAnswered s t (replyFrame 0xB0 tag 0x13 [byteOf e.body.code])))) ∧
    (∃ t, exec (.faultRead tag [a]) s = .next t ∧
      (∀ k : Fin 16, a.toNat = k.val → OnlyAnswered s t (replyFrame 0xD0 tag 0 (recordItems s k))) ∧
      (15 < a.toNat → OnlyAnswered s t (replyFrame 0xD0 tag 0x13 []))) ∧
    (∃ t, exec (.touchRead tag [a]) s = .next t ∧
      (∀ c : Fin 20, a.toNat = c.val → OnlyAnswered s t (replyFrame 0xE0 tag 0 (keyItems s c))) ∧
      (∀ i : Fin 2, a.toNat = i.val + 20 → OnlyAnswered s t (replyFrame 0xE0 tag 0 (refItems s i))) ∧
      (21 < a.toNat → OnlyAnswered s t (replyFrame 0xE0 tag 0x13 [])))

/-- R173: a payload of the wrong length is answered BAD_LENGTH and changes the link alone. -/
def Obligations.WrongLengthsAreAnsweredBadLength : Prop :=
  ∀ (tag : Byte) (p : List Byte) (s : State), s.powered = true → s.slp.reply = none →
    let bad := fun (c : Instr) (kind : Byte) =>
      ∃ t, exec c s = .next t ∧ OnlyAnswered s t (replyFrame kind tag 0x11 [])
    (p.length ≠ 0 → bad (.ident tag p) 0x81 ∧ bad (.storeSave tag p) 0x94 ∧ bad (.historyClear tag p) 0xB2) ∧
    (p.length ≠ 1 → bad (.heartbeat tag p) 0x82 ∧ bad (.statusRead tag p) 0x83 ∧ bad (.faultRead tag p) 0xD0 ∧
      bad (.faultClear tag p) 0xD1 ∧ bad (.touchRead tag p) 0xE0) ∧
    (p.length ≠ 2 → bad (.tableLock tag p) 0x93 ∧ bad (.powerRequest tag p) 0xA0 ∧ bad (.historyRead tag p) 0xB0) ∧
    (p.length ≠ 3 → bad (.tableRead tag p) 0x90 ∧ bad (.tableInvalidate tag p) 0x92 ∧ bad (.panelSet tag p) 0xC0) ∧
    (p.length ≠ 8 → bad (.historyMark tag p) 0xB1) ∧ (p.length < 3 → bad (.tableWrite tag p) 0x91) ∧
    ∀ (table first count : Byte) (entries : List Byte), p = table :: first :: count :: entries → table.toNat ≤ 6 →
      entries.length ≠ count.toNat * entrySize table.toNat → bad (.tableWrite tag p) 0x91

/-! Touch -/

/-- R113 to R116: one key channel in the whole of step 5, with corrected count `c`. The baseline is updated where the
channel is IDLE after its state step, so by a release and a failed arming too. -/
def Obligations.AKeyIsConfirmedReleasedOrStuck : Prop :=
  ∀ (on off factor c : Nat) (k : TouchKey),
    let delta : Int := (c : Int) - (k.baseline / 16 : Nat)
    let r := k.sense on off factor c
    let updated := (delta ≤ -(off : Int) → r.1.baseline = c * 16) ∧
      (-(off : Int) < delta → factor ≤ 256 →
        (r.1.baseline : Int) = k.baseline + (((c : Int) * 16 - k.baseline) * factor).tdiv 256)
    r.1.corrected = c ∧ r.1.delta = delta ∧
    (k.state = .idle → (on : Int) ≤ delta →
      r.1.state = .arming ∧ r.1.arming = 1 ∧ r.2 = .none ∧ r.1.baseline = k.baseline) ∧
    (k.state = .arming → k.arming + 1 < 3 → (on : Int) ≤ delta →
      r.1.state = .arming ∧ r.1.arming = k.arming + 1 ∧ r.2 = .none ∧ r.1.baseline = k.baseline) ∧
    (k.state = .arming → k.arming = 2 → (on : Int) ≤ delta →
      r.1.state = .touched ∧ r.1.arming = 0 ∧ r.1.stuck = some 0 ∧ r.2 = .touch ∧ r.1.baseline = k.baseline) ∧
    (k.state = .arming → delta < on → r.1.state = .idle ∧ r.1.arming = 0 ∧ r.2 = .none ∧ updated) ∧
    (k.state = .releasing → delta < off → r.1.state = .idle ∧ r.1.stuck = none ∧ r.2 = .release .normal ∧ updated) ∧
    (∀ n, k.state = .touched → delta < off → k.stuck = some n → n < 6000 →
      r.1.state = .releasing ∧ r.1.stuck = some n ∧ r.2 = .none ∧ r.1.baseline = k.baseline) ∧
    (∀ n, k.state = .touched ∨ k.state = .releasing → (off : Int) ≤ delta → k.stuck = some n → n < 6000 →
      r.1.state = .touched ∧ r.1.stuck = some n ∧ r.2 = .none ∧ r.1.baseline = k.baseline) ∧
    (∀ n, k.state = .touched → k.stuck = some n → 6000 ≤ n →
      r.1.state = .idle ∧ r.1.stuck = none ∧ r.2 = .release .stuck ∧ r.1.baseline = c * 16) ∧
    (k.state = .idle → delta < on → r.1.state = .idle ∧ r.2 = .none ∧ updated)

/-- R101: a scan is made at a scan instant alone. That a second SCAN at a scan instant whose scan has been made changes
nothing is the model's choice (DESIGN CHOICE, log entry 12). R100, R104, R105, R109, R111, R117: one at which every
measured key channel is in range and re-seeds, and the references agree, moves the touch unit's values, the key mapper's
marks of R133 and nothing else. -/
def Obligations.AReseedingScanStartsFreshBaselines : Prop :=
  (∀ (raw : Vector (BitVec 16) 22) (s : State), s.powered = true →
    (atScanInstant s = true ↔
      s.tsu.lastScan ≠ some s.tick ∧ (s.tsu.mode = .active ∨ (0 < s.tick ∧ s.tick % 8 = 0))) ∧
    (atScanInstant s = false →
      ∃ t, exec (.scan raw) s = .next t ∧ t = { s with pog := { s.pog with applied := t.pog.applied } })) ∧
  ∀ (raw : Vector (BitVec 16) 22) (s : State), s.powered = true → atScanInstant s = true →
    (s.fcl.records[11]).state ≠ .active → (s.fcl.records[13]).state ≠ .active →
    s.tsu.disagreement = false → s.tsu.disagree < 9 →
    (∀ i : Fin 2, touchInRange (refRaw raw i) = true ∧ (s.tsu.refs[i]).faulted = false ∧ (s.tsu.refs[i]).seed = false) →
    (∀ c : Fin 20, (s.tsu.keys[c]).scanned = true → touchInRange (keyRaw raw c) = true ∧
      (s.tsu.keys[c]).faulted = false ∧ (s.tsu.keys[c]).seed = true) →
    ∃ t, exec (.scan raw) s = .next t ∧
      t = { s with tsu := t.tsu, keq := t.keq, pog := { s.pog with applied := t.pog.applied } } ∧
      t.keq.queue = s.keq.queue ∧ t.tsu.mode = s.tsu.mode ∧ t.tsu.disagreement = false ∧
      t.tsu.lastScan = some s.tick ∧
      (∀ c : Fin 20, (s.tsu.keys[c]).scanned = false → t.tsu.keys[c] = s.tsu.keys[c]) ∧
      (∀ c : Fin 20, (s.tsu.keys[c]).scanned = true →
        (t.tsu.keys[c]).raw = keyRaw raw c ∧ (t.tsu.keys[c]).delta = 0 ∧ (t.tsu.keys[c]).seed = false ∧
        (t.tsu.keys[c]).state = (s.tsu.keys[c]).state ∧
        (t.tsu.keys[c]).baseline = (t.tsu.keys[c]).corrected * 16 ∧
        (t.tsu.keys[c]).corrected = correctedCount (keyRaw raw c)
          (((refRaw raw 0 : Int) - ((s.tsu.refs[0]).baseline / 16 : Nat) +
            ((refRaw raw 1 : Int) - ((s.tsu.refs[1]).baseline / 16 : Nat))).tdiv 2)
          (s.tbs.tables.keymap[c]).weight) ∧
      ∀ i : Fin 2, (t.tsu.refs[i]).delta = (refRaw raw i : Int) - ((s.tsu.refs[i]).baseline / 16 : Nat) ∧
        (t.tsu.refs[i]).baseline = stepBaseline (s.tsu.refs[i]).baseline (refRaw raw i) (driftFactor (scanDrift s))

/-- R106, R107: four measurements out of range make a channel FAULTED, sixteen in range end it. R110: the disagreement
of the references is counted. R109: the value d_ref. R112: guard and the effective thresholds, also as a scan leaves
them; the condition as that scan's own step 3 leaves it is the model's reading for d_ref (log entry 8). R108: the F11
occurrences of a scan, in a state that meets the scanned set's invariant; that one channel's entry into FAULTED at a scan
at which another recovers is a further occurrence, and their order, are the model's choices (log entries 29 and 23). -/
def Obligations.ChannelFaultsDisagreementAndGuard : Prop :=
  (∀ (r outs ins : Nat),
    (touchInRange r = true ↔ 64 ≤ r ∧ r ≠ 65535) ∧
    (touchInRange r = false → outs < 3 → judgeFault r false outs ins = (false, outs + 1, ins)) ∧
    (touchInRange r = false → outs = 3 → judgeFault r false outs ins = (true, 4, 0)) ∧
    (touchInRange r = true → judgeFault r false outs ins = (false, 0, ins)) ∧
    (touchInRange r = true → ins < 15 → judgeFault r true outs ins = (true, outs, ins + 1)) ∧
    (touchInRange r = true → ins = 15 → judgeFault r true outs ins = (false, 0, 16)) ∧
    (touchInRange r = false → judgeFault r true outs ins = (true, outs, 0))) ∧
  (∀ t : Tsu,
    let u := t.compareRefs
    let both := (t.refs[0]).usable = true ∧ (t.refs[1]).usable = true
    let apart := 200 < ((u.refs[0]).delta - (u.refs[1]).delta).natAbs
    (∀ i : Fin 2, (t.refs[i]).usable = true →
      (u.refs[i]).delta = ((t.refs[i]).raw : Int) - ((t.refs[i]).baseline / 16 : Nat)) ∧
    (both → apart → u.disagree = min 10 (t.disagree + 1) ∧ u.agree = 0 ∧
      u.disagreement = (t.disagreement || decide (9 ≤ t.disagree))) ∧
    (both → ¬apart → u.disagree = 0 ∧ u.agree = min 10 (t.agree + 1) ∧
      u.disagreement = (t.disagreement && decide (t.agree < 9))) ∧
    (¬both → u.disagree = t.disagree ∧ u.agree = t.agree ∧ u.disagreement = t.disagreement) ∧
    u.dRef = if both ∧ u.disagreement = false then ((u.refs[0]).delta + (u.refs[1]).delta).tdiv 2 else 0) ∧
  (∀ (s : State) (disagreement : Bool) (e : KeymapEntry),
    (guardNow s disagreement = true ↔
      (s.znc.z1Cold = true ∧ 0 < (s.hfd.channels[1]).applied) ∨ disagreement = true) ∧
    onThreshold false e = e.sensitivity ∧ onThreshold true e = 2 * e.sensitivity ∧
    offThreshold false e = e.sensitivity * 3 / 4 ∧ offThreshold true e = 2 * e.sensitivity * 3 / 4) ∧
  ∀ (raw : Vector (BitVec 16) 22) (s : State), s.powered = true → atScanInstant s = true →
    let u := (s.tsu.judged raw).compareRefs
    ∃ t, exec (.scan raw) s = .next t ∧ t.tsu.disagreement = u.disagreement ∧
      t.tsu.guarded = guardNow s u.disagreement ∧
      (s.tsu.disagreement = false → u.disagreement = true → Counted s t 13 0) ∧
      (ScannedSetOk s → CountedEach s t 11 fun c : Fin 22 =>
        if h : c.val < 20 then !(s.tsu.keys[c.val]).faulted && (u.keys[c.val]).faulted
        else !(s.tsu.refs[c.val - 20]).faulted && (u.refs[c.val - 20]).faulted)

/-- R115, R131, R101: the command lets the ticks pass until the first scan instant at which the key has been held for 60
s, with nothing else falling due (log entry 1), and makes that scan over the raw counts last measured (log entry 27), in
states whose last scan does not lie in the future. A scan that finds a key still held after its state step and its stuck
timer at 6000 or more releases it with cause STUCK, re-seeds it and reports F12, and so does the command. -/
def Obligations.AStuckKeyIsReleasedAndReseeded : Prop :=
  (∀ (c : Fin 20) (m : Nat) (s : State), s.powered = true → LastScanOk s →
    let k := s.tsu.keys[c]
    let e := s.tbs.tables.keymap[c]
    k.state = .touched ∨ k.state = .releasing → k.stuck = some m →
    let n := 6000 - m
    let wait := scanWait s.tsu.mode s.tsu.lastScan (s.tick + n)
    let u := elapse (n + wait) s
    let v := scanPrepared (heldCounts s.tsu) u
    let count := correctedCount k.raw v.dRef e.weight
    onlyDue (.stuckTimerExpiry c) (n + wait) s = true →
    atScanInstant u = true ∧ exec (.stuckTimerExpiry c) s = exec (.scan (heldCounts s.tsu)) u ∧
    (∀ d : Fin 20, (s.tsu.keys[d]).raw < 65536 → keyRaw (heldCounts s.tsu) d = (s.tsu.keys[d]).raw) ∧
    (∀ i : Fin 2, (s.tsu.refs[i]).raw < 65536 → refRaw (heldCounts s.tsu) i = (s.tsu.refs[i]).raw) ∧
    ∃ t, exec (.stuckTimerExpiry c) s = .next t ∧ t.tick = s.tick + n + wait ∧ t.tsu.lastScan = some t.tick ∧
      (k.scanned = true → k.faulted = false → k.seed = false → touchInRange k.raw = true → k.raw < 65536 →
        e.valid = true →
        k.state = .touched ∨ (offThreshold v.guarded e : Int) ≤ (count : Int) - (k.baseline / 16 : Nat) →
        (t.tsu.keys[c]).state = .idle ∧ (t.tsu.keys[c]).arming = 0 ∧ (t.tsu.keys[c]).stuck = none ∧
        (t.tsu.keys[c]).corrected = count ∧ (t.tsu.keys[c]).baseline = count * 16 ∧ ReleasedStuck c s t)) ∧
  ∀ (c : Fin 20) (raw : Vector (BitVec 16) 22) (n : Nat) (s : State), s.powered = true → atScanInstant s = true →
    let k := s.tsu.keys[c]
    let u := scanPrepared raw s
    let count := correctedCount (keyRaw raw c) u.dRef (s.tbs.tables.keymap[c]).weight
    let off := offThreshold u.guarded s.tbs.tables.keymap[c]
    k.scanned = true → k.faulted = false → k.seed = false → touchInRange (keyRaw raw c) = true →
    k.stuck = some n → 6000 ≤ n → (s.tbs.tables.keymap[c]).valid = true →
    k.state = .touched ∨ (k.state = .releasing ∧ (off : Int) ≤ (count : Int) - (k.baseline / 16 : Nat)) →
    ∃ t, exec (.scan raw) s = .next t ∧ t.tick = s.tick ∧ t.tsu.keys[c] = { k with
        raw := keyRaw raw c, outCount := 0, corrected := count, delta := (count : Int) - (k.baseline / 16 : Nat)
        state := .idle, arming := 0, stuck := none, baseline := count * 16, scanned := (t.tsu.keys[c]).scanned
        seed := (t.tsu.keys[c]).seed } ∧
      ReleasedStuck c s t

/-! Keys, chords and the queue -/

/-- R128, R129: what becomes of an offer; elsewhere than in BOOT, RUN and WARN it is discarded. R126, R175: where the
transmitter is idle, an admitted record waits in BOOT, and in RUN and WARN the oldest record, which on an empty queue is the
admitted one, leaves the queue and is sent, unless the reply buffer holds a reply. That the record leaves within the offer is
the model's reading of R175 (DEDUCED, log entry 10). -/
def Obligations.OffersAreJudgedByTheRoomLeft : Prop :=
  ∀ (e : Event) (s : State),
    let free := 32 - s.keq.queue.length
    let judged := s.mbs.state = .boot ∨ s.mbs.state = .run ∨ s.mbs.state = .warn
    let room :=
      (e.kind = .keyUp) ∨ (e.kind = .keyDown ∧ reportedCountWith s.keq e.value < free) ∨
      (e.kind = .keyRepeat ∧ reportedCount s.keq + 8 < free) ∨
      (e.kind ≠ .keyUp ∧ e.kind ≠ .keyDown ∧ e.kind ≠ .keyRepeat ∧ reportedCount s.keq < free)
    let joined := { s with keq := { s.keq with queue := s.keq.queue ++ [e] } }
    (judged → room → s.slp.tx ≠ .idle → offer e s = joined) ∧
    (s.mbs.state = .boot → room → s.slp.reply = none → offer e s = joined) ∧
    (∀ x rest, s.mbs.state = .run ∨ s.mbs.state = .warn → room → s.slp.tx = .idle → s.slp.reply = none →
      s.keq.queue ++ [e] = x :: rest → offer e s = { s with
        keq := { s.keq with queue := rest }, slp := { s.slp with tx := .event x.frame.bytes } }) ∧
    (∀ f, judged → room → s.slp.tx = .idle → s.slp.reply = some f →
      offer e s = { joined with slp := { s.slp with tx := .reply f.bytes } }) ∧
    (∀ q x, judged → ¬room → s.keq.queue = q ++ [x] →
      offer e s = { s with keq := { s.keq with queue := q ++ [{ x with lost := true }] } }) ∧
    (¬judged → offer e s = s)

/-- R130, R83: a touch transition by the first case that applies. R131: a release transition. R134: the chord states.
R105, R133: what a scan hands the key mapper, said outside OFF and where it switches no main board on and F11, F12 and
F13 restart nothing. -/
def Obligations.KeysAndChordsFollowTheirTransitions : Prop :=
  (∀ (c : Fin 20) (s : State),
    let e := s.tbs.tables.keymap[c]
    let t := touchTransition c s
    let u := updKey c (fun k => { k with down := true }) s
    let chords := tab fun i : Fin 8 =>
      chordNext (chordHeld u i) (conditionMatches s.mbs.pwrEn (s.tbs.tables.chords[i]).condition) s.keq.chords[i]
    let only := fun (k : MappedKey) (queue : List Event) =>
      t = { s with keq := { keys := s.keq.keys.set c k, chords := chords, queue := queue } }
    let k := { s.keq.keys[c] with down := true }
    let wakes := s.mbs.state = .off ∧ e.wake = true
    let room := reportedCountWith s.keq c.val < 32 - s.keq.queue.length
    (e.valid = false → t = s) ∧
    (e.valid = true → k.suppressed = true → only k s.keq.queue) ∧
    (e.valid = true → k.suppressed = false → wakes → (t.keq.keys[c]).down = true ∧ t.mbs.bootCause = .key ∧
      (t.mbs.state = .heatHold ∨ t.mbs.state = .powering) ∧ t.mbs.count = s.mbs.count ∧
      t.rhs.entries = (⟨s.rhs.nextOrdinal, s.tick % 65536,
        .wake ⟨.key, c.val, .none, .off, s.mbs.count, snapshot s⟩⟩ :: s.rhs.entries).take 16) ∧
    (e.valid = true → k.suppressed = false → ¬wakes → e.isLocal = true ∨ s.mbs.state.admits = false →
      only k s.keq.queue) ∧
    (e.valid = true → k.suppressed = false → e.isLocal = false → s.mbs.state.admits = true → s.slp.tx ≠ .idle →
      (room → only { k with reported := some e.code, repeatTimer := 0, nextRepeat := 50, repeatCount := 0 }
        (s.keq.queue ++ [⟨.keyDown, e.code, .normal, c.val, false, s.tick % 65536⟩])) ∧
      (∀ q x, ¬room → s.keq.queue = q ++ [x] →
        only { k with unreported := true } (q ++ [{ x with lost := true }])))) ∧
  (∀ (c : Fin 20) (cause : Cause) (s : State),
    let t := releaseTransition c cause s
    let k := s.keq.keys[c]
    let clear := fun (k : MappedKey) => { k with down := false, unreported := false, suppressed := false }
    let gone := fun (k : MappedKey) => { k with reported := none, repeatTimer := 0, nextRepeat := 0, repeatCount := 0 }
    let only := fun (k : MappedKey) (queue : List Event) => t = { s with keq := {
      keys := s.keq.keys.set c k, queue := queue, chords := tab fun i : Fin 8 => chordNext
        ((s.tbs.tables.chords[i]).valid && !(s.tbs.tables.chords[i]).members.getLsbD c.val && chordHeld s i)
        (conditionMatches s.mbs.pwrEn (s.tbs.tables.chords[i]).condition) s.keq.chords[i] } }
    ((s.tbs.tables.keymap[c]).valid = false → t = s) ∧
    ((s.tbs.tables.keymap[c]).valid = true → k.reported = none → only (clear k) s.keq.queue) ∧
    (∀ code, (s.tbs.tables.keymap[c]).valid = true → k.reported = some code → s.mbs.state.admits = true →
      s.slp.tx ≠ .idle → only (clear (gone k))
        (s.keq.queue ++ [⟨.keyUp, code, cause, c.val, false, s.tick % 65536⟩]))) ∧
  (∀ (held matching : Bool) (r : ChordRun),
    (held = false → chordNext held matching r = ⟨.idle, 0⟩) ∧
    (held = true → r.state = .idle → chordNext held matching r = ⟨if matching then .timing else .spent, 0⟩) ∧
    (held = true → r.state = .timing → chordNext held matching r = if matching then r else ⟨.spent, 0⟩) ∧
    (held = true → r.state = .fired ∨ r.state = .spent → chordNext held matching r = r)) ∧
  ∀ (raw : Vector (BitVec 16) 22) (s : State), s.powered = true → atScanInstant s = true → s.mbs.state ≠ .off →
    s.mbs.state ≠ .heatHold ∨ s.znc.release = false →
    (∀ k ∈ ([11, 12, 13] : List FaultKind), (reactionInForce s.tbs.tables k).restart = false) →
    ∃ t, exec (.scan raw) s = .next t ∧
      OnlyReported { s with tsu := scanned raw s, keq := { t.keq with queue := s.keq.queue } } t ∧
      ∀ c : Fin 20, let k := s.keq.keys[c]; let m := t.keq.keys[c]; let idle := (t.tsu.keys[c]).state = .idle
        ((scanKey raw s c).2 = .none ∨ (s.tbs.tables.keymap[c]).valid = false →
          m = { k with suppressed := k.suppressed && !decide idle }) ∧
        ((scanKey raw s c).2 = .touch → (s.tbs.tables.keymap[c]).valid = true → m.down = true) ∧
        (∀ cause, (scanKey raw s c).2 = .release cause → (s.tbs.tables.keymap[c]).valid = true →
          m.down = false ∧ m.reported = none ∧ m.unreported = false ∧ m.suppressed = false)

/-- R132: a repeat of a channel in the reported-down set, the transmitter busy and room left, once the ticks until its
due time have passed with nothing else falling due (log entry 1). -/
def Obligations.ARepeatRaisesItsCount : Prop :=
  ∀ (c : Fin 20) (code : Nat) (s : State), s.powered = true → (s.keq.keys[c]).reported = some code → s.slp.tx ≠ .idle →
    s.mbs.state = .boot ∨ s.mbs.state = .run ∨ s.mbs.state = .warn →
    reportedCount s.keq + 8 < 32 - s.keq.queue.length →
    let k := s.keq.keys[c]
    let e := s.tbs.tables.keymap[c]
    onlyDue (.repeatDue c) (k.nextRepeat - k.repeatTimer) s = true →
    ∃ t, exec (.repeatDue c) s = .next t ∧ t.tick = s.tick + (k.nextRepeat - k.repeatTimer) ∧
      t.keq.keys[c] = { k with
        repeatTimer := k.repeatTimer + (k.nextRepeat - k.repeatTimer), nextRepeat := k.nextRepeat + 10
        repeatCount := min 255 (k.repeatCount + 1) } ∧
      (e.repeats = true ∧ e.isLocal = false → t.keq.queue = s.keq.queue ++
        [⟨.keyRepeat, code, .normal, c.val * 256 + min 255 (k.repeatCount + 1), false, t.tick % 65536⟩]) ∧
      (e.repeats = false ∨ e.isLocal = true → t.keq.queue = s.keq.queue) ∧
      let u := elapse (k.nextRepeat - k.repeatTimer) s
      t = { u with
        keq := { u.keq with keys := u.keq.keys.set c t.keq.keys[c], queue := t.keq.queue }
        pog := { s.pog with applied := t.pog.applied } }

/-- R135, R55, R76, R77, R83, R84, R91, R93, R136: a TIMING chord fires, once the ticks left of its hold time have
passed with nothing else falling due (log entries 1 and 34), offers its CHORD event, said with the transmitter busy or,
in RUN and WARN, with nothing before it (sent at once: log entry 10), and its action does what its block gives it. A FIRED chord keeps its timer's
value (log entry 17). Of two chords due at the same tick the one of lower index fires first, whichever command is taken;
that is said where the tables are in range and a key held down is held at the touch unit too, since elsewhere a chord
could be held anew after a flush. One that the action of the first takes out of TIMING does not fire (log entry 25). The
token in the entry of a departure from POWERING is the model's choice (log entry 24), and so is that a POWER_ON judges the
release condition last handed, formed before the degraded timers are set to 0 (log entry 38). -/
def Obligations.AChordFiresItsAction : Prop :=
  (∀ (i j : Fin 8) (n : Nat) (s : State), s.powered = true → DownKeysOk s → TablesOk s → j < i →
    chordLeft s i = some n → chordLeft s j = some n →
    ((ownEvents s).all fun e => e.1 == .chordFire i || e.1 == .chordFire j || !dueWithin n e) = true →
    ∃ u, exec (.chordFire j) s = .next u ∧ exec (.chordFire i) s = exec (.chordFire i) u) ∧
  ∀ (i : Fin 8) (s : State), s.powered = true → (s.keq.chords[i]).state = .timing →
    let e := s.tbs.tables.chords[i]
    let u := elapse (e.hold * 10 - (s.keq.chords[i]).timer) s
    let taken := s.mbs.state = .powering ∨ s.mbs.state = .boot ∨ s.mbs.state = .run ∨ s.mbs.state = .warn
    let judged := s.mbs.state = .boot ∨ s.mbs.state = .run ∨ s.mbs.state = .warn
    let stays := e.action = .report ∨ e.action = .heatOverride ∨ e.action = .powerOn
    onlyDue (.chordFire i) (e.hold * 10 - (s.keq.chords[i]).timer) s = true →
    ∃ t, exec (.chordFire i) s = .next t ∧ t.tick = s.tick + (e.hold * 10 - (s.keq.chords[i]).timer) ∧ t.tbs = s.tbs ∧
      t.tmu = s.tmu ∧ t.fcl = s.fcl ∧ t.pog.requested = s.pog.requested ∧ t.tsu.refs = s.tsu.refs ∧
      t.slp = { s.slp with tx := t.slp.tx } ∧
      let event : Event := ⟨.chord, i.val, .normal, e.action.code, false, t.tick % 65536⟩
      let only := t = { u with
        keq := { u.keq with chords := u.keq.chords.set i ⟨.fired, (u.keq.chords[i]).timer⟩, queue := t.keq.queue }
        slp := t.slp, pog := { s.pog with applied := t.pog.applied } }
      (stays → judged → s.slp.tx ≠ .idle → reportedCount s.keq < 32 - s.keq.queue.length →
        t.keq.queue = s.keq.queue ++ [event]) ∧
      (stays → ¬judged → t.keq.queue = s.keq.queue) ∧
      (s.mbs.state = .run ∨ s.mbs.state = .warn → s.slp.tx = .idle → s.slp.reply = none → s.keq.queue = [] →
        t.slp.tx = .event event.frame.bytes ∧ t.keq.queue = []) ∧
      (e.action = .report → only) ∧
      (e.action = .heatOverride → s.mbs.state = .heatHold → t = { u with
        keq := { u.keq with chords := u.keq.chords.set i ⟨.fired, (u.keq.chords[i]).timer⟩ }
        znc := { s.znc with override := true }, pog := { s.pog with applied := t.pog.applied } }) ∧
      (e.action = .heatOverride → s.mbs.state ≠ .heatHold → only) ∧
      (e.action = .cycle → taken → t.mbs.state = .cycling ∧ t.mbs.bootCause = .chord ∧
        Departed u t .chord i.val .cycle s.mbs.count) ∧
      (e.action = .restart → taken → t.mbs.state = .resetting ∧ t.mbs.bootCause = .chord ∧
        Departed u t .chord i.val .reset s.mbs.count) ∧
      (e.action = .cycle ∨ e.action = .restart → ¬taken → only) ∧
      (e.action = .powerOff → s.mbs.state ≠ .off → t.mbs.state = .off ∧ t.mbs.bootCause = s.mbs.bootCause) ∧
      (e.action = .powerOff → taken ∨ s.mbs.state = .resetting → Departed u t .chord i.val .off s.mbs.count) ∧
      (e.action = .powerOff → s.mbs.state = .heatHold ∨ s.mbs.state = .cycling →
        t.rhs = u.rhs ∧ t.mbs.count = s.mbs.count ∧ t.znc = { s.znc with override := false }) ∧
      (e.action = .powerOff → s.mbs.state = .lockout → t.mbs.count = 0 ∧ WakeEntry u t .chord i.val .off 0) ∧
      (e.action = .powerOff → s.mbs.state = .off → only) ∧
      (e.action = .powerOn → s.mbs.state = .off ∨ s.mbs.state = .lockout →
        let count := if s.mbs.state = .lockout then 0 else s.mbs.count
        (t.mbs.state = if s.znc.release = true ∧ s.fcl.hold = false then .powering else .heatHold) ∧
        t.mbs.bootCause = .chord ∧ t.mbs.count = count ∧ WakeEntry u t .chord i.val .none count) ∧
      (e.action = .powerOn → s.mbs.state ≠ .off → s.mbs.state ≠ .lockout → only)

/-! Panel and faults -/

/-- R144: PANEL SET that meets a free reply buffer. -/
def Obligations.PanelSetStoresAndApplies : Prop :=
  ∀ (tag output hi lo : Byte) (s : State), s.powered = true → s.slp.reply = none →
    ∃ t, exec (.panelSet tag [output, hi, lo]) s = .next t ∧
      (5 < output.toNat → OnlyAnswered s t (replyFrame 0xC0 tag 0x13 [])) ∧
      ∀ i : Fin 6, output.toNat = i.val →
        let e := s.tbs.tables.gate[i]
        let level := hi.toNat * 256 + lo.toNat
        let most := if i = 0 then 1000 else 1
        (e.valid = false → OnlyAnswered s t (replyFrame 0xC0 tag 0x13 [])) ∧
        (e.valid = true → permitted e s.mbs.state = false → OnlyAnswered s t (replyFrame 0xC0 tag 0x15 [])) ∧
        (e.valid = true → permitted e s.mbs.state = true →
          t.pog.requested[i] = min level most ∧ (∀ j : Fin 6, j ≠ i → t.pog.requested[j] = s.pog.requested[j]) ∧
          (∀ j : Fin 6, t.pog.applied[j] = appliedLevel t j) ∧
          t = { s with pog := t.pog, slp := s.slp.answered (replyFrame 0xC0 tag
            (if most < level ∨ (s.znc.z1Cold = true ∧ e.coldClamp < min level most) then 1 else 0)
            (be16 (min level most) ++ be16 t.pog.applied[i])) })

/-- R155 to R158: one occurrence on one record. R160: a record that leaves CLEAR offers its FAULT event under REPORT,
and under RESTART makes the restart decision with cause FAULT and the kind as detail. R75: a LOCKOUT decision reports
F15. The token in the entry of a departure from POWERING is the model's choice (log entry 24). -/
def Obligations.OccurrencesMoveTheirRecord : Prop :=
  ∀ (k : FaultKind) (detail : Nat) (s : State),
    let r := s.fcl.records[k]
    let t := recordOccurrence k detail s
    Counted s t k detail ∧ (∀ j : Fin 16, j ≠ k → t.fcl.records[j] = s.fcl.records[j]) ∧
    (r.state = .clear → r.cls = .sw → (t.fcl.records[k]).state = .latched) ∧
    (r.state = .clear → r.cls = .hw → eventLike k = false → (t.fcl.records[k]).state = .active) ∧
    (r.state = .clear → r.cls = .hw → eventLike k = true → (t.fcl.records[k]).state = .clear) ∧
    (r.state ≠ .clear → t.keq = s.keq ∧ t.slp = s.slp ∧ report k detail s = t) ∧ OnlyReported s t ∧
    let e := reactionInForce s.tbs.tables k
    let u := report k detail s
    (r.state = .clear → e.report = true →
      t = offer ⟨.fault, k.val, .normal, detail, false, s.tick % 65536⟩ { s with fcl := t.fcl }) ∧
    (e.report = false → t = { s with fcl := t.fcl }) ∧
    (e.restart = false → u = t) ∧
    (r.state = .clear → e.restart = true →
      s.mbs.state = .powering ∨ s.mbs.state = .boot ∨ s.mbs.state = .run ∨ s.mbs.state = .warn →
      RestartedBy s u .fault k.val ∧ (u.mbs.state = .lockout → Counted t u 15 2) ∧
      (u.mbs.state ≠ .lockout → u.fcl = t.fcl)) ∧
    (s.mbs.state ≠ .powering → s.mbs.state ≠ .boot → s.mbs.state ≠ .run → s.mbs.state ≠ .warn → u = t)

/-- R164, R24: FAULT CLEAR that meets a free reply buffer; R31, R51, R52: where it clears F6, the duties are recomputed and
the degraded timer of a zone that is degraded no more is 0. R64, R65, R56: one that ends a HOLD inhibit in HEAT_HOLD, with
the release condition, switches the main board on; that the notice of the switch-on takes up changed tables is the
model's choice (log entry 30). -/
def Obligations.FaultClearClearsWhatMayClear : Prop :=
  ∀ (tag kind : Byte) (s : State), s.powered = true → s.slp.reply = none →
    let cleared := fun k : Fin 16 =>
      (kind = 0xFF ∨ kind.toNat = k.val) ∧ (s.fcl.records[k]).state = .latched ∧ faultCondition s k = false
    ∃ t, exec (.faultClear tag [kind]) s = .next t ∧
      let zones := tab fun i : Fin 3 => { s.znc.zones[i] with degraded := (t.znc.zones[i]).degraded }
      let stays := s.mbs.state ≠ .heatHold ∨ s.znc.release = false ∨ s.fcl.hold = false ∨ t.fcl.hold = true
      (stays → t = { s with
        fcl := t.fcl, hfd := { s.hfd with channels := t.hfd.channels }, slp := t.slp
        znc := { s.znc with zones := zones }, pog := { s.pog with applied := t.pog.applied } }) ∧
      (15 < kind.toNat → kind ≠ 0xFF → OnlyAnswered s t (replyFrame 0xD1 tag 0x13 [])) ∧
      (kind.toNat ≤ 15 ∨ kind = 0xFF →
        (∀ k : Fin 16, cleared k → t.fcl.records[k] = ⟨.clear, (s.fcl.records[k]).cls, 0, 0, 0, 0⟩) ∧
        (∀ k : Fin 16, ¬cleared k → t.fcl.records[k] = s.fcl.records[k]) ∧
        (t.fcl.hold = true ↔ ∃ k : Fin 16, (t.fcl.records[k]).state ≠ .clear ∧
          (reactionInForce s.tbs.tables k).hold = true) ∧
        (t.fcl.indication = true ↔ ∃ k : Fin 16, (t.fcl.records[k]).state ≠ .clear ∧
          (reactionInForce s.tbs.tables k).indicate = true) ∧
        t.slp = s.slp.answered (replyFrame 0xD1 tag 0 [byteOf (clearedKinds s kind.toNat).length]) ∧
        (cleared 6 → ∀ i : Fin 3,
          let c := s.hfd.channels[i]
          let d := t.hfd.channels[i]
          let latched := c.state = .latchedOff
          d = { c with
            state := if latched then .idle else c.state, tripCount := if latched then 0 else c.tripCount
            applied := newDuty t i, demand := d.demand } ∧
          (stays → d.demand = c.demand) ∧
          (t.znc.zones[i]).degraded = if zoneDegraded t i then (s.znc.zones[i]).degraded else 0) ∧
        (¬cleared 6 → t.znc.zones = s.znc.zones ∧ (stays → t.hfd = s.hfd ∧ t.znc = s.znc)) ∧
        (s.mbs.state = .heatHold → s.znc.release = true → s.fcl.hold = true → t.fcl.hold = false →
          t.mbs.state = .powering ∧ t.mbs.pwrEn = true ∧ t.mbs.pgRunning = true ∧
          t.mbs.pgLeft = s.tbs.tables.policy.pgTimeout ∧ t.mbs.count = s.mbs.count ∧ t.rhs = s.rhs ∧ t.tbs = s.tbs ∧
          t.tmu = s.tmu ∧ t.znc = { s.znc with override := false, zones := zones } ∧ t.pog.requested = s.pog.requested ∧
          Rescanned s t .active ∧ ∀ i : Fin 3, (t.hfd.channels[i]).demand = zoneDemand t true i))

/-! The link -/

/-- R169 to R172: the events that abandon a frame or discard a request, each with its F0 detail. CRC_MISMATCH and
OVERRUN stand for the whole frame and are taken in every receiver state (log entry 11). R172: every request, whatever it
carries, that meets an occupied reply buffer is discarded unanswered, and does what OVERRUN does and nothing else; so
does the request that a frame of good characters brings. -/
def Obligations.BadFramesReportF0 : Prop :=
  ∀ s : State, s.powered = true →
    let kept := fun (t : State) (detail : Nat) => t.tick = s.tick ∧ t.tbs = s.tbs ∧ t.slp.reply = s.slp.reply ∧
      Counted s t 0 detail ∧
      let u := { s with slp := { s.slp with
        rx := t.slp.rx, gap := t.slp.gap, idle := t.slp.idle, body := t.slp.body, toGo := t.slp.toGo } }
      t = drivePins (report 0 detail u) ∧ ((reactionInForce s.tbs.tables 0).restart = false → OnlyReported u t)
    (∀ len : Byte, s.slp.rx = .length → len.toNat < 2 ∨ 65 < len.toNat →
      ∃ t, exec (.badLengthByte len) s = .next t ∧ kept t 0 ∧ t.slp.rx = .resync ∧ t.slp.gap = none) ∧
    (s.slp.rx = .length ∨ s.slp.rx = .body →
      ∃ t, exec .badCharacter s = .next t ∧ kept t 2 ∧ t.slp.rx = .resync ∧ t.slp.gap = none) ∧
    (s.slp.rx = .hunt ∨ s.slp.rx = .resync →
      ∃ t, exec .badCharacter s = .next t ∧ t = { s with
        slp := { s.slp with idle := 0 }, pog := { s.pog with applied := t.pog.applied } }) ∧
    (s.slp.gap.isSome = true →
      ∃ t, exec .gapTimeout s = .next t ∧ kept t 1 ∧ t.slp.rx = .hunt ∧ t.slp.gap = none) ∧
    (∃ t, exec .crcMismatch s = .next t ∧ kept t 3 ∧ t.slp.rx = .resync ∧ t.slp.gap = none) ∧
    (s.slp.reply.isSome = true →
      (∃ t, exec .overrun s = .next t ∧ kept t 4 ∧ t.slp.rx = .hunt ∧ t.slp.gap = none) ∧
      (∀ (tag : Byte) (p : List Byte), ∀ c ∈ ([.ident tag p, .heartbeat tag p, .statusRead tag p, .tableRead tag p,
        .tableWrite tag p, .tableInvalidate tag p, .tableLock tag p, .storeSave tag p, .powerRequest tag p,
        .historyRead tag p, .historyMark tag p, .historyClear tag p, .panelSet tag p, .faultRead tag p,
        .faultClear tag p, .touchRead tag p] : List Instr), exec c s = exec .overrun s) ∧
      (∀ (kind tag : Byte) (p : List Byte), isRequestKind kind = false →
        exec (.unknownKind kind tag p) s = exec .overrun s) ∧
      ∀ serve : State → State, exec .overrun s = .next (drivePins (takeRequest serve s)))

/-- R169, R171, R173, R174: characters in HUNT and RESYNC, the idle line, and a request of unknown KIND. -/
def Obligations.TheReceiverHuntsAndResyncs : Prop :=
  ∀ (b kind tag : Byte) (payload : List Byte) (s : State), s.powered = true →
    (∃ t, exec (.goodCharacter b) s = .next t ∧
      (s.slp.rx = .hunt → b = 0xA5 → t = { s with
        slp := { s.slp with rx := .length, gap := some 0, idle := 0 }, pog := { s.pog with applied := t.pog.applied } }) ∧
      (s.slp.rx = .hunt ∧ b ≠ 0xA5 ∨ s.slp.rx = .resync → t = { s with
        slp := { s.slp with idle := 0 }, pog := { s.pog with applied := t.pog.applied } }) ∧
      (s.slp.rx = .length → 2 ≤ b.toNat → b.toNat ≤ 65 → t = { s with
        slp := { s.slp with
          rx := .body, gap := some 0, idle := 0, len := b.toNat, toGo := b.toNat + 2, body := []
          crc := crcByte 0xFFFF#16 b }
        pog := { s.pog with applied := t.pog.applied } })) ∧
    (∃ t, exec .resyncIdle s = .next t ∧
      (s.slp.rx = .resync → t = { s with
        slp := { s.slp with rx := .hunt, idle := 3 }, pog := { s.pog with applied := t.pog.applied } })) ∧
    (s.slp.reply = none → isRequestKind kind = false →
      ∃ t, exec (.unknownKind kind tag payload) s = .next t ∧
        OnlyAnswered s t (replyFrame (if kind.toNat < 0x80 then kind + 0x80 else kind) tag 0x10 []))

/-- R174 to R176: the end of a frame frees the buffer of the reply it carried, and the next frame is chosen. R195, R200:
the frame of an event record. -/
def Obligations.TheTransmitterChoosesItsNextFrame : Prop :=
  (∀ e : Event, let at? := itemField e.frame.payload
    e.frame.kind = 0x70 ∧ e.frame.tag = 0 ∧ e.frame.payload.length = 8 ∧ e.frame.bytes.length = 14 ∧
    at? 0 1 = e.kind.code ∧ at? 1 1 = e.subject % 256 ∧ at? 2 1 = e.cause.code ∧ at? 3 1 = e.lost.toNat ∧
    at? 4 2 = e.value % 65536 ∧ at? 6 2 = e.stamp % 65536) ∧
  [EventKind.keyDown, .keyUp, .keyRepeat, .chord, .fault, .restart, .warn, .store].map EventKind.code =
    List.range' 1 8 ∧
  ∀ (bs : List Byte) (s : State), s.powered = true →
    ∃ t, exec .txFrameEnd s = .next t ∧
      t = { s with
        keq := { s.keq with queue := t.keq.queue }, slp := { s.slp with tx := t.slp.tx, reply := t.slp.reply }
        pog := { s.pog with applied := t.pog.applied } } ∧
      (∀ f, s.slp.tx = .event bs → s.slp.reply = some f → t.slp.tx = .reply f.bytes ∧ t.slp.reply = some f ∧ t.keq = s.keq) ∧
      (∀ e rest, s.slp.tx = .reply bs ∨ (s.slp.tx = .event bs ∧ s.slp.reply = none) → s.keq.queue = e :: rest →
        s.mbs.state = .run ∨ s.mbs.state = .warn →
        t.slp.tx = .event e.frame.bytes ∧ t.slp.reply = none ∧ t.keq = { s.keq with queue := rest }) ∧
      (s.slp.tx = .reply bs ∨ (s.slp.tx = .event bs ∧ s.slp.reply = none) →
        s.keq.queue = [] ∨ (s.mbs.state ≠ .run ∧ s.mbs.state ≠ .warn) →
        t.slp.tx = .idle ∧ t.slp.reply = none ∧ t.keq = s.keq)

/-! Tables and the store -/

/-- R149, R173, R181, R183, R184, R188: the outcome of a TABLE WRITE that meets a free reply buffer; the entries it names
equal those it carries and no other entry changes, and the notice reaches the consumers of the table. A write is accepted
exactly where it names entries of the table and the entries it carries are in range, the curve's raw codes ascending. -/
def Obligations.TableWriteIsAppliedWholeOrRefused : Prop :=
  (∀ (old T : Tables) (t first count : Nat) (bs : List Byte), writtenTables old t first count bs = some T ↔
    WrittenBy old T t first count bs ∧ T.namedInRange t first count ∧ 0 < count ∧ first + count ≤ tableSize t) ∧
  (∀ (tag table first count : Byte) (entries : List Byte) (s : State), s.powered = true → s.slp.reply = none →
    6 < table.toNat → entries.length ≤ 60 →
    ∃ t, exec (.tableWrite tag (table :: first :: count :: entries)) s = .next t ∧
      OnlyAnswered s t (replyFrame 0x91 tag 0x12 [])) ∧
  ∀ (tag : Byte) (i : Fin 7) (first count : Byte) (entries : List Byte) (s : State), s.powered = true →
    s.slp.reply = none → entries.length = count.toNat * entrySize i.val → entries.length ≤ 60 →
    ∃ t, exec (.tableWrite tag (byteOf i.val :: first :: count :: entries)) s = .next t ∧ t.tick = s.tick ∧
      (s.tbs.locks[i] = true → OnlyAnswered s t (replyFrame 0x91 tag 0x14 [])) ∧
      (s.tbs.locks[i] = false → writtenTables s.tbs.tables i.val first.toNat count.toNat entries = none →
        OnlyAnswered s t (replyFrame 0x91 tag 0x13 [])) ∧
      (∀ T, s.tbs.locks[i] = false → writtenTables s.tbs.tables i.val first.toNat count.toNat entries = some T →
        t.slp.reply = some (replyFrame 0x91 tag 0 []) ∧ t.tbs = { s.tbs with
          tables := T, changed := s.tbs.changed.set i true } ∧
        t = drivePins (notice i.val s.tbs.tables (List.range' first.toNat count.toNat)
          { s with tbs := t.tbs, slp := s.slp.answered (replyFrame 0x91 tag 0 []) }) ∧
        (i ≠ 2 → i ≠ 4 → t.rhs = s.rhs) ∧ (i ≠ 4 → t.tmu = s.tmu) ∧
        (i = 3 → t = { s with tbs := t.tbs, slp := s.slp.answered (replyFrame 0x91 tag 0 []), pog := t.pog } ∧
          ∀ o : Fin 6, t.pog.requested[o] =
            if first.toNat ≤ o.val ∧ o.val < first.toNat + count.toNat ∧ (T.gate[o]).valid = false then 0
            else s.pog.requested[o]) ∧
        (i = 5 → t = { s with
          tbs := t.tbs, slp := s.slp.answered (replyFrame 0x91 tag 0 []), mbs := { s.mbs with count := t.mbs.count }
          pog := { s.pog with applied := t.pog.applied } }) ∧
        (i = 4 → t.tmu.ring = [] ∧ t.tmu.drift = 1 ∧ t.tmu.short = curveShort T.curve) ∧
        (i = 5 → t.mbs.count = if s.mbs.state = .lockout then T.policy.nReset + T.policy.nCycle + 1
          else min s.mbs.count (T.policy.nReset + T.policy.nCycle)))

/-- R149, R173, R181, R185, R188: the outcome of a TABLE INVALIDATE that meets a free reply buffer, with every table number
that its byte can hold. -/
def Obligations.TableInvalidateClearsValidFlags : Prop :=
  (∀ (tag table first extra : Byte) (s : State), s.powered = true → s.slp.reply = none → 6 < table.toNat →
    ∃ t, exec (.tableInvalidate tag [table, first, extra]) s = .next t ∧ OnlyAnswered s t (replyFrame 0x92 tag 0x12 [])) ∧
  ∀ (tag : Byte) (i : Fin 7) (first extra : Byte) (s : State), s.powered = true → s.slp.reply = none →
    ∃ t, exec (.tableInvalidate tag [byteOf i.val, first, extra]) s = .next t ∧ t.tick = s.tick ∧
      (i = 5 → OnlyAnswered s t (replyFrame 0x92 tag 0x12 [])) ∧
      (i ≠ 5 → s.tbs.locks[i] = true → OnlyAnswered s t (replyFrame 0x92 tag 0x14 [])) ∧
      (i ≠ 5 → s.tbs.locks[i] = false → tableSize i.val ≤ first.toNat ∨ tableSize i.val ≤ extra.toNat →
        OnlyAnswered s t (replyFrame 0x92 tag 0x13 [])) ∧
      (i ≠ 5 → s.tbs.locks[i] = false → first.toNat < tableSize i.val → extra.toNat < tableSize i.val →
        t.slp.reply = some (replyFrame 0x92 tag 0 []) ∧ (t.tbs.changed)[i] = true ∧
        t.tbs = { s.tbs with tables := t.tbs.tables, changed := s.tbs.changed.set i true } ∧
        (i ≠ 2 → i ≠ 4 → t.rhs = s.rhs) ∧ (i ≠ 4 → t.tmu = s.tmu) ∧
        t = drivePins (notice i.val s.tbs.tables (invalidatedIndexes i.val first.toNat extra.toNat)
          { s with tbs := t.tbs, slp := s.slp.answered (replyFrame 0x92 tag 0 []) }) ∧
        let named := fun (table size k : Nat) => i.val = table ∧ (k + size - first.toNat) % size ≤ extra.toNat
        let T := s.tbs.tables
        (∀ k : Fin 20, t.tbs.tables.keymap[k] =
          if named 0 20 k.val then { T.keymap[k] with valid := false } else T.keymap[k]) ∧
        (∀ k : Fin 8, t.tbs.tables.chords[k] =
          if named 1 8 k.val then { T.chords[k] with valid := false } else T.chords[k]) ∧
        (∀ k : Fin 3, t.tbs.tables.zones[k] =
          if named 2 4 k.val then { T.zones[k] with valid := false } else T.zones[k]) ∧
        (∀ k : Fin 6, t.tbs.tables.gate[k] =
          if named 3 6 k.val then { T.gate[k] with valid := false } else T.gate[k]) ∧
        (∀ k : Fin 16, t.tbs.tables.curve[k] =
          if named 4 16 k.val then { T.curve[k] with valid := false } else T.curve[k]) ∧
        (∀ k : Fin 16, t.tbs.tables.reactions[k] =
          if named 6 16 k.val then { T.reactions[k] with valid := false } else T.reactions[k]) ∧
        (i = 3 → t = { s with tbs := t.tbs, slp := s.slp.answered (replyFrame 0x92 tag 0 []), pog := t.pog } ∧
          ∀ o : Fin 6, t.pog.requested[o] = if named 3 6 o.val then 0 else s.pog.requested[o]) ∧
        t.tbs.tables.glob = s.tbs.tables.glob ∧ t.tbs.tables.policy = s.tbs.tables.policy)

/-- R137: the key mapper takes one changed T0 entry, said while the transmitter is busy. R138: the chords after a change
of T1, said with the rail on. R118, R103, R104: the scanned set after a change of T0 or T1, where no main board is
switched on (the fault counts of a DISABLED channel: log entry 31). R47, R57, R58, R25: the zones and heater channels
after a change of T2; that the demand at the driver stays the one last handed, also for a zone made invalid and valid again
in between, is the model's choice (log entry 33). R47, R48: the F8 occurrences of the zones that enter cut-out at the change,
the order of several (log entry 23) and that the F8 condition does not end where another zone leaves cut-out at it (log entry
29) being the model's choices; what else changes is said where F8 restarts nothing and no main board is switched on. R149:
the requested levels after a change of T3. R162: the records after a change of T6. -/
def Obligations.TableChangesReachTheirConsumers : Prop :=
  (∀ (old : Tables) (c : Fin 20) (s : State),
    let was := old.keymap[c]
    let now := s.tbs.tables.keymap[c]
    let k := s.keq.keys[c]
    let t := keymapChanged old c s
    let gone := fun (k : MappedKey) => { k with reported := none, repeatTimer := 0, nextRepeat := 0, repeatCount := 0 }
    let clear := fun (k : MappedKey) => { k with down := false, unreported := false, suppressed := false }
    let only := fun (k : MappedKey) (queue : List Event) =>
      t = { s with keq := { keys := s.keq.keys.set c k, chords := t.keq.chords, queue := queue } }
    let keyUp := fun (code : Nat) (cause : Cause) =>
      s.keq.queue ++ [(⟨.keyUp, code, cause, c.val, false, s.tick % 65536⟩ : Event)]
    let remapped := was.valid = true ∧ now.valid = true ∧ was.code ≠ now.code ∧ k.down = true
    (was.valid = true → now.valid = false → (∀ i : Fin 8, (s.tbs.tables.chords[i]).members.getLsbD c.val = true →
        t.keq.chords[i] = ⟨.idle, 0⟩) ∧
      (k.reported = none → only (clear k) s.keq.queue) ∧
      (∀ code, k.reported = some code → s.mbs.state.admits = true → s.slp.tx ≠ .idle →
        only (clear (gone k)) (keyUp code .unmapped))) ∧
    (was.valid = false → now.valid = true → t = { s with keq := { s.keq with
      keys := s.keq.keys.set c ⟨false, none, 0, 0, 0, false, false⟩ } }) ∧
    (remapped → (∀ i : Fin 8, (s.tbs.tables.chords[i]).members.getLsbD c.val = true →
        t.keq.chords[i] = ⟨.idle, 0⟩) ∧
      (k.reported = none → only { k with suppressed := true } s.keq.queue) ∧
      (∀ code, k.reported = some code → s.mbs.state.admits = true → s.slp.tx ≠ .idle →
        only { gone k with suppressed := true } (keyUp code .remap))) ∧
    (was.valid = now.valid → ¬remapped → t = s)) ∧
  (∀ (named : List (Fin 8)) (s : State), s.tsu.mode = .active → s.mbs.state ≠ .heatHold →
    ∀ i : Fin 8, (noticeChords named s).keq.chords[i] =
      if i ∈ named then ⟨if chordHeld s i then .spent else .idle, 0⟩ else s.keq.chords[i]) ∧
  (∀ (old : Tables) (keys : List (Fin 20)) (chords : List (Fin 8)) (s : State),
    s.mbs.state ≠ .heatHold ∨ s.znc.release = false ∨ s.fcl.hold = false →
    Rescanned s (noticeKeymap old keys s) s.tsu.mode ∧ Rescanned s (noticeChords chords s) s.tsu.mode) ∧
  (∀ (named : List (Fin 3)) (s : State), let t := zonesChanged named s
    t = { s with hfd := { s.hfd with channels := t.hfd.channels }
                 znc := { s.znc with zones := t.znc.zones, z1Cold := t.znc.z1Cold } } ∧
    t.znc.z1Cold = (if 1 ∈ named then z1ColdNow s else s.znc.z1Cold) ∧
    ∀ i : Fin 3, let z := s.tbs.tables.zones[i]
      (i ∉ named → t.znc.zones[i] = s.znc.zones[i] ∧ t.hfd.channels[i] = s.hfd.channels[i]) ∧
      (i ∈ named →
        t.hfd.channels[i] = { s.hfd.channels[i] with tripCount := 0, lowCount := 0, loadedCount := 0 } ∧
        (t.znc.zones[i]).cutOut = cutOutNow z (s.znc.zones[i]).cutOut (lastReading s (zoneSensor i)).temp ∧
        (z.valid = false → (t.znc.zones[i]).degraded = 0 ∧ (t.znc.zones[i]).soak = none) ∧
        (z.valid = true → (t.znc.zones[i]).degraded = (s.znc.zones[i]).degraded ∧
          (t.znc.zones[i]).soak = (s.znc.zones[i]).soak))) ∧
  (∀ (named : List (Fin 3)) (s : State), named.Nodup →
    let t := noticeHeat named s
    CountedEach s t 8 (fun i : Fin 3 =>
      named.contains i && !(s.znc.zones[i]).cutOut && (t.znc.zones[i]).cutOut) ∧
    ((reactionInForce s.tbs.tables 8).restart = false → s.mbs.state ≠ .heatHold ∨ s.znc.release = false →
      t = { s with
        znc := (zonesChanged named s).znc, hfd := t.hfd, fcl := t.fcl
        keq := { s.keq with queue := t.keq.queue }, slp := { s.slp with tx := t.slp.tx } } ∧
      ∀ i : Fin 3, (t.hfd.channels[i]).demand = (s.hfd.channels[i]).demand)) ∧
  (∀ (named : List (Fin 6)) (s : State), let t := noticeGate named s
    t = { s with pog := { s.pog with requested := t.pog.requested } } ∧
    ∀ o : Fin 6, t.pog.requested[o] =
      if o ∈ named ∧ (s.tbs.tables.gate[o]).valid = false then 0 else s.pog.requested[o]) ∧
  ∀ (named : List FaultKind) (s : State) (k : FaultKind),
    let r := s.fcl.records[k]
    let x := (noticeReactions named s).fcl.records[k]
    let cls := (reactionInForce s.tbs.tables k).cls
    (k ∉ named → x = r) ∧
    (k ∈ named → x = { r with cls := cls, state := x.state } ∧
      (r.cls = .hw → cls = .sw → r.state = .active → x.state = .latched) ∧
      (r.cls = .sw → cls = .hw → r.state = .latched →
        x.state = if faultCondition s k then .active else .clear) ∧
      (r.cls = cls ∨ r.state = .clear → x.state = r.state))

/-- R186: TABLE LOCK that meets a free reply buffer. R188, R190, R191, R125: STORE SAVE, its completion and the STORE
event, sent at once where nothing is before it (log entry 10). That a completion in an IDLE store changes nothing is the
model's choice (log entry 12), and so is that the F14 occurrence of a save that does not verify comes before its STORE
event (log entry 32). -/
def Obligations.LocksAndSaves : Prop :=
  (∀ (tag table code : Byte) (s : State), s.powered = true → s.slp.reply = none →
    ∃ t, exec (.tableLock tag [table, code]) s = .next t ∧
      (6 < table.toNat → table ≠ 0xFF → OnlyAnswered s t (replyFrame 0x93 tag 0x12 [])) ∧
      (table.toNat ≤ 6 ∨ table = 0xFF → code ≠ 0x3C → code ≠ 0xC3 →
        OnlyAnswered s t (replyFrame 0x93 tag 0x13 [])) ∧
      (table.toNat ≤ 6 ∨ table = 0xFF → code = 0x3C ∨ code = 0xC3 →
        t = { s with
          slp := s.slp.answered (replyFrame 0x93 tag 0 []), tbs := { s.tbs with locks := t.tbs.locks }
          pog := { s.pog with applied := t.pog.applied } } ∧
        (∀ i : Fin 7, table = 0xFF ∨ table.toNat = i.val → t.tbs.locks[i] = decide (code = 0xC3)) ∧
        ∀ i : Fin 7, table ≠ 0xFF → table.toNat ≠ i.val → t.tbs.locks[i] = s.tbs.locks[i])) ∧
  (∀ (tag : Byte) (s : State), s.powered = true → s.slp.reply = none →
    ∃ t, exec (.storeSave tag []) s = .next t ∧
      (s.tbs.store ≠ .idle → OnlyAnswered s t (replyFrame 0x94 tag 0x17 [])) ∧
      (s.tbs.store = .idle → t = { s with
        slp := s.slp.answered (replyFrame 0x94 tag 0 [])
        tbs := { s.tbs with store := .writing s.tbs.tables, changed := tab fun _ => false }
        pog := { s.pog with applied := t.pog.applied } })) ∧
  (∀ (verified : Bool) (s : State), s.powered = true → s.tbs.store = .idle →
    ∃ t, exec (.saveCompletion verified) s = .next t ∧ t = { s with pog := { s.pog with applied := t.pog.applied } }) ∧
  ∀ (T : Tables) (s : State), s.powered = true → s.tbs.store = .writing T →
    let judged := s.mbs.state = .boot ∨ s.mbs.state = .run ∨ s.mbs.state = .warn
    let stored := fun value : Nat => (⟨.store, 0, .normal, value, false, s.tick % 65536⟩ : Event)
    let fault : Event := ⟨.fault, 14, .normal, 1, false, s.tick % 65536⟩
    let held := reportedCount s.keq + s.keq.queue.length
    (∃ t, exec (.saveCompletion true) s = .next t ∧
      t.tbs = { s.tbs with store := .idle, result := .ok, image := .written (imageBytes T) } ∧
      t = { s with
        tbs := t.tbs, keq := { s.keq with queue := t.keq.queue }, slp := { s.slp with tx := t.slp.tx }
        pog := { s.pog with applied := t.pog.applied } } ∧
      t = drivePins (offer (stored 0) { s with tbs := t.tbs }) ∧
      (judged → s.slp.tx ≠ .idle → held < 32 → t.keq.queue = s.keq.queue ++ [stored 0] ∧ t.slp = s.slp) ∧
      (¬judged → t.keq.queue = s.keq.queue ∧ t.slp = s.slp) ∧
      (s.mbs.state = .run ∨ s.mbs.state = .warn → s.slp.tx = .idle → s.slp.reply = none → s.keq.queue = [] →
        t.keq.queue = [] ∧ t.slp.tx = .event (stored 0).frame.bytes)) ∧
    ∃ t, exec (.saveCompletion false) s = .next t ∧ Counted s t 14 1 ∧
      t.tbs = { s.tbs with store := .idle, result := .failed, image := .rejected, changed := tab fun _ => true } ∧
      t = drivePins (offer (stored 1) (report 14 1 { s with tbs := t.tbs })) ∧
      let r := s.fcl.records[14]
      let e := reactionInForce s.tbs.tables 14
      (r.state ≠ .clear ∨ e.restart = false →
        t = { s with
          tbs := t.tbs, fcl := t.fcl, keq := { s.keq with queue := t.keq.queue }, slp := { s.slp with tx := t.slp.tx }
          pog := { s.pog with applied := t.pog.applied } } ∧
        (r.state ≠ .clear ∨ e.report = false → judged → s.slp.tx ≠ .idle → held < 32 →
          t.keq.queue = s.keq.queue ++ [stored 1] ∧ t.slp = s.slp) ∧
        (r.state = .clear → e.report = true → judged → s.slp.tx ≠ .idle → held < 31 →
          t.keq.queue = s.keq.queue ++ [fault, stored 1] ∧ t.slp = s.slp) ∧
        (¬judged → t.keq.queue = s.keq.queue ∧ t.slp = s.slp))

end
end

