-- ==== Sys2Proof/Laws/State.lean ====
section
/-! SUPPORT. Replacing one block's state: one lemma per field, so that no proof unfolds a record update. -/

namespace Sys2Proof.Machine

variable (s : State)

@[simp] theorem setTmu_powered (x : Tmu) : (s.setTmu x).powered = s.powered := rfl
@[simp] theorem setTmu_tick (x : Tmu) : (s.setTmu x).tick = s.tick := rfl
@[simp] theorem setTmu_tmu (x : Tmu) : (s.setTmu x).tmu = x := rfl
@[simp] theorem setTmu_hfd (x : Tmu) : (s.setTmu x).hfd = s.hfd := rfl
@[simp] theorem setTmu_znc (x : Tmu) : (s.setTmu x).znc = s.znc := rfl
@[simp] theorem setTmu_mbs (x : Tmu) : (s.setTmu x).mbs = s.mbs := rfl
@[simp] theorem setTmu_rhs (x : Tmu) : (s.setTmu x).rhs = s.rhs := rfl
@[simp] theorem setTmu_tsu (x : Tmu) : (s.setTmu x).tsu = s.tsu := rfl
@[simp] theorem setTmu_keq (x : Tmu) : (s.setTmu x).keq = s.keq := rfl
@[simp] theorem setTmu_pog (x : Tmu) : (s.setTmu x).pog = s.pog := rfl
@[simp] theorem setTmu_fcl (x : Tmu) : (s.setTmu x).fcl = s.fcl := rfl
@[simp] theorem setTmu_slp (x : Tmu) : (s.setTmu x).slp = s.slp := rfl
@[simp] theorem setTmu_tbs (x : Tmu) : (s.setTmu x).tbs = s.tbs := rfl
@[simp] theorem setTmu_pending (x : Tmu) : (s.setTmu x).pending = s.pending := rfl

@[simp] theorem setHfd_powered (x : Hfd) : (s.setHfd x).powered = s.powered := rfl
@[simp] theorem setHfd_tick (x : Hfd) : (s.setHfd x).tick = s.tick := rfl
@[simp] theorem setHfd_tmu (x : Hfd) : (s.setHfd x).tmu = s.tmu := rfl
@[simp] theorem setHfd_hfd (x : Hfd) : (s.setHfd x).hfd = x := rfl
@[simp] theorem setHfd_znc (x : Hfd) : (s.setHfd x).znc = s.znc := rfl
@[simp] theorem setHfd_mbs (x : Hfd) : (s.setHfd x).mbs = s.mbs := rfl
@[simp] theorem setHfd_rhs (x : Hfd) : (s.setHfd x).rhs = s.rhs := rfl
@[simp] theorem setHfd_tsu (x : Hfd) : (s.setHfd x).tsu = s.tsu := rfl
@[simp] theorem setHfd_keq (x : Hfd) : (s.setHfd x).keq = s.keq := rfl
@[simp] theorem setHfd_pog (x : Hfd) : (s.setHfd x).pog = s.pog := rfl
@[simp] theorem setHfd_fcl (x : Hfd) : (s.setHfd x).fcl = s.fcl := rfl
@[simp] theorem setHfd_slp (x : Hfd) : (s.setHfd x).slp = s.slp := rfl
@[simp] theorem setHfd_tbs (x : Hfd) : (s.setHfd x).tbs = s.tbs := rfl
@[simp] theorem setHfd_pending (x : Hfd) : (s.setHfd x).pending = s.pending := rfl

@[simp] theorem setZnc_powered (x : Znc) : (s.setZnc x).powered = s.powered := rfl
@[simp] theorem setZnc_tick (x : Znc) : (s.setZnc x).tick = s.tick := rfl
@[simp] theorem setZnc_tmu (x : Znc) : (s.setZnc x).tmu = s.tmu := rfl
@[simp] theorem setZnc_hfd (x : Znc) : (s.setZnc x).hfd = s.hfd := rfl
@[simp] theorem setZnc_znc (x : Znc) : (s.setZnc x).znc = x := rfl
@[simp] theorem setZnc_mbs (x : Znc) : (s.setZnc x).mbs = s.mbs := rfl
@[simp] theorem setZnc_rhs (x : Znc) : (s.setZnc x).rhs = s.rhs := rfl
@[simp] theorem setZnc_tsu (x : Znc) : (s.setZnc x).tsu = s.tsu := rfl
@[simp] theorem setZnc_keq (x : Znc) : (s.setZnc x).keq = s.keq := rfl
@[simp] theorem setZnc_pog (x : Znc) : (s.setZnc x).pog = s.pog := rfl
@[simp] theorem setZnc_fcl (x : Znc) : (s.setZnc x).fcl = s.fcl := rfl
@[simp] theorem setZnc_slp (x : Znc) : (s.setZnc x).slp = s.slp := rfl
@[simp] theorem setZnc_tbs (x : Znc) : (s.setZnc x).tbs = s.tbs := rfl
@[simp] theorem setZnc_pending (x : Znc) : (s.setZnc x).pending = s.pending := rfl

@[simp] theorem setMbs_powered (x : Mbs) : (s.setMbs x).powered = s.powered := rfl
@[simp] theorem setMbs_tick (x : Mbs) : (s.setMbs x).tick = s.tick := rfl
@[simp] theorem setMbs_tmu (x : Mbs) : (s.setMbs x).tmu = s.tmu := rfl
@[simp] theorem setMbs_hfd (x : Mbs) : (s.setMbs x).hfd = s.hfd := rfl
@[simp] theorem setMbs_znc (x : Mbs) : (s.setMbs x).znc = s.znc := rfl
@[simp] theorem setMbs_mbs (x : Mbs) : (s.setMbs x).mbs = x := rfl
@[simp] theorem setMbs_rhs (x : Mbs) : (s.setMbs x).rhs = s.rhs := rfl
@[simp] theorem setMbs_tsu (x : Mbs) : (s.setMbs x).tsu = s.tsu := rfl
@[simp] theorem setMbs_keq (x : Mbs) : (s.setMbs x).keq = s.keq := rfl
@[simp] theorem setMbs_pog (x : Mbs) : (s.setMbs x).pog = s.pog := rfl
@[simp] theorem setMbs_fcl (x : Mbs) : (s.setMbs x).fcl = s.fcl := rfl
@[simp] theorem setMbs_slp (x : Mbs) : (s.setMbs x).slp = s.slp := rfl
@[simp] theorem setMbs_tbs (x : Mbs) : (s.setMbs x).tbs = s.tbs := rfl
@[simp] theorem setMbs_pending (x : Mbs) : (s.setMbs x).pending = s.pending := rfl

@[simp] theorem setRhs_powered (x : Rhs) : (s.setRhs x).powered = s.powered := rfl
@[simp] theorem setRhs_tick (x : Rhs) : (s.setRhs x).tick = s.tick := rfl
@[simp] theorem setRhs_tmu (x : Rhs) : (s.setRhs x).tmu = s.tmu := rfl
@[simp] theorem setRhs_hfd (x : Rhs) : (s.setRhs x).hfd = s.hfd := rfl
@[simp] theorem setRhs_znc (x : Rhs) : (s.setRhs x).znc = s.znc := rfl
@[simp] theorem setRhs_mbs (x : Rhs) : (s.setRhs x).mbs = s.mbs := rfl
@[simp] theorem setRhs_rhs (x : Rhs) : (s.setRhs x).rhs = x := rfl
@[simp] theorem setRhs_tsu (x : Rhs) : (s.setRhs x).tsu = s.tsu := rfl
@[simp] theorem setRhs_keq (x : Rhs) : (s.setRhs x).keq = s.keq := rfl
@[simp] theorem setRhs_pog (x : Rhs) : (s.setRhs x).pog = s.pog := rfl
@[simp] theorem setRhs_fcl (x : Rhs) : (s.setRhs x).fcl = s.fcl := rfl
@[simp] theorem setRhs_slp (x : Rhs) : (s.setRhs x).slp = s.slp := rfl
@[simp] theorem setRhs_tbs (x : Rhs) : (s.setRhs x).tbs = s.tbs := rfl
@[simp] theorem setRhs_pending (x : Rhs) : (s.setRhs x).pending = s.pending := rfl

@[simp] theorem setTsu_powered (x : Tsu) : (s.setTsu x).powered = s.powered := rfl
@[simp] theorem setTsu_tick (x : Tsu) : (s.setTsu x).tick = s.tick := rfl
@[simp] theorem setTsu_tmu (x : Tsu) : (s.setTsu x).tmu = s.tmu := rfl
@[simp] theorem setTsu_hfd (x : Tsu) : (s.setTsu x).hfd = s.hfd := rfl
@[simp] theorem setTsu_znc (x : Tsu) : (s.setTsu x).znc = s.znc := rfl
@[simp] theorem setTsu_mbs (x : Tsu) : (s.setTsu x).mbs = s.mbs := rfl
@[simp] theorem setTsu_rhs (x : Tsu) : (s.setTsu x).rhs = s.rhs := rfl
@[simp] theorem setTsu_tsu (x : Tsu) : (s.setTsu x).tsu = x := rfl
@[simp] theorem setTsu_keq (x : Tsu) : (s.setTsu x).keq = s.keq := rfl
@[simp] theorem setTsu_pog (x : Tsu) : (s.setTsu x).pog = s.pog := rfl
@[simp] theorem setTsu_fcl (x : Tsu) : (s.setTsu x).fcl = s.fcl := rfl
@[simp] theorem setTsu_slp (x : Tsu) : (s.setTsu x).slp = s.slp := rfl
@[simp] theorem setTsu_tbs (x : Tsu) : (s.setTsu x).tbs = s.tbs := rfl
@[simp] theorem setTsu_pending (x : Tsu) : (s.setTsu x).pending = s.pending := rfl

@[simp] theorem setKeq_powered (x : Keq) : (s.setKeq x).powered = s.powered := rfl
@[simp] theorem setKeq_tick (x : Keq) : (s.setKeq x).tick = s.tick := rfl
@[simp] theorem setKeq_tmu (x : Keq) : (s.setKeq x).tmu = s.tmu := rfl
@[simp] theorem setKeq_hfd (x : Keq) : (s.setKeq x).hfd = s.hfd := rfl
@[simp] theorem setKeq_znc (x : Keq) : (s.setKeq x).znc = s.znc := rfl
@[simp] theorem setKeq_mbs (x : Keq) : (s.setKeq x).mbs = s.mbs := rfl
@[simp] theorem setKeq_rhs (x : Keq) : (s.setKeq x).rhs = s.rhs := rfl
@[simp] theorem setKeq_tsu (x : Keq) : (s.setKeq x).tsu = s.tsu := rfl
@[simp] theorem setKeq_keq (x : Keq) : (s.setKeq x).keq = x := rfl
@[simp] theorem setKeq_pog (x : Keq) : (s.setKeq x).pog = s.pog := rfl
@[simp] theorem setKeq_fcl (x : Keq) : (s.setKeq x).fcl = s.fcl := rfl
@[simp] theorem setKeq_slp (x : Keq) : (s.setKeq x).slp = s.slp := rfl
@[simp] theorem setKeq_tbs (x : Keq) : (s.setKeq x).tbs = s.tbs := rfl
@[simp] theorem setKeq_pending (x : Keq) : (s.setKeq x).pending = s.pending := rfl

@[simp] theorem setPog_powered (x : Pog) : (s.setPog x).powered = s.powered := rfl
@[simp] theorem setPog_tick (x : Pog) : (s.setPog x).tick = s.tick := rfl
@[simp] theorem setPog_tmu (x : Pog) : (s.setPog x).tmu = s.tmu := rfl
@[simp] theorem setPog_hfd (x : Pog) : (s.setPog x).hfd = s.hfd := rfl
@[simp] theorem setPog_znc (x : Pog) : (s.setPog x).znc = s.znc := rfl
@[simp] theorem setPog_mbs (x : Pog) : (s.setPog x).mbs = s.mbs := rfl
@[simp] theorem setPog_rhs (x : Pog) : (s.setPog x).rhs = s.rhs := rfl
@[simp] theorem setPog_tsu (x : Pog) : (s.setPog x).tsu = s.tsu := rfl
@[simp] theorem setPog_keq (x : Pog) : (s.setPog x).keq = s.keq := rfl
@[simp] theorem setPog_pog (x : Pog) : (s.setPog x).pog = x := rfl
@[simp] theorem setPog_fcl (x : Pog) : (s.setPog x).fcl = s.fcl := rfl
@[simp] theorem setPog_slp (x : Pog) : (s.setPog x).slp = s.slp := rfl
@[simp] theorem setPog_tbs (x : Pog) : (s.setPog x).tbs = s.tbs := rfl
@[simp] theorem setPog_pending (x : Pog) : (s.setPog x).pending = s.pending := rfl

@[simp] theorem setFcl_powered (x : Fcl) : (s.setFcl x).powered = s.powered := rfl
@[simp] theorem setFcl_tick (x : Fcl) : (s.setFcl x).tick = s.tick := rfl
@[simp] theorem setFcl_tmu (x : Fcl) : (s.setFcl x).tmu = s.tmu := rfl
@[simp] theorem setFcl_hfd (x : Fcl) : (s.setFcl x).hfd = s.hfd := rfl
@[simp] theorem setFcl_znc (x : Fcl) : (s.setFcl x).znc = s.znc := rfl
@[simp] theorem setFcl_mbs (x : Fcl) : (s.setFcl x).mbs = s.mbs := rfl
@[simp] theorem setFcl_rhs (x : Fcl) : (s.setFcl x).rhs = s.rhs := rfl
@[simp] theorem setFcl_tsu (x : Fcl) : (s.setFcl x).tsu = s.tsu := rfl
@[simp] theorem setFcl_keq (x : Fcl) : (s.setFcl x).keq = s.keq := rfl
@[simp] theorem setFcl_pog (x : Fcl) : (s.setFcl x).pog = s.pog := rfl
@[simp] theorem setFcl_fcl (x : Fcl) : (s.setFcl x).fcl = x := rfl
@[simp] theorem setFcl_slp (x : Fcl) : (s.setFcl x).slp = s.slp := rfl
@[simp] theorem setFcl_tbs (x : Fcl) : (s.setFcl x).tbs = s.tbs := rfl
@[simp] theorem setFcl_pending (x : Fcl) : (s.setFcl x).pending = s.pending := rfl

@[simp] theorem setSlp_powered (x : Slp) : (s.setSlp x).powered = s.powered := rfl
@[simp] theorem setSlp_tick (x : Slp) : (s.setSlp x).tick = s.tick := rfl
@[simp] theorem setSlp_tmu (x : Slp) : (s.setSlp x).tmu = s.tmu := rfl
@[simp] theorem setSlp_hfd (x : Slp) : (s.setSlp x).hfd = s.hfd := rfl
@[simp] theorem setSlp_znc (x : Slp) : (s.setSlp x).znc = s.znc := rfl
@[simp] theorem setSlp_mbs (x : Slp) : (s.setSlp x).mbs = s.mbs := rfl
@[simp] theorem setSlp_rhs (x : Slp) : (s.setSlp x).rhs = s.rhs := rfl
@[simp] theorem setSlp_tsu (x : Slp) : (s.setSlp x).tsu = s.tsu := rfl
@[simp] theorem setSlp_keq (x : Slp) : (s.setSlp x).keq = s.keq := rfl
@[simp] theorem setSlp_pog (x : Slp) : (s.setSlp x).pog = s.pog := rfl
@[simp] theorem setSlp_fcl (x : Slp) : (s.setSlp x).fcl = s.fcl := rfl
@[simp] theorem setSlp_slp (x : Slp) : (s.setSlp x).slp = x := rfl
@[simp] theorem setSlp_tbs (x : Slp) : (s.setSlp x).tbs = s.tbs := rfl
@[simp] theorem setSlp_pending (x : Slp) : (s.setSlp x).pending = s.pending := rfl

@[simp] theorem setTbs_powered (x : Tbs) : (s.setTbs x).powered = s.powered := rfl
@[simp] theorem setTbs_tick (x : Tbs) : (s.setTbs x).tick = s.tick := rfl
@[simp] theorem setTbs_tmu (x : Tbs) : (s.setTbs x).tmu = s.tmu := rfl
@[simp] theorem setTbs_hfd (x : Tbs) : (s.setTbs x).hfd = s.hfd := rfl
@[simp] theorem setTbs_znc (x : Tbs) : (s.setTbs x).znc = s.znc := rfl
@[simp] theorem setTbs_mbs (x : Tbs) : (s.setTbs x).mbs = s.mbs := rfl
@[simp] theorem setTbs_rhs (x : Tbs) : (s.setTbs x).rhs = s.rhs := rfl
@[simp] theorem setTbs_tsu (x : Tbs) : (s.setTbs x).tsu = s.tsu := rfl
@[simp] theorem setTbs_keq (x : Tbs) : (s.setTbs x).keq = s.keq := rfl
@[simp] theorem setTbs_pog (x : Tbs) : (s.setTbs x).pog = s.pog := rfl
@[simp] theorem setTbs_fcl (x : Tbs) : (s.setTbs x).fcl = s.fcl := rfl
@[simp] theorem setTbs_slp (x : Tbs) : (s.setTbs x).slp = s.slp := rfl
@[simp] theorem setTbs_tbs (x : Tbs) : (s.setTbs x).tbs = x := rfl
@[simp] theorem setTbs_pending (x : Tbs) : (s.setTbs x).pending = s.pending := rfl

/-! The free entries and the stamp read one field each. -/

@[simp] theorem stamp_eq : stamp s = s.tick % 65536 := rfl

/-- Replacing a block by itself changes nothing. -/
theorem setMbs_self : s.setMbs s.mbs = s := rfl

/-- As `setMbs_self`. -/
theorem setKeq_self : s.setKeq s.keq = s := rfl

end Sys2Proof.Machine
end

