-- ==== Sys2Proof/Laws/Keeps.lean ====
section
/-! SUPPORT. What each shared operation leaves alone, one lemma per operation: every block that it does not name, the
tick count, the supply and the queue of commands. -/

namespace Sys2Proof.Machine

/-- `elapse` changes nothing but the tick count and the state of HFD, MBS, RHS, TSU, KEQ. -/
@[simp] theorem elapse_keeps (n : Nat) (s : State) :
      (elapse n s).powered = s.powered ∧
      (elapse n s).tmu = s.tmu ∧
      (elapse n s).znc = s.znc ∧
      (elapse n s).pog = s.pog ∧
      (elapse n s).fcl = s.fcl ∧
      (elapse n s).slp = s.slp ∧
      (elapse n s).tbs = s.tbs ∧
      (elapse n s).pending = s.pending := by
  unfold elapse
  (repeat' split) <;> simp

/-- `kickTx` changes nothing but the state of SLP, KEQ. -/
@[simp] theorem kickTx_keeps (s : State) :
      (kickTx s).powered = s.powered ∧
      (kickTx s).tick = s.tick ∧
      (kickTx s).tmu = s.tmu ∧
      (kickTx s).hfd = s.hfd ∧
      (kickTx s).znc = s.znc ∧
      (kickTx s).mbs = s.mbs ∧
      (kickTx s).rhs = s.rhs ∧
      (kickTx s).tsu = s.tsu ∧
      (kickTx s).pog = s.pog ∧
      (kickTx s).fcl = s.fcl ∧
      (kickTx s).tbs = s.tbs ∧
      (kickTx s).pending = s.pending := by
  unfold kickTx
  (repeat' split) <;> simp

/-- `reply` changes nothing but the state of SLP. -/
@[simp] theorem reply_keeps (kind tag : Byte) (status : Status) (items : List Byte) (s : State) :
      (reply kind tag status items s).powered = s.powered ∧
      (reply kind tag status items s).tick = s.tick ∧
      (reply kind tag status items s).tmu = s.tmu ∧
      (reply kind tag status items s).hfd = s.hfd ∧
      (reply kind tag status items s).znc = s.znc ∧
      (reply kind tag status items s).mbs = s.mbs ∧
      (reply kind tag status items s).rhs = s.rhs ∧
      (reply kind tag status items s).tsu = s.tsu ∧
      (reply kind tag status items s).keq = s.keq ∧
      (reply kind tag status items s).pog = s.pog ∧
      (reply kind tag status items s).fcl = s.fcl ∧
      (reply kind tag status items s).tbs = s.tbs ∧
      (reply kind tag status items s).pending = s.pending := by
  unfold reply kickTx
  simp only [setSlp_slp]
  (repeat' split) <;> simp_all

/-- `offer` changes nothing but the state of KEQ, SLP. -/
@[simp] theorem offer_keeps (e : Event) (s : State) :
      (offer e s).powered = s.powered ∧
      (offer e s).tick = s.tick ∧
      (offer e s).tmu = s.tmu ∧
      (offer e s).hfd = s.hfd ∧
      (offer e s).znc = s.znc ∧
      (offer e s).mbs = s.mbs ∧
      (offer e s).rhs = s.rhs ∧
      (offer e s).tsu = s.tsu ∧
      (offer e s).pog = s.pog ∧
      (offer e s).fcl = s.fcl ∧
      (offer e s).tbs = s.tbs ∧
      (offer e s).pending = s.pending := by
  unfold offer
  (repeat' split) <;> simp

/-- `pushHistory` changes nothing but the state of RHS. -/
@[simp] theorem pushHistory_keeps (body : HistoryBody) (s : State) :
      (pushHistory body s).powered = s.powered ∧
      (pushHistory body s).tick = s.tick ∧
      (pushHistory body s).tmu = s.tmu ∧
      (pushHistory body s).hfd = s.hfd ∧
      (pushHistory body s).znc = s.znc ∧
      (pushHistory body s).mbs = s.mbs ∧
      (pushHistory body s).tsu = s.tsu ∧
      (pushHistory body s).keq = s.keq ∧
      (pushHistory body s).pog = s.pog ∧
      (pushHistory body s).fcl = s.fcl ∧
      (pushHistory body s).slp = s.slp ∧
      (pushHistory body s).tbs = s.tbs ∧
      (pushHistory body s).pending = s.pending := by
  unfold pushHistory
  simp

/-- `recomputeDuties` changes nothing but the state of HFD. -/
@[simp] theorem recomputeDuties_keeps (s : State) :
      (recomputeDuties s).powered = s.powered ∧
      (recomputeDuties s).tick = s.tick ∧
      (recomputeDuties s).tmu = s.tmu ∧
      (recomputeDuties s).znc = s.znc ∧
      (recomputeDuties s).mbs = s.mbs ∧
      (recomputeDuties s).rhs = s.rhs ∧
      (recomputeDuties s).tsu = s.tsu ∧
      (recomputeDuties s).keq = s.keq ∧
      (recomputeDuties s).pog = s.pog ∧
      (recomputeDuties s).fcl = s.fcl ∧
      (recomputeDuties s).slp = s.slp ∧
      (recomputeDuties s).tbs = s.tbs ∧
      (recomputeDuties s).pending = s.pending := by
  unfold recomputeDuties
  simp

/-- `setRailChange` changes nothing but the state of HFD. -/
@[simp] theorem setRailChange_keeps (r : RailChange) (s : State) :
      (setRailChange r s).powered = s.powered ∧
      (setRailChange r s).tick = s.tick ∧
      (setRailChange r s).tmu = s.tmu ∧
      (setRailChange r s).znc = s.znc ∧
      (setRailChange r s).mbs = s.mbs ∧
      (setRailChange r s).rhs = s.rhs ∧
      (setRailChange r s).tsu = s.tsu ∧
      (setRailChange r s).keq = s.keq ∧
      (setRailChange r s).pog = s.pog ∧
      (setRailChange r s).fcl = s.fcl ∧
      (setRailChange r s).slp = s.slp ∧
      (setRailChange r s).tbs = s.tbs ∧
      (setRailChange r s).pending = s.pending := by
  unfold setRailChange
  simp

/-- `setFanDuty` changes nothing but the state of HFD. -/
@[simp] theorem setFanDuty_keeps (d : Nat) (s : State) :
      (setFanDuty d s).powered = s.powered ∧
      (setFanDuty d s).tick = s.tick ∧
      (setFanDuty d s).tmu = s.tmu ∧
      (setFanDuty d s).znc = s.znc ∧
      (setFanDuty d s).mbs = s.mbs ∧
      (setFanDuty d s).rhs = s.rhs ∧
      (setFanDuty d s).tsu = s.tsu ∧
      (setFanDuty d s).keq = s.keq ∧
      (setFanDuty d s).pog = s.pog ∧
      (setFanDuty d s).fcl = s.fcl ∧
      (setFanDuty d s).slp = s.slp ∧
      (setFanDuty d s).tbs = s.tbs ∧
      (setFanDuty d s).pending = s.pending := by
  unfold setFanDuty
  simp

/-- `recomputeFan` changes nothing but the state of HFD. -/
@[simp] theorem recomputeFan_keeps (s : State) :
      (recomputeFan s).powered = s.powered ∧
      (recomputeFan s).tick = s.tick ∧
      (recomputeFan s).tmu = s.tmu ∧
      (recomputeFan s).znc = s.znc ∧
      (recomputeFan s).mbs = s.mbs ∧
      (recomputeFan s).rhs = s.rhs ∧
      (recomputeFan s).tsu = s.tsu ∧
      (recomputeFan s).keq = s.keq ∧
      (recomputeFan s).pog = s.pog ∧
      (recomputeFan s).fcl = s.fcl ∧
      (recomputeFan s).slp = s.slp ∧
      (recomputeFan s).tbs = s.tbs ∧
      (recomputeFan s).pending = s.pending := by
  unfold recomputeFan
  simp

/-- `syncDegraded` changes nothing but the state of ZNC. -/
@[simp] theorem syncDegraded_keeps (s : State) :
      (syncDegraded s).powered = s.powered ∧
      (syncDegraded s).tick = s.tick ∧
      (syncDegraded s).tmu = s.tmu ∧
      (syncDegraded s).hfd = s.hfd ∧
      (syncDegraded s).mbs = s.mbs ∧
      (syncDegraded s).rhs = s.rhs ∧
      (syncDegraded s).tsu = s.tsu ∧
      (syncDegraded s).keq = s.keq ∧
      (syncDegraded s).pog = s.pog ∧
      (syncDegraded s).fcl = s.fcl ∧
      (syncDegraded s).slp = s.slp ∧
      (syncDegraded s).tbs = s.tbs ∧
      (syncDegraded s).pending = s.pending := by
  unfold syncDegraded
  simp

/-- `handDemands` changes nothing but the state of HFD. -/
@[simp] theorem handDemands_keeps (railOn : Bool) (s : State) :
      (handDemands railOn s).powered = s.powered ∧
      (handDemands railOn s).tick = s.tick ∧
      (handDemands railOn s).tmu = s.tmu ∧
      (handDemands railOn s).znc = s.znc ∧
      (handDemands railOn s).mbs = s.mbs ∧
      (handDemands railOn s).rhs = s.rhs ∧
      (handDemands railOn s).tsu = s.tsu ∧
      (handDemands railOn s).keq = s.keq ∧
      (handDemands railOn s).pog = s.pog ∧
      (handDemands railOn s).fcl = s.fcl ∧
      (handDemands railOn s).slp = s.slp ∧
      (handDemands railOn s).tbs = s.tbs ∧
      (handDemands railOn s).pending = s.pending := by
  unfold handDemands
  simp

/-- `drivePins` changes nothing but the state of POG. -/
@[simp] theorem drivePins_keeps (s : State) :
      (drivePins s).powered = s.powered ∧
      (drivePins s).tick = s.tick ∧
      (drivePins s).tmu = s.tmu ∧
      (drivePins s).hfd = s.hfd ∧
      (drivePins s).znc = s.znc ∧
      (drivePins s).mbs = s.mbs ∧
      (drivePins s).rhs = s.rhs ∧
      (drivePins s).tsu = s.tsu ∧
      (drivePins s).keq = s.keq ∧
      (drivePins s).fcl = s.fcl ∧
      (drivePins s).slp = s.slp ∧
      (drivePins s).tbs = s.tbs ∧
      (drivePins s).pending = s.pending := by
  unfold drivePins
  simp

/-- `loadRestartDefaults` changes nothing but the state of POG. -/
@[simp] theorem loadRestartDefaults_keeps (s : State) :
      (loadRestartDefaults s).powered = s.powered ∧
      (loadRestartDefaults s).tick = s.tick ∧
      (loadRestartDefaults s).tmu = s.tmu ∧
      (loadRestartDefaults s).hfd = s.hfd ∧
      (loadRestartDefaults s).znc = s.znc ∧
      (loadRestartDefaults s).mbs = s.mbs ∧
      (loadRestartDefaults s).rhs = s.rhs ∧
      (loadRestartDefaults s).tsu = s.tsu ∧
      (loadRestartDefaults s).keq = s.keq ∧
      (loadRestartDefaults s).fcl = s.fcl ∧
      (loadRestartDefaults s).slp = s.slp ∧
      (loadRestartDefaults s).tbs = s.tbs ∧
      (loadRestartDefaults s).pending = s.pending := by
  unfold loadRestartDefaults
  simp

/-- `syncChords` changes nothing but the state of KEQ. -/
@[simp] theorem syncChords_keeps (s : State) :
      (syncChords s).powered = s.powered ∧
      (syncChords s).tick = s.tick ∧
      (syncChords s).tmu = s.tmu ∧
      (syncChords s).hfd = s.hfd ∧
      (syncChords s).znc = s.znc ∧
      (syncChords s).mbs = s.mbs ∧
      (syncChords s).rhs = s.rhs ∧
      (syncChords s).tsu = s.tsu ∧
      (syncChords s).pog = s.pog ∧
      (syncChords s).fcl = s.fcl ∧
      (syncChords s).slp = s.slp ∧
      (syncChords s).tbs = s.tbs ∧
      (syncChords s).pending = s.pending := by
  unfold syncChords
  simp

/-- `updKey` changes nothing but the state of KEQ. -/
@[simp] theorem updKey_keeps (c : Fin 20) (f : MappedKey → MappedKey) (s : State) :
      (updKey c f s).powered = s.powered ∧
      (updKey c f s).tick = s.tick ∧
      (updKey c f s).tmu = s.tmu ∧
      (updKey c f s).hfd = s.hfd ∧
      (updKey c f s).znc = s.znc ∧
      (updKey c f s).mbs = s.mbs ∧
      (updKey c f s).rhs = s.rhs ∧
      (updKey c f s).tsu = s.tsu ∧
      (updKey c f s).pog = s.pog ∧
      (updKey c f s).fcl = s.fcl ∧
      (updKey c f s).slp = s.slp ∧
      (updKey c f s).tbs = s.tbs ∧
      (updKey c f s).pending = s.pending := by
  unfold updKey
  simp

/-- `offerKeyUp` changes nothing but the state of KEQ, SLP. -/
@[simp] theorem offerKeyUp_keeps (c : Fin 20) (cause : Cause) (s : State) :
      (offerKeyUp c cause s).powered = s.powered ∧
      (offerKeyUp c cause s).tick = s.tick ∧
      (offerKeyUp c cause s).tmu = s.tmu ∧
      (offerKeyUp c cause s).hfd = s.hfd ∧
      (offerKeyUp c cause s).znc = s.znc ∧
      (offerKeyUp c cause s).mbs = s.mbs ∧
      (offerKeyUp c cause s).rhs = s.rhs ∧
      (offerKeyUp c cause s).tsu = s.tsu ∧
      (offerKeyUp c cause s).pog = s.pog ∧
      (offerKeyUp c cause s).fcl = s.fcl ∧
      (offerKeyUp c cause s).tbs = s.tbs ∧
      (offerKeyUp c cause s).pending = s.pending := by
  unfold offerKeyUp
  (repeat' split) <;> simp

/-- `releaseTransition` changes nothing but the state of KEQ, SLP. -/
@[simp] theorem releaseTransition_keeps (c : Fin 20) (cause : Cause) (s : State) :
      (releaseTransition c cause s).powered = s.powered ∧
      (releaseTransition c cause s).tick = s.tick ∧
      (releaseTransition c cause s).tmu = s.tmu ∧
      (releaseTransition c cause s).hfd = s.hfd ∧
      (releaseTransition c cause s).znc = s.znc ∧
      (releaseTransition c cause s).mbs = s.mbs ∧
      (releaseTransition c cause s).rhs = s.rhs ∧
      (releaseTransition c cause s).tsu = s.tsu ∧
      (releaseTransition c cause s).pog = s.pog ∧
      (releaseTransition c cause s).fcl = s.fcl ∧
      (releaseTransition c cause s).tbs = s.tbs ∧
      (releaseTransition c cause s).pending = s.pending := by
  unfold releaseTransition
  (repeat' split) <;> simp

/-- `releaseAll` changes nothing but the state of KEQ, SLP. -/
@[simp] theorem releaseAll_keeps (cs : List (Fin 20)) (cause : Cause) (s : State) :
      (releaseAll cs cause s).powered = s.powered ∧
      (releaseAll cs cause s).tick = s.tick ∧
      (releaseAll cs cause s).tmu = s.tmu ∧
      (releaseAll cs cause s).hfd = s.hfd ∧
      (releaseAll cs cause s).znc = s.znc ∧
      (releaseAll cs cause s).mbs = s.mbs ∧
      (releaseAll cs cause s).rhs = s.rhs ∧
      (releaseAll cs cause s).tsu = s.tsu ∧
      (releaseAll cs cause s).pog = s.pog ∧
      (releaseAll cs cause s).fcl = s.fcl ∧
      (releaseAll cs cause s).tbs = s.tbs ∧
      (releaseAll cs cause s).pending = s.pending := by
  unfold releaseAll
  induction cs generalizing s with
  | nil => simp
  | cons c cs ih => simpa using ih (releaseTransition c cause s)

/-- `rescan` changes nothing but the state of TSU, KEQ, SLP. -/
@[simp] theorem rescan_keeps (mode : ScanMode) (s : State) :
      (rescan mode s).powered = s.powered ∧
      (rescan mode s).tick = s.tick ∧
      (rescan mode s).tmu = s.tmu ∧
      (rescan mode s).hfd = s.hfd ∧
      (rescan mode s).znc = s.znc ∧
      (rescan mode s).mbs = s.mbs ∧
      (rescan mode s).rhs = s.rhs ∧
      (rescan mode s).pog = s.pog ∧
      (rescan mode s).fcl = s.fcl ∧
      (rescan mode s).tbs = s.tbs ∧
      (rescan mode s).pending = s.pending := by
  unfold rescan
  simp

/-- `flush` changes nothing but the state of KEQ. -/
@[simp] theorem flush_keeps (s : State) :
      (flush s).powered = s.powered ∧
      (flush s).tick = s.tick ∧
      (flush s).tmu = s.tmu ∧
      (flush s).hfd = s.hfd ∧
      (flush s).znc = s.znc ∧
      (flush s).mbs = s.mbs ∧
      (flush s).rhs = s.rhs ∧
      (flush s).tsu = s.tsu ∧
      (flush s).pog = s.pog ∧
      (flush s).fcl = s.fcl ∧
      (flush s).slp = s.slp ∧
      (flush s).tbs = s.tbs ∧
      (flush s).pending = s.pending := by
  unfold flush
  simp

/-- `clearIdleSuppressed` changes nothing but the state of KEQ. -/
@[simp] theorem clearIdleSuppressed_keeps (s : State) :
      (clearIdleSuppressed s).powered = s.powered ∧
      (clearIdleSuppressed s).tick = s.tick ∧
      (clearIdleSuppressed s).tmu = s.tmu ∧
      (clearIdleSuppressed s).hfd = s.hfd ∧
      (clearIdleSuppressed s).znc = s.znc ∧
      (clearIdleSuppressed s).mbs = s.mbs ∧
      (clearIdleSuppressed s).rhs = s.rhs ∧
      (clearIdleSuppressed s).tsu = s.tsu ∧
      (clearIdleSuppressed s).pog = s.pog ∧
      (clearIdleSuppressed s).fcl = s.fcl ∧
      (clearIdleSuppressed s).slp = s.slp ∧
      (clearIdleSuppressed s).tbs = s.tbs ∧
      (clearIdleSuppressed s).pending = s.pending := by
  unfold clearIdleSuppressed
  simp

/-- `setRecord` changes nothing but the state of FCL. -/
@[simp] theorem setRecord_keeps (k : FaultKind) (r : FaultRecord) (s : State) :
      (setRecord k r s).powered = s.powered ∧
      (setRecord k r s).tick = s.tick ∧
      (setRecord k r s).tmu = s.tmu ∧
      (setRecord k r s).hfd = s.hfd ∧
      (setRecord k r s).znc = s.znc ∧
      (setRecord k r s).mbs = s.mbs ∧
      (setRecord k r s).rhs = s.rhs ∧
      (setRecord k r s).tsu = s.tsu ∧
      (setRecord k r s).keq = s.keq ∧
      (setRecord k r s).pog = s.pog ∧
      (setRecord k r s).slp = s.slp ∧
      (setRecord k r s).tbs = s.tbs ∧
      (setRecord k r s).pending = s.pending := by
  unfold setRecord
  simp

/-- `rejudge` changes nothing but the state of FCL. -/
@[simp] theorem rejudge_keeps (s : State) :
      (rejudge s).powered = s.powered ∧
      (rejudge s).tick = s.tick ∧
      (rejudge s).tmu = s.tmu ∧
      (rejudge s).hfd = s.hfd ∧
      (rejudge s).znc = s.znc ∧
      (rejudge s).mbs = s.mbs ∧
      (rejudge s).rhs = s.rhs ∧
      (rejudge s).tsu = s.tsu ∧
      (rejudge s).keq = s.keq ∧
      (rejudge s).pog = s.pog ∧
      (rejudge s).slp = s.slp ∧
      (rejudge s).tbs = s.tbs ∧
      (rejudge s).pending = s.pending := by
  unfold rejudge
  simp

/-- `recordOccurrence` changes nothing but the state of FCL, KEQ, SLP. -/
@[simp] theorem recordOccurrence_keeps (k : FaultKind) (detail : Nat) (s : State) :
      (recordOccurrence k detail s).powered = s.powered ∧
      (recordOccurrence k detail s).tick = s.tick ∧
      (recordOccurrence k detail s).tmu = s.tmu ∧
      (recordOccurrence k detail s).hfd = s.hfd ∧
      (recordOccurrence k detail s).znc = s.znc ∧
      (recordOccurrence k detail s).mbs = s.mbs ∧
      (recordOccurrence k detail s).rhs = s.rhs ∧
      (recordOccurrence k detail s).tsu = s.tsu ∧
      (recordOccurrence k detail s).pog = s.pog ∧
      (recordOccurrence k detail s).tbs = s.tbs ∧
      (recordOccurrence k detail s).pending = s.pending := by
  dsimp only [recordOccurrence]
  (repeat' split) <;> simp

/-- `railMoved` changes nothing but the state of HFD, TSU, KEQ, SLP. -/
@[simp] theorem railMoved_keeps (s : State) :
      (railMoved s).powered = s.powered ∧
      (railMoved s).tick = s.tick ∧
      (railMoved s).tmu = s.tmu ∧
      (railMoved s).znc = s.znc ∧
      (railMoved s).mbs = s.mbs ∧
      (railMoved s).rhs = s.rhs ∧
      (railMoved s).pog = s.pog ∧
      (railMoved s).fcl = s.fcl ∧
      (railMoved s).tbs = s.tbs ∧
      (railMoved s).pending = s.pending := by
  unfold railMoved
  simp

/-- `switchOn` changes nothing but the state of HFD, ZNC, MBS, TSU, KEQ, SLP. -/
@[simp] theorem switchOn_keeps (s : State) :
      (switchOn s).powered = s.powered ∧
      (switchOn s).tick = s.tick ∧
      (switchOn s).tmu = s.tmu ∧
      (switchOn s).rhs = s.rhs ∧
      (switchOn s).pog = s.pog ∧
      (switchOn s).fcl = s.fcl ∧
      (switchOn s).tbs = s.tbs ∧
      (switchOn s).pending = s.pending := by
  unfold switchOn
  simp

/-- `judgeRelease` changes nothing but the state of HFD, ZNC, MBS, TSU, KEQ, SLP. -/
@[simp] theorem judgeRelease_keeps (s : State) :
      (judgeRelease s).powered = s.powered ∧
      (judgeRelease s).tick = s.tick ∧
      (judgeRelease s).tmu = s.tmu ∧
      (judgeRelease s).rhs = s.rhs ∧
      (judgeRelease s).pog = s.pog ∧
      (judgeRelease s).fcl = s.fcl ∧
      (judgeRelease s).tbs = s.tbs ∧
      (judgeRelease s).pending = s.pending := by
  unfold judgeRelease
  (repeat' split) <;> simp

/-- `enterHeatHold` changes nothing but the state of HFD, ZNC, MBS, TSU, KEQ, SLP. -/
@[simp] theorem enterHeatHold_keeps (fresh : Bool) (s : State) :
      (enterHeatHold fresh s).powered = s.powered ∧
      (enterHeatHold fresh s).tick = s.tick ∧
      (enterHeatHold fresh s).tmu = s.tmu ∧
      (enterHeatHold fresh s).rhs = s.rhs ∧
      (enterHeatHold fresh s).pog = s.pog ∧
      (enterHeatHold fresh s).fcl = s.fcl ∧
      (enterHeatHold fresh s).tbs = s.tbs ∧
      (enterHeatHold fresh s).pending = s.pending := by
  unfold enterHeatHold
  (repeat' split) <;> simp

/-- `rejudgeRelease` changes nothing but the state of HFD, ZNC, MBS, TSU, KEQ, SLP, FCL. -/
@[simp] theorem rejudgeRelease_keeps (s : State) :
      (rejudgeRelease s).powered = s.powered ∧
      (rejudgeRelease s).tick = s.tick ∧
      (rejudgeRelease s).tmu = s.tmu ∧
      (rejudgeRelease s).rhs = s.rhs ∧
      (rejudgeRelease s).pog = s.pog ∧
      (rejudgeRelease s).tbs = s.tbs ∧
      (rejudgeRelease s).pending = s.pending := by
  unfold rejudgeRelease
  (repeat' split) <;> simp

/-- `conditionChanged` changes nothing but the state of HFD, ZNC, MBS, TSU, KEQ, SLP, FCL. -/
@[simp] theorem conditionChanged_keeps (k : FaultKind) (s : State) :
      (conditionChanged k s).powered = s.powered ∧
      (conditionChanged k s).tick = s.tick ∧
      (conditionChanged k s).tmu = s.tmu ∧
      (conditionChanged k s).rhs = s.rhs ∧
      (conditionChanged k s).pog = s.pog ∧
      (conditionChanged k s).tbs = s.tbs ∧
      (conditionChanged k s).pending = s.pending := by
  dsimp only [conditionChanged]
  (repeat' split) <;> simp

/-- `departCommon` changes nothing but the state of KEQ, RHS, HFD, MBS. -/
@[simp] theorem departCommon_keeps (cause : Cause) (detail : Nat) (stage : Stage) (s : State) :
      (departCommon cause detail stage s).powered = s.powered ∧
      (departCommon cause detail stage s).tick = s.tick ∧
      (departCommon cause detail stage s).tmu = s.tmu ∧
      (departCommon cause detail stage s).znc = s.znc ∧
      (departCommon cause detail stage s).tsu = s.tsu ∧
      (departCommon cause detail stage s).pog = s.pog ∧
      (departCommon cause detail stage s).fcl = s.fcl ∧
      (departCommon cause detail stage s).slp = s.slp ∧
      (departCommon cause detail stage s).tbs = s.tbs ∧
      (departCommon cause detail stage s).pending = s.pending := by
  unfold departCommon
  simp

/-- `switchOff` changes nothing but the state of HFD, MBS, TSU, KEQ, SLP. -/
@[simp] theorem switchOff_keeps (new : MbsState) (s : State) :
      (switchOff new s).powered = s.powered ∧
      (switchOff new s).tick = s.tick ∧
      (switchOff new s).tmu = s.tmu ∧
      (switchOff new s).znc = s.znc ∧
      (switchOff new s).rhs = s.rhs ∧
      (switchOff new s).pog = s.pog ∧
      (switchOff new s).fcl = s.fcl ∧
      (switchOff new s).tbs = s.tbs ∧
      (switchOff new s).pending = s.pending := by
  unfold switchOff
  (repeat' split) <;> simp

/-- `depart` changes nothing but the state of KEQ, RHS, HFD, MBS, TSU, SLP. -/
@[simp] theorem depart_keeps (cause : Cause) (detail : Nat) (stage : Stage) (s : State) :
      (depart cause detail stage s).powered = s.powered ∧
      (depart cause detail stage s).tick = s.tick ∧
      (depart cause detail stage s).tmu = s.tmu ∧
      (depart cause detail stage s).znc = s.znc ∧
      (depart cause detail stage s).pog = s.pog ∧
      (depart cause detail stage s).fcl = s.fcl ∧
      (depart cause detail stage s).tbs = s.tbs ∧
      (depart cause detail stage s).pending = s.pending := by
  unfold depart
  (repeat' split) <;> simp

/-- `restartDecision` changes nothing but the state of KEQ, RHS, HFD, MBS, TSU, SLP, FCL. -/
@[simp] theorem restartDecision_keeps (cause : Cause) (detail : Nat) (s : State) :
      (restartDecision cause detail s).powered = s.powered ∧
      (restartDecision cause detail s).tick = s.tick ∧
      (restartDecision cause detail s).tmu = s.tmu ∧
      (restartDecision cause detail s).znc = s.znc ∧
      (restartDecision cause detail s).pog = s.pog ∧
      (restartDecision cause detail s).tbs = s.tbs ∧
      (restartDecision cause detail s).pending = s.pending := by
  dsimp only [restartDecision]
  (repeat' split) <;> simp

/-- `requestedRestart` changes nothing but the state of KEQ, RHS, HFD, MBS, TSU, SLP. -/
@[simp] theorem requestedRestart_keeps (cause : Cause) (detail : Nat) (stage : Stage) (s : State) :
      (requestedRestart cause detail stage s).powered = s.powered ∧
      (requestedRestart cause detail stage s).tick = s.tick ∧
      (requestedRestart cause detail stage s).tmu = s.tmu ∧
      (requestedRestart cause detail stage s).znc = s.znc ∧
      (requestedRestart cause detail stage s).pog = s.pog ∧
      (requestedRestart cause detail stage s).fcl = s.fcl ∧
      (requestedRestart cause detail stage s).tbs = s.tbs ∧
      (requestedRestart cause detail stage s).pending = s.pending := by
  unfold requestedRestart
  (repeat' split) <;> simp

/-- `report` changes nothing but the state of KEQ, RHS, HFD, MBS, TSU, SLP, FCL. -/
@[simp] theorem report_keeps (k : FaultKind) (detail : Nat) (s : State) :
      (report k detail s).powered = s.powered ∧
      (report k detail s).tick = s.tick ∧
      (report k detail s).tmu = s.tmu ∧
      (report k detail s).znc = s.znc ∧
      (report k detail s).pog = s.pog ∧
      (report k detail s).tbs = s.tbs ∧
      (report k detail s).pending = s.pending := by
  unfold report
  (repeat' split) <;> simp

/-- `reportAll` changes nothing but the state of KEQ, RHS, HFD, MBS, TSU, SLP, FCL. -/
@[simp] theorem reportAll_keeps (k : FaultKind) (details : List Nat) (s : State) :
      (reportAll k details s).powered = s.powered ∧
      (reportAll k details s).tick = s.tick ∧
      (reportAll k details s).tmu = s.tmu ∧
      (reportAll k details s).znc = s.znc ∧
      (reportAll k details s).pog = s.pog ∧
      (reportAll k details s).tbs = s.tbs ∧
      (reportAll k details s).pending = s.pending := by
  unfold reportAll
  induction details generalizing s with
  | nil => simp
  | cons d ds ih => simpa using ih (report k d s)

/-- `pushWake` changes nothing but the state of RHS. -/
@[simp] theorem pushWake_keeps (cause : Cause) (detail : Nat) (stage : Stage) (fromState : MbsState) (s : State) :
      (pushWake cause detail stage fromState s).powered = s.powered ∧
      (pushWake cause detail stage fromState s).tick = s.tick ∧
      (pushWake cause detail stage fromState s).tmu = s.tmu ∧
      (pushWake cause detail stage fromState s).hfd = s.hfd ∧
      (pushWake cause detail stage fromState s).znc = s.znc ∧
      (pushWake cause detail stage fromState s).mbs = s.mbs ∧
      (pushWake cause detail stage fromState s).tsu = s.tsu ∧
      (pushWake cause detail stage fromState s).keq = s.keq ∧
      (pushWake cause detail stage fromState s).pog = s.pog ∧
      (pushWake cause detail stage fromState s).fcl = s.fcl ∧
      (pushWake cause detail stage fromState s).slp = s.slp ∧
      (pushWake cause detail stage fromState s).tbs = s.tbs ∧
      (pushWake cause detail stage fromState s).pending = s.pending := by
  unfold pushWake
  simp

/-- `wake` changes nothing but the state of HFD, ZNC, MBS, RHS, TSU, KEQ, SLP. -/
@[simp] theorem wake_keeps (cause : Cause) (detail : Nat) (s : State) :
      (wake cause detail s).powered = s.powered ∧
      (wake cause detail s).tick = s.tick ∧
      (wake cause detail s).tmu = s.tmu ∧
      (wake cause detail s).pog = s.pog ∧
      (wake cause detail s).fcl = s.fcl ∧
      (wake cause detail s).tbs = s.tbs ∧
      (wake cause detail s).pending = s.pending := by
  unfold wake
  (repeat' split) <;> simp

/-- `wakeKey` changes nothing but the state of HFD, ZNC, MBS, RHS, TSU, KEQ, SLP. -/
@[simp] theorem wakeKey_keeps (c : Fin 20) (s : State) :
      (wakeKey c s).powered = s.powered ∧
      (wakeKey c s).tick = s.tick ∧
      (wakeKey c s).tmu = s.tmu ∧
      (wakeKey c s).pog = s.pog ∧
      (wakeKey c s).fcl = s.fcl ∧
      (wakeKey c s).tbs = s.tbs ∧
      (wakeKey c s).pending = s.pending := by
  unfold wakeKey
  (repeat' split) <;> simp

/-- `powerOnChord` changes nothing but the state of HFD, ZNC, MBS, RHS, TSU, KEQ, SLP. -/
@[simp] theorem powerOnChord_keeps (i : Fin 8) (s : State) :
      (powerOnChord i s).powered = s.powered ∧
      (powerOnChord i s).tick = s.tick ∧
      (powerOnChord i s).tmu = s.tmu ∧
      (powerOnChord i s).pog = s.pog ∧
      (powerOnChord i s).fcl = s.fcl ∧
      (powerOnChord i s).tbs = s.tbs ∧
      (powerOnChord i s).pending = s.pending := by
  unfold powerOnChord
  (repeat' split) <;> simp

/-- `enterOff` changes nothing but the state of HFD, ZNC, MBS. -/
@[simp] theorem enterOff_keeps (s : State) :
      (enterOff s).powered = s.powered ∧
      (enterOff s).tick = s.tick ∧
      (enterOff s).tmu = s.tmu ∧
      (enterOff s).rhs = s.rhs ∧
      (enterOff s).tsu = s.tsu ∧
      (enterOff s).keq = s.keq ∧
      (enterOff s).pog = s.pog ∧
      (enterOff s).fcl = s.fcl ∧
      (enterOff s).slp = s.slp ∧
      (enterOff s).tbs = s.tbs ∧
      (enterOff s).pending = s.pending := by
  unfold enterOff
  simp

/-- `powerOffChord` changes nothing but the state of HFD, ZNC, MBS, RHS, TSU, KEQ, SLP. -/
@[simp] theorem powerOffChord_keeps (i : Fin 8) (s : State) :
      (powerOffChord i s).powered = s.powered ∧
      (powerOffChord i s).tick = s.tick ∧
      (powerOffChord i s).tmu = s.tmu ∧
      (powerOffChord i s).pog = s.pog ∧
      (powerOffChord i s).fcl = s.fcl ∧
      (powerOffChord i s).tbs = s.tbs ∧
      (powerOffChord i s).pending = s.pending := by
  unfold powerOffChord
  (repeat' split) <;> simp

/-- `enterBoot` changes nothing but the state of MBS, TBS, POG, KEQ, SLP. -/
@[simp] theorem enterBoot_keeps (s : State) :
      (enterBoot s).powered = s.powered ∧
      (enterBoot s).tick = s.tick ∧
      (enterBoot s).tmu = s.tmu ∧
      (enterBoot s).hfd = s.hfd ∧
      (enterBoot s).znc = s.znc ∧
      (enterBoot s).rhs = s.rhs ∧
      (enterBoot s).tsu = s.tsu ∧
      (enterBoot s).fcl = s.fcl ∧
      (enterBoot s).pending = s.pending := by
  unfold enterBoot
  simp

/-- `enterRun` changes nothing but the state of MBS, HFD, SLP, KEQ. -/
@[simp] theorem enterRun_keeps (s : State) :
      (enterRun s).powered = s.powered ∧
      (enterRun s).tick = s.tick ∧
      (enterRun s).tmu = s.tmu ∧
      (enterRun s).znc = s.znc ∧
      (enterRun s).rhs = s.rhs ∧
      (enterRun s).tsu = s.tsu ∧
      (enterRun s).pog = s.pog ∧
      (enterRun s).fcl = s.fcl ∧
      (enterRun s).tbs = s.tbs ∧
      (enterRun s).pending = s.pending := by
  unfold enterRun
  simp

/-- `enterWarn` changes nothing but the state of MBS, SLP, KEQ. -/
@[simp] theorem enterWarn_keeps (s : State) :
      (enterWarn s).powered = s.powered ∧
      (enterWarn s).tick = s.tick ∧
      (enterWarn s).tmu = s.tmu ∧
      (enterWarn s).hfd = s.hfd ∧
      (enterWarn s).znc = s.znc ∧
      (enterWarn s).rhs = s.rhs ∧
      (enterWarn s).tsu = s.tsu ∧
      (enterWarn s).pog = s.pog ∧
      (enterWarn s).fcl = s.fcl ∧
      (enterWarn s).tbs = s.tbs ∧
      (enterWarn s).pending = s.pending := by
  unfold enterWarn
  simp

/-- `handRelease` changes nothing but the state of HFD, ZNC, MBS, TSU, KEQ, SLP. -/
@[simp] theorem handRelease_keeps (r : Bool) (s : State) :
      (handRelease r s).powered = s.powered ∧
      (handRelease r s).tick = s.tick ∧
      (handRelease r s).tmu = s.tmu ∧
      (handRelease r s).rhs = s.rhs ∧
      (handRelease r s).pog = s.pog ∧
      (handRelease r s).fcl = s.fcl ∧
      (handRelease r s).tbs = s.tbs ∧
      (handRelease r s).pending = s.pending := by
  unfold handRelease
  simp

/-- `offerKeyDown` changes nothing but the state of KEQ, SLP. -/
@[simp] theorem offerKeyDown_keeps (c : Fin 20) (s : State) :
      (offerKeyDown c s).powered = s.powered ∧
      (offerKeyDown c s).tick = s.tick ∧
      (offerKeyDown c s).tmu = s.tmu ∧
      (offerKeyDown c s).hfd = s.hfd ∧
      (offerKeyDown c s).znc = s.znc ∧
      (offerKeyDown c s).mbs = s.mbs ∧
      (offerKeyDown c s).rhs = s.rhs ∧
      (offerKeyDown c s).tsu = s.tsu ∧
      (offerKeyDown c s).pog = s.pog ∧
      (offerKeyDown c s).fcl = s.fcl ∧
      (offerKeyDown c s).tbs = s.tbs ∧
      (offerKeyDown c s).pending = s.pending := by
  dsimp only [offerKeyDown]
  (repeat' split) <;> simp

/-- `touchTransition` changes nothing but the state of HFD, ZNC, MBS, RHS, TSU, KEQ, SLP. -/
@[simp] theorem touchTransition_keeps (c : Fin 20) (s : State) :
      (touchTransition c s).powered = s.powered ∧
      (touchTransition c s).tick = s.tick ∧
      (touchTransition c s).tmu = s.tmu ∧
      (touchTransition c s).pog = s.pog ∧
      (touchTransition c s).fcl = s.fcl ∧
      (touchTransition c s).tbs = s.tbs ∧
      (touchTransition c s).pending = s.pending := by
  dsimp only [touchTransition]
  (repeat' split) <;> simp

/-- `rxTaken` changes nothing but the state of SLP. -/
@[simp] theorem rxTaken_keeps (s : State) :
      (rxTaken s).powered = s.powered ∧
      (rxTaken s).tick = s.tick ∧
      (rxTaken s).tmu = s.tmu ∧
      (rxTaken s).hfd = s.hfd ∧
      (rxTaken s).znc = s.znc ∧
      (rxTaken s).mbs = s.mbs ∧
      (rxTaken s).rhs = s.rhs ∧
      (rxTaken s).tsu = s.tsu ∧
      (rxTaken s).keq = s.keq ∧
      (rxTaken s).pog = s.pog ∧
      (rxTaken s).fcl = s.fcl ∧
      (rxTaken s).tbs = s.tbs ∧
      (rxTaken s).pending = s.pending := by
  unfold rxTaken
  simp

end Sys2Proof.Machine
end

