-- ==== Sys2Proof/Laws/Ops.lean ====
section
/-! SUPPORT. What each shared operation does, said once: the lemmas to cite in place of unfolding it. -/

namespace Sys2Proof.Machine

/-! Time -/

@[simp] theorem elapse_zero (s : State) : elapse 0 s = s := rfl

/-- Time that passes is counted. -/
@[simp] theorem elapse_tick (n : Nat) (s : State) : (elapse n s).tick = s.tick + n := by
  unfold elapse; split <;> simp_all

/-- No ticks change no timer of the supervisor. -/
theorem Mbs.elapse_zero (m : Mbs) : m.elapse 0 = m := by
  cases m; simp [Mbs.elapse]

/-- The supervisor's timers fall by the ticks that pass. -/
@[simp] theorem elapse_mbs (n : Nat) (s : State) : (elapse n s).mbs = s.mbs.elapse n := by
  unfold elapse; split
  · rename_i h; subst h; exact (Mbs.elapse_zero _).symm
  · rfl

/-- Time moves the since-last-entry counter of the history and nothing else of it. -/
@[simp] theorem elapse_rhs (n : Nat) (s : State) :
    (elapse n s).rhs.entries = s.rhs.entries ∧ (elapse n s).rhs.nextOrdinal = s.rhs.nextOrdinal := by
  unfold elapse; split <;> simp

/-- Time moves no record of the event queue. -/
@[simp] theorem elapse_queue (n : Nat) (s : State) : (elapse n s).keq.queue = s.keq.queue := by
  unfold elapse; split <;> simp

/-- Time moves the stall timer of the fan and nothing else of the drivers. -/
theorem elapse_hfd (n : Nat) (s : State) : (elapse n s).hfd = { s.hfd with stall := (elapse n s).hfd.stall } := by
  unfold elapse; split <;> simp

/-- Time moves the stuck timers and nothing else of the touch unit. -/
@[simp] theorem elapse_tsu (n : Nat) (s : State) :
    (elapse n s).tsu.mode = s.tsu.mode ∧ (elapse n s).tsu.refs = s.tsu.refs ∧
      (elapse n s).tsu.disagreement = s.tsu.disagreement ∧ (elapse n s).tsu.guarded = s.tsu.guarded := by
  unfold elapse; split <;> simp

/-! Expiries -/

/-- Time lowers every running timer of the supervisor and starts or stops none. -/
theorem boardExpiries_elapse {e : BoardExpiry} (he : e ∈ boardExpiries) (n : Nat) (m : Mbs) :
    e.timer (m.elapse n) = (e.timer m).map (· - n) := by
  simp only [boardExpiries, List.mem_cons, List.not_mem_nil, or_false] at he
  rcases he with rfl | rfl | rfl | rfl | rfl | rfl | rfl <;> try rfl
  by_cases h : m.state = .powering ∧ m.pgRunning = true
  · simp [runningPgTimer, Mbs.elapse, h]
  · simp [runningPgTimer, Mbs.elapse, h]

/-- Nothing settles where no other timer of the supervisor has run out. -/
theorem settle_none (c : Instr) (u t : State)
    (h : ∀ e ∈ boardExpiries, e.cmd ≠ c → e.timer u.mbs ≠ some 0) : settle c u t = t := by
  unfold settle
  generalize boardExpiries = l at h
  induction l generalizing t with
  | nil => rfl
  | cons e l ih =>
    rw [List.foldl_cons, if_neg fun hc => h e (by simp) hc.1 hc.2.1]
    exact ih t fun e he => h e (by simp [he])

/-- A stopped timer never expires. -/
@[simp] theorem expire_none (c : Instr) (act : State → State) (s : State) : expire c none act s = s := rfl

/-- No event comes before one that falls due earlier. -/
theorem expire_later (c : Instr) (n : Nat) (act : State → State) (s : State) (h : nothingBefore n s = false) :
    expire c (some n) act s = s := by simp [expire, h]

/-- An event that alone falls due within the ticks it has left acts once they have passed. -/
theorem expire_alone (c : Instr) (n : Nat) (act : State → State) (s : State) (h : onlyDue c n s = true)
    (own : ∀ e ∈ ownEvents s, e.1 = c → e.2 = some n) : expire c (some n) act s = act (elapse n s) := by
  have hd : ∀ e ∈ ownEvents s, e.1 ≠ c → dueWithin n e = false := fun e he hc => by
    have := List.all_eq_true.1 h e he
    simpa [hc] using this
  have hb : nothingBefore n s = true := by
    unfold nothingBefore
    by_cases h0 : n = 0
    · simp [h0]
    · simp only [Bool.or_eq_true, List.all_eq_true]
      refine .inr fun e he => ?_
      by_cases hc : e.1 = c
      · simp [dueWithin, own e he hc]; omega
      · have := hd e he hc
        revert this
        unfold dueWithin
        cases e.2 <;> simp
        omega
  simp only [expire, hb, if_true]
  refine settle_none c _ _ fun e he hc => ?_
  rw [elapse_mbs, boardExpiries_elapse he]
  have := hd (e.cmd, e.timer s.mbs) (by
    simp only [ownEvents, List.mem_append, List.mem_map]
    exact .inl (.inl (.inl (.inr ⟨e, he, rfl⟩)))) hc
  revert this
  unfold dueWithin
  cases e.timer s.mbs <;> simp
  omega

/-- When each of the part's own events falls due. -/
theorem ownEvents_left (s : State) (e : Instr × Option Nat) (he : e ∈ ownEvents s) :
    (e.1 = .pendingShutdownExpiry → e.2 = s.mbs.shutdown) ∧ (e.1 = .pgTimeout → e.2 = runningPgTimer s.mbs) ∧
    (e.1 = .resetPulseExpiry → e.2 = s.mbs.resetTimer) ∧ (e.1 = .bootTimeout → e.2 = s.mbs.bootTimer) ∧
    (e.1 = .heartbeatExpiry → e.2 = s.mbs.heartbeatTimer) ∧ (e.1 = .cycleTimerExpiry → e.2 = s.mbs.cycleTimer) ∧
    (e.1 = .lockoutRetryExpiry → e.2 = s.mbs.lockoutTimer) ∧ (e.1 = .stableTimeReached → e.2 = stableLeft s.mbs) ∧
    (e.1 = .stallTimerExpiry → e.2 = stallLeft s.hfd) ∧ (e.1 = .filterWindowEnd → e.2 = filterLeft s.hfd) ∧
    (∀ i, e.1 = .chordFire i → e.2 = chordLeft s i) ∧ (∀ c, e.1 = .repeatDue c → e.2 = repeatLeft s.keq.keys[c]) ∧
    ∀ c, e.1 ≠ .stuckTimerExpiry c := by
  have hs : ∀ c, dueSample s.mbs = some c → c = .mainPgHigh ∨ c = .powerGoodLoss := by
    intro c; unfold dueSample; split <;> split <;> simp_all
  simp only [ownEvents, boardExpiries, List.map_cons, List.map_nil, List.mem_append, List.mem_map, List.mem_cons,
    List.not_mem_nil, or_false, Option.mem_toList] at he
  rcases he with (((⟨c, hc, rfl⟩ | rfl | rfl | rfl | rfl | rfl | rfl | rfl) | rfl | rfl | rfl) | ⟨i, -, rfl⟩) | ⟨i, -, rfl⟩
  · rcases hs c hc with rfl | rfl <;> simp
  all_goals simp

/-! Transmitter and replies -/

/-- The transmitter's choice: nothing while it is busy; else the reply, else the oldest record in RUN or WARN. -/
theorem kickTx_cases (s : State) :
    kickTx s = s ∨
    (s.slp.tx = .idle ∧ ∃ f, s.slp.reply = some f ∧ kickTx s = s.setSlp { s.slp with tx := .reply f.bytes }) ∨
    (s.slp.tx = .idle ∧ s.slp.reply = none ∧ s.mbs.state.sendsEvents = true ∧ ∃ e rest, s.keq.queue = e :: rest ∧
      kickTx s = (s.setSlp { s.slp with tx := .event e.frame.bytes }).setKeq { s.keq with queue := rest }) := by
  unfold kickTx
  cases htx : s.slp.tx with
  | idle =>
    cases hr : s.slp.reply with
    | some f => exact .inr (.inl ⟨rfl, f, rfl, rfl⟩)
    | none =>
      cases hq : s.keq.queue with
      | nil => exact .inl rfl
      | cons e rest =>
        by_cases hm : s.mbs.state.sendsEvents = true
        · exact .inr (.inr ⟨rfl, rfl, hm, e, rest, rfl, by simp [hm]⟩)
        · exact .inl (by simp [hm])
  | reply bs => exact .inl rfl
  | event bs => exact .inl rfl

/-- A busy transmitter chooses nothing. -/
theorem kickTx_busy (s : State) (h : s.slp.tx ≠ .idle) : kickTx s = s := by
  rcases kickTx_cases s with h' | ⟨hi, -⟩ | ⟨hi, -⟩
  exacts [h', absurd hi h, absurd hi h]

/-- Outside RUN and WARN a transmitter without a reply to send takes nothing. -/
theorem kickTx_waits (s : State) (hr : s.slp.reply = none) (hm : s.mbs.state.sendsEvents = false) : kickTx s = s := by
  rcases kickTx_cases s with h | ⟨-, f, hf, -⟩ | ⟨-, -, h, -⟩
  exacts [h, by simp [hr] at hf, by simp [hm] at h]

/-- In RUN and WARN an idle transmitter without a reply to send takes the oldest record. -/
theorem kickTx_takes (s : State) (e : Event) (rest : List Event) (hi : s.slp.tx = .idle) (hr : s.slp.reply = none)
    (hm : s.mbs.state.sendsEvents = true) (hq : s.keq.queue = e :: rest) :
    kickTx s = (s.setSlp { s.slp with tx := .event e.frame.bytes }).setKeq { s.keq with queue := rest } := by
  simp [kickTx, hi, hr, hm, hq]

/-- The transmitter's choice takes no key or chord. -/
@[simp] theorem kickTx_keys (s : State) :
    (kickTx s).keq.keys = s.keq.keys ∧ (kickTx s).keq.chords = s.keq.chords := by
  rcases kickTx_cases s with h | ⟨-, f, -, h⟩ | ⟨-, -, -, e, rest, -, h⟩ <;> rw [h] <;> simp

/-- The transmitter's choice takes at most one record. -/
theorem kickTx_queue_length (s : State) : (kickTx s).keq.queue.length ≤ s.keq.queue.length := by
  rcases kickTx_cases s with h | ⟨-, f, -, h⟩ | ⟨-, -, -, e, rest, hq, h⟩ <;> rw [h] <;> simp_all

/-- A reply stands in the buffer, and an idle transmitter sends it. -/
theorem reply_slp (kind tag : Byte) (status : Status) (items : List Byte) (s : State) :
    (reply kind tag status items s).slp =
      { s.slp with
        reply := some ⟨replyKind kind, tag, byteOf status.code :: items⟩
        tx := match s.slp.tx with
          | .idle => .reply (Frame.bytes ⟨replyKind kind, tag, byteOf status.code :: items⟩)
          | t => t } := by
  unfold reply kickTx
  cases h : s.slp.tx <;> simp [h]

/-- The rest of the part does not see a reply being placed. -/
theorem reply_eq (kind tag : Byte) (status : Status) (items : List Byte) (s : State) :
    reply kind tag status items s = s.setSlp (reply kind tag status items s).slp := by
  unfold reply kickTx
  cases h : s.slp.tx <;> simp [h, State.setSlp]

/-- A request is discarded while the reply buffer is occupied. -/
theorem takeRequest_occupied (serve : State → State) (s : State) (h : s.slp.reply.isSome = true) :
    takeRequest serve s = report 0 4 (rxTaken s) := by simp [takeRequest, h]

/-- A request is served while the reply buffer is free. -/
theorem takeRequest_free (serve : State → State) (s : State) (h : s.slp.reply = none) :
    takeRequest serve s = serve (rxTaken s) := by simp [takeRequest, h]

/-! The event queue -/

/-- An admitted offer joins the queue as its newest record before the transmitter chooses. -/
theorem offer_admitted (e : Event) (s : State) (h : offerJudgement s e = .admitted) :
    offer e s = kickTx (s.setKeq { s.keq with queue := s.keq.queue ++ [e] }) := by simp [offer, h]

/-- A refused offer leaves the newest record marked. -/
theorem offer_refused (e : Event) (s : State) (h : offerJudgement s e = .refused) :
    offer e s = s.setKeq { s.keq with queue := markNewestLost s.keq.queue } := by simp [offer, h]

/-- A discarded offer changes nothing. -/
theorem offer_discarded (e : Event) (s : State) (h : offerJudgement s e = .discarded) : offer e s = s := by
  simp [offer, h]

/-- An offer is discarded in every state that does not judge offers. -/
theorem offerJudgement_discarded (e : Event) (s : State) (h : s.mbs.state.admits = false) :
    offerJudgement s e = .discarded := by simp [offerJudgement, h]

/-- An offer changes no key and no chord. -/
@[simp] theorem offer_keys (e : Event) (s : State) :
    (offer e s).keq.keys = s.keq.keys ∧ (offer e s).keq.chords = s.keq.chords := by
  unfold offer; split <;> simp

/-- Marking the newest record leaves the older ones. -/
@[simp] theorem markNewestLost_concat (q : List Event) (e : Event) :
    markNewestLost (q ++ [e]) = q ++ [{ e with lost := true }] := by
  induction q with
  | nil => rfl
  | cons x q ih => cases q <;> simp_all [markNewestLost]

/-- Marking the newest record keeps the number of records. -/
@[simp] theorem markNewestLost_length (q : List Event) : (markNewestLost q).length = q.length := by
  induction q using markNewestLost.induct <;> simp_all [markNewestLost]

/-! History -/

/-- A created entry stands at depth 0, with the next ordinal. -/
theorem pushHistory_rhs (body : HistoryBody) (s : State) :
    (pushHistory body s).rhs =
      ⟨(⟨s.rhs.nextOrdinal, s.tick % 65536, body⟩ :: s.rhs.entries).take Config.historyDepth,
        s.rhs.nextOrdinal + 1, 0⟩ := rfl

/-! Heaters -/

/-- A recomputation gives every channel its new duty and changes nothing else of it. -/
theorem recomputeDuties_channel (s : State) (i : Fin 3) :
    ((recomputeDuties s).hfd.channels[i]) = { s.hfd.channels[i] with applied := newDuty s i } := by
  simp [recomputeDuties]

/-- The effective demand does not read the applied duties. -/
@[simp] theorem effectiveDemand_recomputeDuties (s : State) (i : Fin 3) :
    effectiveDemand (recomputeDuties s) i = effectiveDemand s i := by
  simp [effectiveDemand, recomputeDuties, heatGated]

/-- A recomputation of duties just computed gives them again. -/
@[simp] theorem newDuty_recomputeDuties (s : State) (i : Fin 3) : newDuty (recomputeDuties s) i = newDuty s i := by
  have h : effectiveDemand (recomputeDuties s) = effectiveDemand s := funext (effectiveDemand_recomputeDuties s)
  simp only [newDuty, h]
  rfl

/-! The filter window -/

/-- A window judged loaded reports its F10 occurrence and is not due again. -/
theorem filterEnd_due (s : State) (d : Nat) (h : s.hfd.loadedFilter = some d) :
    filterEnd s = report 10 d (s.setHfd { s.hfd with loadedFilter := none }) := by
  simp [filterEnd, reportFilter, h]

/-- With no occurrence due the end of a window changes nothing. -/
theorem filterEnd_none (s : State) (h : s.hfd.loadedFilter = none) : filterEnd s = s := by
  cases s with
  | mk powered tick tmu hfd =>
    cases hfd
    simp_all [filterEnd, reportFilter, State.setHfd]

/-! Faults -/

/-- An occurrence moves its own record alone. -/
theorem recordOccurrence_records (k : FaultKind) (d : Nat) (s : State) :
    (recordOccurrence k d s).fcl.records =
      s.fcl.records.set k ((s.fcl.records[k]).occur k d (s.tick % 65536)) := by
  dsimp only [recordOccurrence]
  split
  · simp [setRecord, rejudge]
  · simp [setRecord, rejudge]

/-- A restart cause is absorbed outside POWERING, BOOT, RUN and WARN. -/
theorem restartDecision_absorbed (cause : Cause) (d : Nat) (s : State) (h : s.mbs.state.takesRestart = false) :
    restartDecision cause d s = s := by simp [restartDecision, h]

/-- A requested restart is absorbed there too. -/
theorem requestedRestart_absorbed (cause : Cause) (d : Nat) (stage : Stage) (s : State)
    (h : s.mbs.state.takesRestart = false) : requestedRestart cause d stage s = s := by simp [requestedRestart, h]

/-- A report without a restart records the occurrence. -/
theorem report_eq_record (k : FaultKind) (d : Nat) (s : State)
    (h : (s.fcl.records[k]).state ≠ .clear ∨ (reactionInForce s.tbs.tables k).restart = false) :
    report k d s = recordOccurrence k d s := by
  dsimp only [report]
  rw [if_neg]
  rintro ⟨h1, h2⟩
  rcases h with h | h
  · exact h h1
  · simp [h] at h2

/-! Keys and chords -/

/-- Every chord stands in the state that its members and the rail give it. -/
theorem syncChords_chord (s : State) (i : Fin 8) :
    ((syncChords s).keq.chords[i]) =
      chordNext (chordHeld s i) (conditionMatches s.mbs.pwrEn (s.tbs.tables.chords[i]).condition) s.keq.chords[i] := by
  simp [syncChords]

/-- Following the chords moves no key and no record. -/
@[simp] theorem syncChords_keys (s : State) :
    (syncChords s).keq.keys = s.keq.keys ∧ (syncChords s).keq.queue = s.keq.queue := ⟨rfl, rfl⟩

/-- A chord that is not due does not fire. -/
theorem fireIfDue_later (s : State) (j : Fin 8) (h : chordLeft s j ≠ some 0) : fireIfDue s j = s := by
  simp [fireIfDue, h]

/-- The chords below `i` fire before `i`, in ascending order. -/
theorem fireUpTo_eq (i : Fin 8) (s : State) :
    fireUpTo i s = fireIfDue (((List.finRange 8).filter (· < i)).foldl fireIfDue s) i := by
  have h : ∀ i : Fin 8, (List.finRange 8).filter (· ≤ i) = (List.finRange 8).filter (· < i) ++ [i] := by decide
  simp [fireUpTo, h i, List.foldl_append]

/-- Chords that are not due change nothing. -/
theorem foldl_fireIfDue_later (l : List (Fin 8)) (s : State) (h : ∀ j ∈ l, chordLeft s j ≠ some 0) :
    l.foldl fireIfDue s = s := by
  induction l with
  | nil => rfl
  | cons j l ih =>
    rw [List.foldl_cons, fireIfDue_later s j (h j (by simp))]
    exact ih fun k hk => h k (by simp [hk])

/-- A chord that alone is due among those up to it fires alone. -/
theorem fireUpTo_alone (i : Fin 8) (s : State) (hi : chordLeft s i = some 0)
    (h : ∀ j, j < i → chordLeft s j ≠ some 0) : fireUpTo i s = fireChord i s := by
  rw [fireUpTo_eq, foldl_fireIfDue_later _ _ fun j hj => h j (by simpa using (List.mem_filter.1 hj).2)]
  simp [fireIfDue, hi]

/-- The flush leaves an empty queue. -/
@[simp] theorem flush_queue (s : State) : (flush s).keq.queue = [] := rfl

/-- The scanned set is that of the mode taken. -/
theorem rescan_mode (mode : ScanMode) (s : State) : (rescan mode s).tsu.mode = mode := by
  simp [rescan]

/-- A channel is scanned when the scanned set of the mode taken holds it. -/
theorem rescan_scanned (mode : ScanMode) (s : State) (c : Fin 20) :
    ((rescan mode s).tsu.keys[c]).scanned = inScannedSet mode s.tbs.tables c := by
  simp only [rescan, releaseAll_keeps, setTsu_tsu, Fin.getElem_fin, Vector.getElem_ofFn, TouchKey.rescanned]
  by_cases hv : (s.tbs.tables.keymap[c.val]).valid = true
  · by_cases hk : (s.tsu.keys[c.val]).scanned = true <;>
      by_cases hs : inScannedSet mode s.tbs.tables c = true <;> simp_all
  · simp_all [inScannedSet]

/-! Panel -/

/-- The applied level of an output does not read the pins. -/
@[simp] theorem appliedLevel_drivePins (s : State) (i : Fin 6) : appliedLevel (drivePins s) i = appliedLevel s i := rfl

/-- The pins follow the applied levels. -/
@[simp] theorem drivePins_applied (s : State) (i : Fin 6) : (drivePins s).pog.applied[i] = appliedLevel s i := by
  simp [drivePins]

/-- Driving the pins keeps the requested levels. -/
@[simp] theorem drivePins_requested (s : State) : (drivePins s).pog.requested = s.pog.requested := rfl

/-- A command that reaches a powered part has its effect and goes on. -/
theorem whenPowered_on (s : State) (f : State → State) (h : s.powered = true) :
    whenPowered s f = .next (drivePins (f s)) := by simp [whenPowered, h, done]

/-- A command that reaches a part without supply changes nothing. -/
theorem whenPowered_off (s : State) (f : State → State) (h : s.powered = false) : whenPowered s f = .next s := by
  simp [whenPowered, h]

/-- R189, R193. What loads from the image of `T`: its layout version and CRC always check, so the entries decide. -/
theorem tablesOfImage_imageBytes (T : Tables) :
    tablesOfImage (imageBytes T) =
      match loadTables defaultTables (List.range 7)
        ((List.range 7).flatMap fun t => readEntries T t 0 (tableSize t)) with
      | some (T', []) => some T'
      | _ => none := by
  have h : (crcBytes (imageBody T)).length = 2 := rfl
  have hl : (imageBytes T).length - 2 = (imageBody T).length := by simp [imageBytes, h]
  have ht : (imageBytes T).take ((imageBytes T).length - 2) = imageBody T := by rw [hl]; simp [imageBytes]
  have hd : (imageBytes T).drop ((imageBytes T).length - 2) = crcBytes (imageBody T) := by rw [hl]; simp [imageBytes]
  simp only [tablesOfImage, ht, hd, if_true]
  rfl

end Sys2Proof.Machine
end

