-- ==== Sys2Proof/Laws/Heat.lean ====
section
/-! SUPPORT. What the heating does to a channel, a zone and a duty: one lemma for each operation that moves them, for
the proofs about conversions, periods, trips and FAULT CLEAR. -/

namespace Sys2Proof.Machine

/-! Temperatures at a second boundary -/

/-- The zone computation takes no temperature. -/
@[simp] theorem zoneComputation_tmu (s : State) : (zoneComputation s).tmu = s.tmu := by
  simp [zoneComputation, computeTimers, computeCutOuts]

/-- Counting a set in the filter window takes no temperature. -/
@[simp] theorem countFilterSet_tmu (s : State) : (countFilterSet s).tmu = s.tmu := by
  have h : ∀ (l : Option Nat) (s : State), (reportFilter l s).tmu = s.tmu := fun l s => by cases l <;> simp [reportFilter]
  unfold countFilterSet
  split
  · rfl
  · dsimp only; split <;> simp [endFilterWindow, h]

/-- A second boundary makes of the Temperature Unit what the forming of its set makes. -/
@[simp] theorem secondBoundary_tmu (s : State) :
    (secondBoundary s).tmu = s.tmu.boundary (validPoints s.tbs.tables.curve) := by
  simp [secondBoundary, measureSpeed]

/-! What a duty is computed from -/

/-- A duty is computed from the tables, the supervisor, the announced rail change and each channel's state, demand and
cut-out condition. -/
theorem newDuty_congr {u v : State} (ht : u.tbs = v.tbs) (hm : u.mbs = v.mbs)
    (hr : u.hfd.railChange = v.hfd.railChange)
    (hc : ∀ i : Fin 3, (u.hfd.channels[i]).state = (v.hfd.channels[i]).state ∧
      (u.hfd.channels[i]).demand = (v.hfd.channels[i]).demand)
    (hz : ∀ i : Fin 3, (u.znc.zones[i]).cutOut = (v.znc.zones[i]).cutOut) (i : Fin 3) : newDuty u i = newDuty v i := by
  have he : effectiveDemand u = effectiveDemand v := by
    funext k; unfold effectiveDemand heatGated; dsimp only; rw [ht, hm, hr, (hc k).1, (hc k).2, hz k]
  unfold newDuty; rw [he, ht, hm, hr]

/-- The degraded timers have no part in the duties. -/
@[simp] theorem newDuty_syncDegraded (s : State) (i : Fin 3) : newDuty (syncDegraded s) i = newDuty s i :=
  newDuty_congr (by simp) (by simp) (by simp) (fun k => by simp) (fun k => by simp [syncDegraded]) i

/-- The pins have no part in the duties. -/
@[simp] theorem newDuty_drivePins (s : State) (i : Fin 3) : newDuty (drivePins s) i = newDuty s i := rfl

/-- A latched channel's duty is 0. -/
theorem newDuty_latched (s : State) (i : Fin 3) (h : (s.hfd.channels[i]).state = .latchedOff) : newDuty s i = 0 := by
  have hz : effectiveDemand s i = 0 := by unfold effectiveDemand; dsimp only; rw [h]; simp
  have hs : ∀ T w, scaledDuty T (effectiveDemand s) w i = 0 := fun T w => by unfold scaledDuty; rw [hz]; simp
  unfold newDuty; dsimp only; split <;> simp only [hs, Nat.min_self]

/-! What reaches a heater channel from elsewhere: its applied duty and, at a switch-on, its demand -/

/-- A recomputation of the fan reaches no heater channel. -/
@[simp] theorem recomputeFan_channels (s : State) : (recomputeFan s).hfd.channels = s.hfd.channels := rfl

/-- An announcement reaches no heater channel. -/
@[simp] theorem setRailChange_channels (r : RailChange) (s : State) :
    (setRailChange r s).hfd.channels = s.hfd.channels := rfl

/-- A rail that has moved gives every channel a new applied duty alone. -/
theorem railMoved_channel (s : State) (i : Fin 3) : (railMoved s).hfd.channels[i] =
    { s.hfd.channels[i] with applied := ((railMoved s).hfd.channels[i]).applied } := by
  simp [railMoved, recomputeDuties]

/-- A departure gives every channel a new applied duty alone. -/
theorem depart_channel (cause : Cause) (d : Nat) (stage : Stage) (s : State) (i : Fin 3) :
    (depart cause d stage s).hfd.channels[i] =
      { s.hfd.channels[i] with applied := ((depart cause d stage s).hfd.channels[i]).applied } := by
  unfold depart
  dsimp only
  split
  · simp [departCommon]
  · rw [switchOff, railMoved_channel]; simp [departCommon, recomputeDuties]

/-- A restart decision gives every channel a new applied duty alone. -/
theorem restartDecision_channel (cause : Cause) (d : Nat) (s : State) (i : Fin 3) :
    (restartDecision cause d s).hfd.channels[i] =
      { s.hfd.channels[i] with applied := ((restartDecision cause d s).hfd.channels[i]).applied } := by
  unfold restartDecision
  split
  · dsimp only
    rw [depart_channel]
    split <;> simp
  · rfl

/-- A reported occurrence gives every channel a new applied duty alone, by the restart it may decide. -/
theorem report_channel (k : FaultKind) (d : Nat) (s : State) (i : Fin 3) : (report k d s).hfd.channels[i] =
    { s.hfd.channels[i] with applied := ((report k d s).hfd.channels[i]).applied } := by
  unfold report
  dsimp only
  split
  · rw [restartDecision_channel]; simp
  · simp

/-- Occurrences reported one after the other give every channel a new applied duty alone. -/
theorem reportAll_channel (k : FaultKind) (l : List Nat) (s : State) (i : Fin 3) : (reportAll k l s).hfd.channels[i] =
    { s.hfd.channels[i] with applied := ((reportAll k l s).hfd.channels[i]).applied } := by
  unfold reportAll
  induction l generalizing s with
  | nil => rfl
  | cons d l ih => rw [List.foldl_cons, ih, report_channel]

/-- A switch-on hands every channel a demand and an applied duty. -/
theorem switchOn_channel (s : State) (i : Fin 3) : (switchOn s).hfd.channels[i] =
    { s.hfd.channels[i] with
      demand := zoneDemand s true i, applied := ((switchOn s).hfd.channels[i]).applied } := by
  unfold switchOn
  dsimp only
  rw [railMoved_channel]
  simp [recomputeDuties, handDemands]

/-- A condition told to the Fault Collector gives a channel at most a demand and an applied duty, by a switch-on. -/
theorem conditionChanged_channel (k : FaultKind) (s : State) (i : Fin 3) : (conditionChanged k s).hfd.channels[i] =
    { s.hfd.channels[i] with
      demand := ((conditionChanged k s).hfd.channels[i]).demand
      applied := ((conditionChanged k s).hfd.channels[i]).applied } := by
  unfold conditionChanged rejudgeRelease judgeRelease
  dsimp only
  (repeat' split) <;> first | rfl | (rw [switchOn_channel]; simp)

/-! Open load -/

/-- A low period counts, and the tenth in a row makes the channel open-load. -/
theorem judgeLoad_low (peak : Nat) (c : HeaterChannel) (hd : c.periodDuty ≠ 0) (hl : periodLoaded peak c = false) :
    judgeLoad peak c = { c with
      lowCount := min 10 (c.lowCount + 1), loadedCount := 0
      openLoad := c.openLoad || decide (9 ≤ c.lowCount) } := by
  have h : (10 ≤ min 10 (c.lowCount + 1)) ↔ 9 ≤ c.lowCount := by omega
  simp [judgeLoad, hd, hl, satAdd, h]

/-- A loaded period counts, and the tenth in a row ends open load. -/
theorem judgeLoad_loaded (peak : Nat) (c : HeaterChannel) (hd : c.periodDuty ≠ 0) (hl : periodLoaded peak c = true) :
    judgeLoad peak c = { c with
      loadedCount := min 10 (c.loadedCount + 1), lowCount := 0
      openLoad := c.openLoad && decide (c.loadedCount < 9) } := by
  have h : (min 10 (c.loadedCount + 1) < 10) ↔ c.loadedCount < 9 := by omega
  simp [judgeLoad, hd, hl, satAdd, h]

/-- A period in which the channel did not drive is not judged. -/
theorem judgeLoad_undriven (peak : Nat) (c : HeaterChannel) (hd : c.periodDuty = 0) : judgeLoad peak c = c := by
  simp [judgeLoad, hd]

/-! Zones -/

/-- A switch-on clears the override mark and changes nothing else of the zones. -/
@[simp] theorem switchOn_znc (s : State) : (switchOn s).znc = { s.znc with override := false } := by
  simp [switchOn]

/-- A condition told to the Fault Collector changes no zone. -/
@[simp] theorem conditionChanged_zones (k : FaultKind) (s : State) : (conditionChanged k s).znc.zones = s.znc.zones := by
  unfold conditionChanged rejudgeRelease judgeRelease
  dsimp only
  (repeat' split) <;> simp

/-- A condition told to the Fault Collector switches nothing on without the release condition or outside HEAT_HOLD. -/
theorem conditionChanged_hfd (k : FaultKind) (s : State) (h : s.mbs.state ≠ .heatHold ∨ s.znc.release = false) :
    (conditionChanged k s).hfd = s.hfd ∧ (conditionChanged k s).znc = s.znc ∧ (conditionChanged k s).mbs = s.mbs := by
  have hj : ∀ u : State, u.mbs = s.mbs → u.znc = s.znc → judgeRelease u = u := fun u hm hz =>
    if_neg fun hc => by rcases h with h | h <;> simp_all
  unfold conditionChanged rejudgeRelease
  dsimp only
  (repeat' split) <;> simp [hj]

/-! Fault records -/

/-- Judging the two conditions changes the Fault Collector alone. -/
theorem rejudge_eq (s : State) : rejudge s = s.setFcl (rejudge s).fcl := by unfold rejudge; rfl

/-- Clearing records changes the Fault Collector alone. -/
theorem clearRecords_eq (kind : Nat) (s : State) : clearRecords kind s = s.setFcl (clearRecords kind s).fcl := by
  unfold clearRecords; rfl

/-- Clearing records leaves the HOLD inhibit as last judged. -/
@[simp] theorem clearRecords_hold (kind : Nat) (s : State) : (clearRecords kind s).fcl.hold = s.fcl.hold := by
  unfold clearRecords; rfl

end Sys2Proof.Machine
end

