-- ==== Sys2Proof/Tests/Slice0.lean ====
section
/-! SUPPORT. Tests: ill-formed commands that WellFormed refuses, values the spec's own examples give, and for every
statement with hypotheses a state and operands that meet them (`meets_<statement>`), clause by clause at the edges. -/

namespace Sys2Proof.Machine

/-! Small states -/

/-- The state a command leaves; the state itself where it answers none. -/
def after (c : Instr) (s : State) : State :=
  match exec c s with
  | .next t => t
  | _ => s

/-- The state a step leaves. -/
def stepped (s : State) : State :=
  match step s with
  | .next t => t
  | _ => s

/-- The reset state with the supervisor in `m`, its outputs and the scan mode as R61 and R101 give them, MAIN_PG high where
a low level would act. -/
def inState (m : MbsState) : State :=
  let s := State.reset
  { s with
    mbs := { s.mbs with state := m, pwrEn := m.railOn, rstN := m.admits, mainPg := m.admits }
    tsu := { s.tsu with mode := railMode m.railOn } }

/-- RUN, the token 0x41 held and the heartbeat timer at `n` ticks. -/
def running (n : Nat) : State :=
  let s := inState .run
  { s with mbs := { s.mbs with token := some 0x41, heartbeatTimer := some n, runTicks := some 0, stable := some 600 } }

/-- The transmitter busy with an event frame. -/
def busy (s : State) : State := s.setSlp { s.slp with tx := .event [] }

/-- The supervisor's state replaced by `f` of it. -/
def onMbs (f : Mbs → Mbs) (s : State) : State := s.setMbs (f s.mbs)

/-- The driver's state replaced by `f` of it. -/
def onHfd (f : Hfd → Hfd) (s : State) : State := s.setHfd (f s.hfd)

/-- The tables replaced by `f` of them. -/
def onTables (f : Tables → Tables) (s : State) : State := s.setTbs { s.tbs with tables := f s.tbs.tables }

/-- The heater channel H1 replaced by `f` of it. -/
def onH1 (f : HeaterChannel → HeaterChannel) (s : State) : State :=
  onHfd (fun h => { h with channels := upd h.channels 1 f }) s

/-- The touch channel C5 replaced by `f` of it. -/
def onC5 (f : TouchKey → TouchKey) (s : State) : State := s.setTsu { s.tsu with keys := upd s.tsu.keys 5 f }

/-- A last set with the four temperatures, every sensor of the health given. -/
def withSet (t0 t1 t2 t3 : Option Int) (h : Health) (s : State) : State :=
  let readings := #v[⟨t0, h, false⟩, ⟨t1, h, false⟩, ⟨t2, h, false⟩, ⟨t3, h, false⟩]
  s.setTmu { s.tmu with lastSet := some ⟨readings, 1⟩ }

/-- `n` records in the queue, the transmitter busy. -/
def queued (n : Nat) (s : State) : State :=
  busy (s.setKeq { s.keq with queue := List.replicate n ⟨.restart, 0, .normal, 0, false, 0⟩ })

/-- Key channel C2 reported down under code 3. -/
def reportedC2 (s : State) : State := updKey 2 (fun k => { k.report 3 with down := true }) s

/-- Key channel C5 scanned, TOUCHED at the touch unit and down at the key mapper. -/
def heldC5 (s : State) : State :=
  updKey 5 (fun k => { k with down := true }) (onC5 (fun k => { k with state := .touched, stuck := some 9, scanned := true }) s)

/-- The reactions of kind `k` replaced by `f` of them. -/
def onReaction (k : FaultKind) (f : ReactionEntry → ReactionEntry) (s : State) : State :=
  onTables (fun T => { T with reactions := T.reactions.set k (f T.reactions[k]) }) s

/-- The record of kind `k` replaced. -/
def withRecord (k : FaultKind) (r : FaultRecord) (s : State) : State :=
  { s with fcl := { s.fcl with records := s.fcl.records.set k r } }

/-- Every table UNLOCKED. -/
def unlocked (s : State) : State := setLocks 0xFF false s

/-! One theorem after the other: checked side by side, their threads' stacks alone fill the memory limit. -/

set_option Elab.async false

/-! Ill-formed commands -/

theorem test_payload_63_fits : (Instr.historyMark 0 (List.replicate 63 0)).wellFormed = true := by decide
theorem test_payload_64_refused : (Instr.historyMark 0 (List.replicate 64 0)).wellFormed = false := by decide
theorem test_unknown_kind_of_a_request_refused : (Instr.unknownKind 0x60 0 []).wellFormed = false := by decide
theorem test_unknown_kind_64_refused : (Instr.unknownKind 0x61 0 (List.replicate 64 0)).wellFormed = false := by decide
theorem test_len_1_is_bad : (Instr.badLengthByte 1).wellFormed = true := by decide
theorem test_len_2_is_not_bad : (Instr.badLengthByte 2).wellFormed = false := by decide
theorem test_len_65_is_not_bad : (Instr.badLengthByte 65).wellFormed = false := by decide
theorem test_no_word_is_a_command : decodeTableWord 16 0x41 = none := by decide

/-! Values the spec gives -/

/-- Chapter 1, "forming one average" and the worked linearizations. -/
theorem test_average_and_linearization :
    windowAverage [3148, 3151, 3150, 3152, 3149, 3150, 3151, 3153] = 3150 ∧
    linearize (validPoints defaultCurve) 3150 = (-117, false) ∧ linearize (validPoints defaultCurve) 1000 = (606, false) ∧
    linearize (validPoints defaultCurve) 3970 = (-550, false) ∧ linearize (validPoints defaultCurve) 4000 = (-550, true) ∧
    linearize (validPoints defaultCurve) 100 = (1500, true) := by decide

/-- Chapter 1, "the front glass warming": the classes at seconds 9 to 11. -/
theorem test_drift_classes :
    driftOf [-312, -311, -311, -310, -309, -309, -308, -308, -307] true = 1 ∧
    driftOf [-311, -310, -309, -309, -308, -308, -307, -300, -290] true = 2 := by decide

/-- Chapter 2: 1000, 800 and 600 under A_run become 547, 438 and 328. -/
theorem test_running_duties :
    scaledDuty defaultTables (![1000, 800, 600]) 40 0 = 547 ∧ scaledDuty defaultTables (![1000, 800, 600]) 40 1 = 438 ∧
    scaledDuty defaultTables (![1000, 800, 600]) 40 2 = 328 ∧ scaledDuty defaultTables (![1000, 800, 600]) 80 0 = 1000 := by
  decide

/-- Chapter 2, "a heater shorting to its frame", period p: 2.6 A at trip level 2.0 A. -/
theorem test_trip_chops :
    let t := after (.heaterTrip 1 2600) (onH1 (fun c => { c with state := .driving, output := true }) State.reset)
    (t.hfd.channels[1]).state = .chopped ∧ (t.hfd.channels[1]).tripCount = 1 ∧
    (t.fcl.records[6]).state = .latched ∧ (t.fcl.records[6]).firstDetail = 1 := by decide +kernel

/-- Chapter 2, the same, period p+6: the fourth trip in a row latches. -/
theorem test_fourth_trip_latches :
    ((after (.heaterTrip 1 2600) (onH1 (fun c => { c with state := .driving, output := true, tripCount := 3 })
      State.reset)).hfd.channels[1]).state = .latchedOff := by decide +kernel

/-- Chapter 3, "a zone at its limit": entered at 600, held at 585, left at 579. -/
theorem test_cut_out_hysteresis :
    cutOutNow defaultZones[2] false (some 596) = false ∧ cutOutNow defaultZones[2] false (some 600) = true ∧
    cutOutNow defaultZones[2] true (some 585) = true ∧ cutOutNow defaultZones[2] true (some 579) = false := by decide

/-- Chapter 3, "a sensor lost in HEAT_HOLD": 600 at −63, then the fallback duty 300. -/
theorem test_z2_demands :
    zoneDemand (withSet none none (some (-63)) none .suspect State.reset) false 2 = 600 ∧
    zoneDemand (withSet none none (some (-63)) none .failed State.reset) false 2 = 300 := by decide +kernel

/-- Chapter 4, "heartbeat tokens": 3.2 s left, token 0x42 accepted, the timer restarted at 5.0 s. -/
theorem test_heartbeat_accepted :
    let t := after (.heartbeat 7 [0x42]) (running 320)
    t.slp.reply = some ⟨0x82, 7, [0, 0, 32]⟩ ∧ t.mbs.heartbeatTimer = some 500 ∧ t.mbs.token = some 0x42 := by
  decide +kernel

/-- Chapter 4, the same: the token sent again 0.2 s later is STALE, remaining 48. -/
theorem test_heartbeat_stale :
    (after (.heartbeat 8 [0x41]) (running 480)).slp.reply = some ⟨0x82, 8, [2, 0, 48]⟩ := by decide +kernel

/-- Chapter 4, "a hung host", step 1. -/
theorem test_first_expiry_warns : (after .heartbeatExpiry (running 500)).mbs.state = .warn := by decide +kernel

/-- Chapter 4, "a hung host", step 2: run time 260 s, token held. -/
theorem test_second_expiry_restarts :
    let t := after .heartbeatExpiry (onMbs (fun m => { m with state := .warn, runTicks := some 25500 }) (running 500))
    t.mbs.state = .resetting ∧ t.mbs.count = 1 ∧
    (t.rhs.entries.head?.map fun e => e.body) = some (.restart
      ⟨.heartbeatMiss, 1, .reset, .warn, 1, #v[-32768, -32768, -32768, -32768], 5, 260, 0x41, false⟩) := by
  decide +kernel

/-- Chapter 4, "a hung host", step 11: the fifth count locks out, F15 with the cause as detail. -/
theorem test_ladder_ends_in_lockout :
    let t := after .bootTimeout (onMbs (fun m => { m with bootTimer := some 0, count := 4 }) (inState .boot))
    t.mbs.state = .lockout ∧ t.mbs.count = 5 ∧ (t.fcl.records[15]).firstDetail = 6 := by decide +kernel

/-- Chapter 6, worked scan 1: B REF0 becomes 14 402, c is 1118, C5 is ARMING. -/
theorem test_scan_arms_c5 :
    let s := onTables (fun T => { T with keymap := T.keymap.set 5 ⟨true, true, false, false, 6, 80, 8⟩ })
      (onC5 (fun k => { k with baseline := 16000, scanned := true, seed := false }) (inState .run))
    let t := after (.scan ((Vector.replicate 22 0).set 5 1120 |>.set 20 905 |>.set 21 898))
      { s with
        tsu := { s.tsu with refs := #v[⟨905, 0, 14400, false, 0, 0, false⟩, ⟨898, 0, 14320, false, 0, 0, false⟩] }
        znc := { s.znc with z1Cold := false } }
    (t.tsu.refs[0]).baseline = 14402 ∧ (t.tsu.refs[1]).baseline = 14321 ∧ (t.tsu.keys[5]).corrected = 1118 ∧
    (t.tsu.keys[5]).delta = 118 ∧ (t.tsu.keys[5]).state = .arming ∧ (t.tsu.keys[5]).baseline = 16000 := by
  decide +kernel

/-- Chapter 6, "a film of water": the stuck key's baseline is 25 120; R101: the scan that judges it comes at tick 8. -/
theorem test_stuck_key :
    let s := fun m => onC5 (fun k => { k with
      raw := 1570, state := .touched, stuck := some 5999, baseline := 16000, scanned := true, seed := false }) (inState m)
    let t := after (.stuckTimerExpiry 5) (s .run)
    (t.tsu.keys[5]).baseline = 25120 ∧ (t.tsu.keys[5]).state = .idle ∧ (t.fcl.records[12]).firstDetail = 5 ∧ t.tick = 1 ∧
    (after (.stuckTimerExpiry 5) (s .heatHold)).tick = 8 ∧
    after (.scan (heldCounts (s .heatHold).tsu)) (s .heatHold) = s .heatHold := by decide +kernel

/-- Chapter 7, "the reserve at work": 28 records, two reported; a repeat is refused, a KEY_DOWN admitted. -/
theorem test_reserve :
    let s := updKey 7 (fun k => k.report 8) (updKey 3 (fun k => k.report 4) (queued 28 (inState .run)))
    offerJudgement s (newEvent s .keyRepeat 4 .normal (3 * 256 + 1)) = .refused ∧
    offerJudgement s (newEvent s .keyDown 10 .normal 9) = .admitted := by decide +kernel

/-- Chapter 7, "the heat override": chord 2 fires after 300 ticks. -/
theorem test_override_chord :
    let t := after (.chordFire 2) (State.reset.setKeq { State.reset.keq with
      chords := State.reset.keq.chords.set 2 ⟨.timing, 0⟩ })
    t.znc.override = true ∧ t.tick = 300 ∧ t.keq.queue = [] := by decide +kernel

/-- Chapter 8, steps 1 and 3. -/
theorem test_panel_levels :
    (after (.panelSet 1 [0, 3, 132]) (inState .run)).slp.reply = some ⟨0xC0, 1, [1, 3, 132, 1, 44]⟩ ∧
    (after (.panelSet 1 [2, 0, 0]) (inState .run)).slp.reply = some ⟨0xC0, 1, [0, 0, 0, 0, 1]⟩ := by decide +kernel

/-- Chapter 9, step 3: a LATCHED record whose condition is present is not cleared. -/
theorem test_fault_clear_needs_the_condition_gone :
    let s := onHfd (fun h => { h with fanState := .stalled }) State.reset
    (after (.faultClear 1 [9]) { s with fcl := { s.fcl with records := s.fcl.records.set 9 ⟨.latched, .sw, 1, 0, 0, 0⟩ } }
      ).slp.reply = some ⟨0xD1, 1, [0, 0]⟩ := by decide +kernel

/-- R168: the CRC of the nine characters "123456789" is 0x29B1 (the polynomial's published check value). -/
theorem test_crc : crc16 [0x31, 0x32, 0x33, 0x34, 0x35, 0x36, 0x37, 0x38, 0x39] = 0x29B1#16 := by decide +kernel

/-- Chapter 12, "one keymap write": the entry as written, with bit 7 of the flag byte disregarded. -/
theorem test_keymap_write :
    ((after (.tableWrite 1 [0, 4, 1, 0x87, 5, 0x3C, 8]) (unlocked State.reset)).tbs.tables.keymap[4]).bytes =
      [0x07, 5, 0x3C, 8] := by decide +kernel

/-- Chapter 11, "a curve correction": entry 10 may move to (3350, −190), entry 9 may not. -/
theorem test_curve_correction :
    (writtenTables defaultTables 4 10 1 [1, 13, 22, 255, 66]).isSome = true ∧
    writtenTables defaultTables 4 9 1 [1, 13, 22, 255, 66] = none := by decide +kernel

/-- Chapter 11, "wrapped ranges". -/
theorem test_wrapped_ranges :
    invalidatedIndexes 0 18 3 = [18, 19, 0, 1] ∧ invalidatedIndexes 2 2 2 = [2, 0] := by decide

/-- R93: the POWER_ON entry of a first power-on, read at depth 0. -/
theorem test_history_read :
    (after (.historyRead 1 [0, 0]) State.reset).slp.reply = some ⟨0xB0, 1, [0, 0, 0, 0, 1, 0, 0, 1]⟩ := by decide +kernel

/-- R177. -/
theorem test_ident :
    (after (.ident 9 []) State.reset).slp.reply =
      some ⟨0x81, 9, [0, 0x43, 0x03, 0x20, 2, 20, 8, 4, 6, 16, 1, 16, 0]⟩ := by decide +kernel

/-- Log entry 40: the touch of C0 in OFF switches the main board on before that of C19 in the same scan, so chord 0 (RAIL_ON)
is timed and chord 1 (RAIL_OFF) spent. -/
theorem test_wake_precedes_higher_touches :
    let arming := fun (k : TouchKey) => { k with state := .arming, arming := 2, scanned := true, seed := false }
    let off := inState .off
    let s := { off with
      tick := 8, znc := { off.znc with release := true }, fcl := { off.fcl with hold := false }
      tsu := { off.tsu with keys := upd (upd off.tsu.keys 0 arming) 19 arming } }
    let t := after (.scan (Vector.replicate 22 1000)) s
    t.mbs.state = .powering ∧ t.mbs.bootCause = .key ∧ (t.keq.keys[19]).down = true ∧
    (t.keq.chords[0]).state = .timing ∧ (t.keq.chords[1]).state = .spent := by decide +kernel

/-! Hypotheses that are met -/

theorem meets_StepRunsTheFrontCommand :
    ({ State.reset with pending := [.fanTachPulse, .overrun] } : State).pending = .fanTachPulse :: [.overrun] := by decide

/-- A part without supply; a power-good timer with two ticks left, one and none; a timer that another precedes. -/
theorem meets_EmptyQueuePassesOneTick :
    let pg := fun n => onMbs (fun m => { m with pgRunning := true, pgLeft := n }) (inState .powering)
    let late := onMbs (fun m => { m with shutdown := some 3 }) (running 5)
    (unpowered .unwritten []).powered = false ∧ (unpowered .unwritten []).pending = [] ∧
    nextDue (pg 0) = some .pgTimeout ∧ nextDue (pg 1) = some .pgTimeout ∧ nextDue (pg 2) = none ∧
    nextDue State.reset = none ∧ State.reset.powered = true ∧ State.reset.pending = [] ∧
    late.mbs.heartbeatTimer = some 5 ∧ nothingBefore 5 late = false ∧ nothingBefore 4 late = false ∧
    nothingBefore 3 late = true ∧ (after .heartbeatExpiry late).mbs = late.mbs ∧ (pg 5).mbs.shutdown = none := by
  decide +kernel

theorem meets_EveryCommandAnswersANextState :
    (unpowered .unwritten []).powered = false ∧ ∀ r, Instr.fanTachPulse ≠ .partPowerOn r := by decide +kernel

/-- One valid point is short, two are not. -/
def onePoint (n : Nat) : Tables :=
  { defaultTables with curve := tab fun i => { defaultCurve[i] with valid := decide (i.val < n) } }

/-- The retained store holding the image of `T`. -/
def holding (T : Tables) : State := State.reset.setTbs { State.reset.tbs with image := .written (imageBytes T) }

theorem meets_PowerOnLoadsTheImageOrFallsBack :
    (imageAfterLoss State.reset.tbs).load = none ∧
    (imageAfterLoss (holding (onePoint 1)).tbs).load = some (onePoint 1) ∧ curveShort (onePoint 1).curve = true ∧
    (imageAfterLoss (holding (onePoint 2)).tbs).load = some (onePoint 2) ∧ curveShort (onePoint 2).curve = false := by
  refine ⟨by decide, ?_, by decide +kernel, ?_, by decide +kernel⟩
  · exact (tablesOfImage_imageBytes (onePoint 1)).trans (by decide +kernel)
  · exact (tablesOfImage_imageBytes (onePoint 2)).trans (by decide +kernel)

theorem meets_PowerOffKeepsTheImageAlone :
    State.reset.powered = true ∧ State.reset.tbs.store = .idle ∧
    (beginSave State.reset).powered = true ∧ (beginSave State.reset).tbs.store = .writing defaultTables := by
  decide +kernel

/-- LOCKOUT with the count at its top, BOOT with the boot timer running. -/
theorem meets_EveryStepKeepsTheSupervisorConsistent :
    SupervisorOk (onMbs (fun m => { m with count := 5 }) (inState .lockout)) ∧
    SupervisorOk (onMbs (fun m => { m with count := 4, bootTimer := some 0 }) (inState .boot)) := by
  refine ⟨⟨⟨rfl, rfl, rfl⟩, ?_, ?_⟩, ⟨rfl, rfl, rfl⟩, ?_, ?_⟩
  · unfold Mbs.timersOk; decide +kernel
  · unfold Mbs.countOk; decide +kernel
  · unfold Mbs.timersOk; decide +kernel
  · unfold Mbs.countOk; decide +kernel

/-- A command waits, and the step takes it. -/
theorem meets_every_step : ∃ t, step { State.reset with pending := [.periodStart 0 0 0] } = .next t := ⟨_, rfl⟩

theorem reset_supervisorOk : SupervisorOk State.reset := by
  refine ⟨⟨rfl, rfl, rfl⟩, ?_, ?_⟩
  · unfold Mbs.timersOk; decide +kernel
  · unfold Mbs.countOk; decide +kernel

theorem reset_heatersOk : HeatersOk State.reset := by
  unfold HeatersOk
  decide +kernel

theorem meets_EveryStepKeepsTheDutiesUpToDate : SupervisorOk State.reset ∧ HeatersOk State.reset :=
  ⟨reset_supervisorOk, reset_heatersOk⟩

/-- The part at tick 8, its last scan made there. -/
def scannedAt8 : State := { State.reset with tick := 8, tsu := { State.reset.tsu with lastScan := some 8 } }

theorem reset_scannedSetOk : ScannedSetOk State.reset := by
  unfold ScannedSetOk
  decide +kernel

theorem heldC5_downKeysOk : DownKeysOk (heldC5 (inState .run)) := by
  unfold DownKeysOk
  decide +kernel

theorem meets_EveryStepKeepsBaselinesAndTheScannedSet :
    BaselinesOk (onC5 (fun k => { k with baseline := 1048560, corrected := 65535 }) State.reset) ∧
    ScannedSetOk State.reset ∧ LastScanOk scannedAt8 ∧ DownKeysOk (heldC5 (inState .run)) := by
  refine ⟨by unfold BaselinesOk; decide +kernel, reset_scannedSetOk, fun k h => ?_, heldC5_downKeysOk⟩
  cases h
  decide

/-- C5 held, unreported and reported, leaves for STANDBY; C2 enters for ACTIVE; C0, a wake channel, stays; an invalid C5. -/
theorem meets_EveryStepKeepsBaselinesAndTheScannedSet_rescan :
    let s := heldC5 (inState .run)
    let gone := onTables (fun T => { T with keymap := T.keymap.set 5 { T.keymap[5] with valid := false } }) s
    leavesHeld s .standby 5 = true ∧ (s.keq.keys[5]).reported = none ∧ leavesHeld s .active 5 = false ∧
    leavesHeld (updKey 5 (fun k => k.report 6) s) .standby 5 = true ∧ leavesHeld gone .standby 5 = false ∧
    ((rescan .standby s).keq.keys[5]).down = false ∧ ((rescan .standby s).tsu.keys[5]).state = .idle ∧
    ((rescan .standby (updKey 5 (fun k => k.report 6) s)).keq.keys[5]).reported = none ∧
    (s.tsu.keys[2]).scanned = false ∧ ((rescan .active s).tsu.keys[2]).scanned = true ∧
    ((rescan .active s).tsu.keys[2]).seed = true ∧ ((rescan .standby s).tsu.keys[0]).scanned = true ∧
    ((rescan .active gone).tsu.keys[5]).state = .idle ∧ ((rescan .active gone).keq.keys[5]).down = true := by decide +kernel

theorem meets_EveryStepKeepsTheQueueReserve : QueueOk (reportedC2 (queued 31 (inState .run))) := by
  unfold QueueOk
  decide +kernel

theorem meets_EveryStepKeepsTheHistoryInOrder : HistoryOk State.reset := by
  refine ⟨by decide, fun i e h => ?_⟩
  cases i with
  | zero => cases h; decide
  | succ n => cases h

theorem meets_EveryStepKeepsTheTransmitterBusy :
    TransmitterOk State.reset ∧ TransmitterOk (busy (inState .run)) ∧
    TransmitterOk (inState .run |>.setSlp { State.reset.slp with
      reply := some ⟨0x81, 0, []⟩, tx := .reply (Frame.bytes ⟨0x81, 0, []⟩) }) :=
  ⟨⟨rfl, fun _ => rfl⟩, trivial, ⟨_, rfl, rfl⟩⟩

/-- The fan STALLED, F9 ACTIVE in class HW; with the fan running again the condition has ended. -/
theorem meets_EveryStepKeepsTheIndication :
    let s := fun f => { onHfd (fun h => { h with fanState := f }) State.reset with
      fcl := { State.reset.fcl with records := State.reset.fcl.records.set 9 ⟨.active, .hw, 1, 0, 0, 0⟩ } }
    IndicationOk State.reset ∧ ScannedSetOk (s .stalled) ∧ RecordsOk (s .stalled) ∧ RecordsOk State.reset ∧
    faultCondition (s .running) 9 = false ∧ (((conditionChanged 9 (s .running)).fcl.records[9]).state = .clear) := by
  refine ⟨?_, reset_scannedSetOk, ?_, ?_, by decide +kernel⟩
  · unfold IndicationOk; decide +kernel
  · unfold RecordsOk; decide +kernel
  · unfold RecordsOk; decide +kernel

theorem defaultTables_inRange : defaultTables.inRange := by
  unfold Tables.inRange
  decide +kernel

theorem meets_EveryStepKeepsTablesInRange :
    TablesOk State.reset ∧ TablesOk (beginSave (holding defaultTables)) :=
  ⟨⟨defaultTables_inRange, trivial, trivial⟩, ⟨defaultTables_inRange, defaultTables_inRange, _, defaultTables_inRange, rfl⟩⟩

/-- The reset state; BOOT with a shutdown pending, and OFF, where no timer decides. -/
theorem meets_EveryStepLeavesNoTimerExpired :
    SupervisorOk State.reset ∧ TablesOk State.reset ∧ State.reset.mbs.runsOn ∧
    (onMbs (fun m => { m with bootTimer := some 1, shutdown := some 101 }) (inState .boot)).mbs.runsOn ∧
    decidingTimer (onMbs (fun m => { m with bootTimer := some 1 }) (inState .boot)).mbs = 1 ∧
    (inState .off).mbs.runsOn ∧ decidingTimer (inState .off).mbs = 0 := by
  refine ⟨reset_supervisorOk, ⟨defaultTables_inRange, trivial, trivial⟩, ?_, ?_, by decide, ?_, by decide⟩ <;>
    (unfold Mbs.runsOn; decide +kernel)

/-- Pins that the rail gates, that Z1 cold clamps, and of an invalid entry. -/
theorem meets_PinsFollowTheGateAfterEveryCommand :
    let s := onTables (fun T => { T with gate := T.gate.set 3 { T.gate[3] with valid := false } }) State.reset
    exec .fanTachPulse s = .next (after .fanTachPulse s) ∧ s.powered = true ∧ (after .fanTachPulse s).powered = true ∧
    (after .fanTachPulse s).mbs.pwrEn = false ∧ (after .fanTachPulse s).znc.z1Cold = true ∧
    ((after .fanTachPulse s).tbs.tables.gate[3]).valid = false ∧
    let lit := { inState .run with pog := { State.reset.pog with requested := #v[300, 1, 0, 0, 0, 1] } }
    let warm := lit.setZnc { lit.znc with z1Cold := false }
    (after .fanTachPulse warm).pog.applied = #v[300, 1, 1, 0, 0, 1] ∧ warm.fcl.indication = true ∧
    (after .fanTachPulse (onTables (fun T => { T with gate := T.gate.set 0 { T.gate[0] with coldClamp := 299 } }) lit)
      ).pog.applied[0] = 299 :=
  ⟨rfl, by decide +kernel⟩

theorem meets_AFrameIsReadBackAsItsRequest :
    (State.reset.setSlp { State.reset.slp with rx := .hunt }).slp.rx = .hunt ∧ (List.replicate 63 (0 : Byte)).length ≤ 63 ∧
    ([] : List Byte).length ≤ 63 := by decide

theorem meets_EntriesAndImagesAreReadBack :
    KeymapEntry.inRange ⟨true, true, true, true, 254, 255, 16⟩ = true ∧
    ChordEntry.inRange ⟨true, memberMask [0, 10, 19], 100, .report, .railOff⟩ = true ∧
    ZoneRecord.inRange ⟨true, -400, 100, -400, 100, 1000, 1000, 3600, 255, 1200, 80, .latch, .ms800⟩ = true ∧
    GlobalRecord.inRange ⟨765, 765, 600, 0, 1200, 1000, 500⟩ = true ∧
    GateEntry.inRange 0 ⟨true, true, true, true, 1000, .none, 1000⟩ = true ∧
    GateEntry.inRange 4 ⟨true, true, true, true, 1, .lockout, 1⟩ = true ∧
    CurvePoint.inRange ⟨true, 4095, -550⟩ = true ∧
    Policy.inRange ⟨600, 900, 100, 120, 7, 7, 7200, 240, 200, false⟩ = true ∧ defaultTables.inRange :=
  ⟨by decide +kernel, by decide +kernel, by decide +kernel, by decide +kernel, by decide +kernel, by decide +kernel,
    by decide +kernel, by decide +kernel, defaultTables_inRange⟩

/-- R196, R201. A negative temperature and a full member mask at their offsets; spare bits and bytes of what was sent. -/
theorem meets_EntriesAndImagesAreReadBack_layouts :
    itemField (defaultCurve[15]).bytes 3 2 = 0xFDDA ∧ signedField 16 (-550) = 0xFDDA ∧
    itemField (ChordEntry.bytes ⟨true, memberMask [0, 10, 19], 100, .report, .railOff⟩) 1 3 = 0x080401 ∧
    KeymapEntry.ofBytes [0x87, 5, 60, 8] = some ⟨true, true, true, false, 5, 60, 8⟩ ∧
    GlobalRecord.ofBytes ((0 :: defaultGlobal.bytes.tail.take 14) ++ [1, 2, 3, 4]) = some defaultGlobal := by
  decide +kernel

theorem meets_ConversionsFillWindowsAndMoveHealth :
    State.reset.powered = true ∧ (State.reset.tmu.instants + 1) % 8 ≠ 0 ∧
    (∀ i : Fin 4, (State.reset.tmu.channels[i]).health = .good) ∧ (State.reset.fcl.records[5]).state ≠ .active ∧
    (∀ i : Fin 4, 16 ≤ (#v[16#12, 4079#12, 16#12, 4079#12][i]).toNat ∧ (#v[16#12, 4079#12, 16#12, 4079#12][i]).toNat ≤ 4079) ∧
    (convertChannel 15 { TmuChannel.powerOn with outCount := 2 }).health = .suspect ∧
    (convertChannel 4080 { TmuChannel.powerOn with outCount := 1 }).health = .good ∧
    (convertChannel 16 { TmuChannel.powerOn with health := .suspect, runCount := 7 }).health = .good ∧
    (convertChannel 4079 { TmuChannel.powerOn with health := .failed, runCount := 7 }).health = .good ∧
    (convertChannel 0 { TmuChannel.powerOn with health := .suspect, suspect := some 79 }).health = .failed ∧
    let run := fun (code : Nat) (h : Health) (n : Nat) (timer : Option Nat) => convertChannel code
      { TmuChannel.powerOn with health := h, runCount := n, suspect := timer, window := [9], outCount := 255 }
    run 16 .suspect 6 (some 78) = ⟨[9, 16], 0, 7, .suspect, some 79, none, false⟩ ∧
    run 16 .suspect 6 (some 79) = ⟨[9, 16], 0, 7, .failed, none, none, false⟩ ∧
    run 16 .failed 0 none = ⟨[9, 16], 0, 1, .failed, none, none, false⟩ ∧
    run 15 .suspect 6 (some 0) = ⟨[], 255, 0, .suspect, some 1, none, false⟩ ∧
    run 4080 .failed 7 none = ⟨[], 255, 0, .failed, none, none, false⟩ ∧
    run 4079 .suspect 7 (some 79) = ⟨[9, 4079], 0, 8, .good, none, none, false⟩ := by decide +kernel

/-- Sensor S3 SUSPECT, its timer at `n`, its run at `run`, the other inputs at 2500. -/
def suspected (n run instants : Nat) (last : BitVec 12) : State :=
  State.reset.setTmu { State.reset.tmu with
    instants := instants
    codes := #v[2500, 2500, 2500, last]
    channels := State.reset.tmu.channels.set 3 { TmuChannel.powerOn with
      health := .suspect, suspect := some n, runCount := run, held := some (-63) } }

/-- Chapter 1, "a sensor lost and recovered": the timer at 78 and at 79; the eighth code in range at the eightieth instant;
a code in range that ends no run; a second boundary; the command at 78, at 79 and in a GOOD channel. -/
theorem meets_SuspectTimerExpiryFailsTheSensor :
    let at3 := fun c s => ((after c s).tmu.channels[3]).health
    let c := fun x => Instr.conversionInstant 2500 2500 2500 x
    let e := Instr.suspectTimerExpiry 3
    (suspected 79 0 0 4095).powered = true ∧ ((suspected 79 0 0 4095).tmu.channels[3]).health = .suspect ∧
    at3 (c 4095) (suspected 78 0 0 4095) = .suspect ∧ at3 (c 4095) (suspected 79 0 0 4095) = .failed ∧
    at3 (c 2500) (suspected 79 6 0 4095) = .failed ∧ at3 (c 2500) (suspected 79 7 0 4095) = .good ∧
    at3 (c 15) (suspected 79 7 0 4095) = .failed ∧ at3 e (suspected 78 0 0 4095) = .suspect ∧
    (after e (suspected 78 0 0 4095)).tmu = (suspected 78 0 0 4095).tmu ∧ at3 e (suspected 79 0 0 4095) = .failed ∧
    ((after e (suspected 79 0 0 4095)).tmu.channels[3]).held = some (-63) ∧
    (after e (suspected 79 0 0 4095)).tmu.instants = 1 ∧ at3 e (suspected 79 7 0 4079) = .good ∧
    ((after e (suspected 79 0 0 4095)).fcl.records[5]).firstDetail = 3 ∧
    ((after e (suspected 79 0 0 4095)).fcl.records[5]).occurrences = 1 ∧
    ((after e (suspected 79 0 7 4095)).tmu.lastSet.map fun x => (x.readings[3]).health) = some .failed ∧
    at3 e State.reset = .good ∧ (reactionInForce defaultTables 5).restart = false ∧ (7 + 1) % 8 = 0 ∧ (0 + 1) % 8 ≠ 0 := by
  decide +kernel

theorem meets_LinearizationInterpolatesAndClamps :
    ascending [(100, 5), (200, 10), (300, -3)] = true ∧
    ([(100, 5), (200, 10), (300, -3)] : List (Nat × Int)) = [(100, 5)] ++ (200, 10) :: (300, -3) :: [] ∧
    ([(100, 5), (200, 10), (300, -3)] : List (Nat × Int)) = [(100, 5), (200, 10)] ++ [(300, -3)] := by decide

/-- A second boundary with S0 forming, S1 with a window too short and S2 not GOOD. -/
def nearBoundary : State :=
  State.reset.setTmu { State.reset.tmu with
    instants := 7
    channels := #v[{ TmuChannel.powerOn with window := [3148, 3151, 3150, 3152, 3149, 3150, 3151] },
      { TmuChannel.powerOn with window := [3000] }, { TmuChannel.powerOn with health := .failed }, TmuChannel.powerOn] }

theorem meets_ASecondBoundaryHandsTheSet :
    let t := after (.conversionInstant 3153 3000 3000 3000) nearBoundary
    nearBoundary.powered = true ∧ (nearBoundary.tmu.instants + 1) % 8 = 0 ∧
    (t.tmu.channels[0]).health = .good ∧ (t.tmu.channels[0]).window.length = 8 ∧ t.tmu.short = false ∧
    (t.tmu.channels[0]).held = some (-117) ∧
    (t.tmu.channels[1]).window.length ≠ 8 ∧ (t.tmu.channels[2]).health ≠ .good := by decide +kernel

/-- The ninth value and a tenth that drops the oldest; a raw code beyond the curve. -/
theorem meets_ASecondBoundaryHandsTheSet_ring :
    let s := fun (n code : Nat) => State.reset.setTmu { State.reset.tmu with
      instants := 7
      ring := List.replicate n 7
      channels := State.reset.tmu.channels.set 1 { TmuChannel.powerOn with window := List.replicate 8 code } }
    (after (.conversionInstant 2720 2720 2720 2720) (s 8 2720)).tmu.ring = List.replicate 8 7 ++ [30] ∧
    (after (.conversionInstant 2720 2720 2720 2720) (s 9 2720)).tmu.ring = List.replicate 8 7 ++ [30] ∧
    (((after (.conversionInstant 2720 100 2720 2720) (s 8 100)).tmu.channels[1]).outOfTable = true) := by decide +kernel

/-- Eight values in the ring and S1 with a full window, so that the boundary's value is the ninth. -/
def ringed (first : Int) : Tmu :=
  { State.reset.tmu with
    instants := 7
    ring := first :: List.replicate 7 0
    channels := State.reset.tmu.channels.set 1 { TmuChannel.powerOn with window := List.replicate 8 2720 } }

/-- The ninth value is 30: slopes 4, 5, 19 and 20, then a ring that is not full and a S1 that is not GOOD; the third code
out of range of S1, below and above the range. -/
theorem meets_DriftClassFollowsTheSlope :
    let c := Instr.conversionInstant 2720 2720 2720 2720
    (∀ k ∈ ([(26, 0), (25, 1), (11, 1), (10, 2)] : List (Int × Fin 3)),
      let u := (after c (State.reset.setTmu (ringed k.1))).tmu
      u.ring.length = 9 ∧ reportedHealth u 1 = .good ∧ u.ring.getLastD 0 - u.ring.headD 0 = 30 - k.1 ∧ u.drift = k.2) ∧
    (after c (State.reset.setTmu { ringed 0 with ring := [] })).tmu.ring.length < 9 ∧
    reportedHealth (after c (State.reset.setTmu { ringed 0 with short := true })).tmu 1 ≠ .good ∧
    let s := State.reset.setTmu { ringed 7 with
      channels := (ringed 7).channels.set 1 { TmuChannel.powerOn with outCount := 2 }, drift := 0, instants := 0 }
    s.powered = true ∧ s.tmu.short = false ∧ (s.tmu.channels[1]).health = .good ∧ (s.tmu.channels[1]).outCount = 2 ∧
    (after (.conversionInstant 2500 15 2500 2500) s).tmu.ring = [] ∧
    (after (.conversionInstant 2500 4080 2500 2500) s).tmu.drift = 1 := by decide +kernel

/-- The 599th and the 600th set, S0 above S3 by the filter delta and by a tenth less, at full duty and not; a sensor without
a temperature; the command after the 600th set, once more, and while the window is in progress. -/
theorem meets_AFilterWindowEndIsJudged :
    let s := fun (sets : Nat) (full : Bool) (a b : Option Int) =>
      let x := onHfd (fun h => { h with filter := some ⟨sets, full⟩, fanDuty := 1000 }) (inState .run)
      x.setTmu { x.tmu with
        instants := 7
        channels := #v[{ TmuChannel.powerOn with held := a }, TmuChannel.powerOn, TmuChannel.powerOn,
          { TmuChannel.powerOn with held := b }] }
    let c := Instr.conversionInstant 2500 2500 2500 2500
    let due := fun s => (after c s).hfd.loadedFilter
    let count := fun s => (s.fcl.records[10]).occurrences
    let judged := after c (s 599 true (some 778) (some 528))
    (s 599 true (some 778) (some 528)).tbs.tables.glob.filterDelta = 778 - 528 ∧ judged.hfd.fanDuty = 1000 ∧
    (∀ k ∈ ([5, 8, 10] : List FaultKind), (reactionInForce judged.tbs.tables k).restart = false) ∧
    due (s 598 true (some 778) (some 528)) = none ∧ due (s 599 true (some 778) (some 528)) = some 25 ∧
    due (s 599 true (some 777) (some 528)) = none ∧ due (s 599 false (some 778) (some 528)) = none ∧
    due (s 599 true none (some 528)) = none ∧ judged.hfd.filter = some ⟨0, true⟩ ∧ count judged = 0 ∧
    (after c (s 598 true (some 778) (some 528))).hfd.filter = some ⟨599, true⟩ ∧ nextDue judged = some .filterWindowEnd ∧
    count (after .filterWindowEnd judged) = 1 ∧ ((after .filterWindowEnd judged).fcl.records[10]).firstDetail = 25 ∧
    count (after .filterWindowEnd (after .filterWindowEnd judged)) = 1 ∧
    count (after .filterWindowEnd (s 599 true (some 778) (some 528))) = 0 := by decide +kernel

/-- A sum at the allotment and one above it; a zone that is invalid, latched or in cut-out. -/
theorem meets_ScaledDutiesFitTheAllotment :
    State.reset.hfd.railChange = .none ∧ HeatersOk State.reset ∧
    (![1000, 0, 0] : Fin 3 → Nat) 0 * (defaultTables.zones[0]).weight = 40 * 1000 ∧
    scaledDuty defaultTables (![1000, 0, 0]) 40 0 = 1000 ∧ scaledDuty defaultTables (![1000, 0, 1]) 40 0 = 999 ∧
    ((onH1 (fun c => { c with state := .latchedOff }) State.reset).hfd.channels[1]).state = .latchedOff ∧
    (inState .off).mbs.state = .off := by
  exact ⟨by decide +kernel, reset_heatersOk, by decide +kernel⟩

/-- A channel one period short of open-load, below and at one eighth of the trip level 25; a LATCHED_OFF
channel. Duty 999 ends with its on-time; duty 1000 stays on; an IDLE channel is left alone. -/
theorem meets_PeriodsTakeTheDutiesAndEndTheirOnTimes :
    let low := onH1 (fun c => { c with periodDuty := 1, lowCount := 9, level := 24 }) State.reset
    let load := onH1 (fun c => { c with periodDuty := 1, loadedCount := 9, level := 24, openLoad := true }) State.reset
    ((after (.periodStart 0 299 0) low).hfd.channels[1]).openLoad = true ∧ 299 * 8 < 24 * 100 ∧
    ((after (.periodStart 0 300 0) load).hfd.channels[1]).openLoad = false ∧ 24 * 100 ≤ 300 * 8 ∧
    ((after (.periodStart 0 299 0) low).fcl.records[7]).occurrences = 1 ∧
    ((after (.periodStart 0 299 0) low).fcl.records[7]).firstDetail = 1 ∧
    (State.reset.fcl.records[7]).state = .clear ∧ ((after (.periodStart 0 300 0) load).fcl.records[7]).occurrences = 0 ∧
    let counts := fun (peak low loaded : Nat) (trip : Bool) => ((after (.periodStart 0 peak 0) (onH1 (fun c =>
      { c with periodDuty := 1, level := 24, lowCount := low, loadedCount := loaded, tripped := trip }) State.reset)
      ).hfd.channels[1])
    (counts 299 0 8 false).lowCount = 1 ∧ (counts 299 0 8 false).loadedCount = 0 ∧ (counts 299 8 0 false).openLoad = false ∧
    (counts 300 8 0 false).lowCount = 0 ∧ (counts 300 8 0 false).loadedCount = 1 ∧ (counts 0 8 10 true).lowCount = 0 ∧
    (counts 0 8 10 true).loadedCount = 10 ∧ (inState .heatHold).znc.release = false ∧
    let tried := fun b => onH1 (fun c => { c with tripped := b, tripCount := 3 }) State.reset
    ((after (.periodStart 0 0 0) (tried true)).hfd.channels[1]).tripCount = 3 ∧
    ((after (.periodStart 0 0 0) (tried false)).hfd.channels[1]).tripCount = 0 ∧
    ((after (.periodStart 0 0 0) (onH1 (fun c => { c with state := .latchedOff, output := true, applied := 9 }) State.reset)
      ).hfd.channels[1]).output = false ∧
    ((after (.periodStart 0 0 0) (onH1 (fun c => { c with applied := 1 }) State.reset)).hfd.channels[1]).state = .driving ∧
    ((after (.periodStart 0 0 0) State.reset).hfd.channels[1]).state = .idle ∧
    (reactionInForce defaultTables 7).restart = false ∧ (inState .run).mbs.state ≠ .heatHold ∧
    let s := fun d => onH1 (fun c => { c with state := .driving, output := true, periodDuty := d }) State.reset
    ((s 999).hfd.channels[1]).state = .driving ∧ (State.reset.hfd.channels[1]).state ≠ .driving ∧
    ((after (.heaterOnTimeEnd 1) (s 999)).hfd.channels[1]).output = false ∧
    ((after (.heaterOnTimeEnd 1) (s 1000)).hfd.channels[1]).output = true := by decide +kernel

/-- 2001 mA on a channel whose level is 20, in each mode; the third and the fourth consecutive trip. -/
theorem meets_ATripActsByItsMode :
    let s := fun (m : TripMode) (n : Nat) =>
      onH1 (fun c => { c with state := .driving, output := true, mode := m, tripCount := n, level := 20 }) State.reset
    20 * 100 < 2001 ∧ ((s .chop 0).hfd.channels[1]).tripped = false ∧
    ((after (.heaterTrip 1 2000) (s .chop 0)).hfd.channels[1]).state = .driving ∧
    ((after (.heaterTrip 1 2001) (s .report 0)).hfd.channels[1]).state = .driving ∧
    ((after (.heaterTrip 1 2001) (s .chop 0)).hfd.channels[1]).state = .chopped ∧
    ((after (.heaterTrip 1 2001) (s .chopTimed 2)).hfd.channels[1]).state = .chopped ∧
    ((after (.heaterTrip 1 2001) (s .chopTimed 3)).hfd.channels[1]).state = .latchedOff ∧
    ((after (.heaterTrip 1 2001) (s .latch 0)).hfd.channels[1]).state = .latchedOff ∧
    (reactionInForce defaultTables 6).restart = false ∧
    let hot := onH1 (fun c => { c with applied := 7 }) (s .latch 0)
    ((after (.heaterTrip 1 2001) hot).hfd.channels[1]).applied = 0 ∧
    ((after (.heaterTrip 1 2001) (onH1 (fun c => { c with mode := .chop }) hot)).hfd.channels[1]).applied = 7 := by
  decide +kernel

/-- A stall timer one tick short; pulses at a duty of 199 and 200, and of a STALLED fan with an ACTIVE record. -/
theorem meets_FanStallsAndRecovers :
    let s := fun (d : Nat) (f : FanState) (n : Option Nat) =>
      onHfd (fun h => { h with fanDuty := d, fanState := f, stall := n }) (inState .run)
    let down := s 200 .stalled none
    let noted := { down with fcl := { down.fcl with records := down.fcl.records.set 9 ⟨.active, .hw, 1, 0, 0, 0⟩ } }
    let holding := { noted with fcl := { noted.fcl with hold := true } }
    (s 200 .running (some 199)).hfd.stall = some 199 ∧ onlyDue .stallTimerExpiry 1 (s 200 .running (some 199)) = true ∧
    onlyDue .stallTimerExpiry 200 (s 200 .running (some 0)) = true ∧
    (after .stallTimerExpiry (s 200 .running (some 0))).tick = 200 ∧
    holding.mbs.state ≠ .heatHold ∧ ((after .fanTachPulse holding).fcl.records[9]).state = .clear ∧
    ((after .stallTimerExpiry (s 200 .running (some 199))).fcl.records[9]).state = .active ∧
    (after .fanTachPulse (s 199 .running none)).hfd.stall = none ∧
    (after .fanTachPulse (s 200 .running (some 9))).hfd.stall = some 0 ∧
    noted.fcl.hold = false ∧ ((after .fanTachPulse noted).fcl.records[9]).state = .clear := by decide +kernel

/-- RUN with every zone at 700 and S3 at `x`. -/
def chamber (x : Int) (h : Health) : State := withSet (some 700) (some 700) (some 700) (some x) h (inState .run)

/-- Rail off; a zone below its release temperature and at it; S3 FAILED and without a temperature; S3 at fan_start, above
it, below fan_full and at it; the duties 0, 199, 200, 999 and 1000. -/
theorem meets_TheFanDutyFollowsItsTable :
    let cold := fun x => withSet (some 700) (some x) (some 700) (some 500) .good (inState .run)
    let set := fun d f n => setFanDuty d
      (onHfd (fun h => { h with fanState := f, stall := n, filter := some ⟨4, true⟩ }) (inState .run))
    State.reset.mbs.pwrEn = false ∧ fanDutyNow (cold 49) = 0 ∧ fanDutyNow (cold 50) = 1000 ∧
    fanDutyNow (chamber 500 .failed) = 1000 ∧
    fanDutyNow (withSet (some 700) (some 700) (some 700) none .good (inState .run)) = 1000 ∧
    fanDutyNow (chamber 350 .good) = 0 ∧ fanDutyNow (chamber 351 .good) = 304 ∧
    fanDutyNow (chamber 499 .good) = 995 ∧ fanDutyNow (chamber 500 .good) = 1000 ∧
    (set 0 .running (some 3)).hfd.fanState = .stopped ∧ (set 199 .running (some 3)).hfd.stall = none ∧
    (set 200 .stopped none).hfd.stall = some 0 ∧ (set 1000 .running (some 3)).hfd.stall = some 3 ∧
    (set 1000 .stalled none).hfd.stall = none ∧ (set 1000 .running none).hfd.filter = some ⟨4, true⟩ ∧
    (set 999 .running none).hfd.filter = some ⟨4, false⟩ ∧ State.reset.hfd.fanDuty = fanDutyNow State.reset := by
  decide +kernel

/-- Z1 at its release temperature and just below, Z2 at the edges of its cut-out, an invalid zone, a degraded one.
Release at the soak time and at the fallback time and just before each; a second boundary in RUN, and one in HEAT_HOLD
that releases. -/
theorem meets_TheZoneComputationFollowsItsRules :
    let s := fun (a b : Option Int) (h : Health) => withSet none a b none h State.reset
    z1ColdNow (s (some 50) none .good) = false ∧ z1ColdNow (s (some 49) none .good) = true ∧
    (((zoneComputation (s (some 50) (some 600) .good)).znc.zones[1]).soak = some 0) ∧
    (((zoneComputation (s (some 49) (some 600) .good)).znc.zones[1]).soak = none) ∧
    (((zoneComputation (s none (some 600) .good)).znc.zones[2]).cutOut = true) ∧
    (((zoneComputation (s none (some 599) .good)).znc.zones[2]).cutOut = false) ∧
    (((zoneComputation (s none (some 579) .good)).znc.zones[2]).cutOut = false) ∧
    zoneDegraded (s none (some 0) .failed) 2 = true ∧ (inState .run).mbs.state ≠ .heatHold ∧
    (s none (some 0) .good).tbs.tables.zones[2].valid = true ∧ zoneDegraded (s none (some 0) .good) 2 = false ∧
    (((onTables (fun T => { T with zones := T.zones.set 0 { T.zones[0] with valid := false } }) State.reset
      ).tbs.tables.zones[0]).valid = false) ∧
    let soaked := fun (n degraded : Nat) => (withSet none (some 50) (some 0) none .failed (State.reset)).setZnc
      { State.reset.znc with zones := #v[⟨false, 0, some n⟩, ⟨false, 0, some n⟩, ⟨false, degraded, none⟩] }
    releaseNow (soaked 60 900) = true ∧ releaseNow (soaked 59 900) = false ∧ releaseNow (soaked 60 899) = false ∧
    let ripe := fun m => (inState m).setTmu { State.reset.tmu with
      instants := 7, channels := tab fun _ => { TmuChannel.powerOn with window := List.replicate 7 2330 } }
    let warm := fun m => (ripe m).setZnc { State.reset.znc with zones := tab fun _ => ⟨false, 0, some 59⟩ }
    let c := Instr.conversionInstant 2330 2330 2330 2330
    (∀ k ∈ ([5, 8, 10] : List FaultKind), (reactionInForce (ripe .run).tbs.tables k).restart = false) ∧
    ((ripe .run).tmu.instants + 1) % 8 = 0 ∧ ((after c (ripe .run)).hfd.channels[0]).demand = 0 ∧
    (after c (ripe .heatHold)).mbs.state = .heatHold ∧ ((after c (ripe .heatHold)).hfd.channels[1]).demand = 0 ∧
    let hot := (ripe .run).setTmu { (ripe .run).tmu with
      channels := (ripe .run).tmu.channels.set 2 { TmuChannel.powerOn with window := List.replicate 8 100 } }
    (((after (.conversionInstant 2330 2330 100 2330) hot).znc.zones[2]).cutOut = true) ∧
    (((after (.conversionInstant 2330 2330 100 2330) hot).fcl.records[8]).occurrences = 1) ∧
    (((after (.conversionInstant 2330 2330 100 2330) hot).fcl.records[8]).firstDetail = 2) ∧
    (warm .heatHold).znc.release = false ∧ (after c (warm .heatHold)).fcl.hold = false ∧
    (after c (warm .heatHold)).mbs.state = .powering ∧ ((after c (warm .heatHold)).hfd.channels[0]).demand = 0 := by
  decide +kernel

/-- The rows: OFF; a temperature; a FAILED sensor, and one without a temperature, one set before its fallback time and at
it with the rail off; with the rail on, S3 GOOD below the target and at it, and not GOOD. -/
theorem meets_TheDemandComesFromTheFirstRow :
    let s := withSet (some 79) (some 0) none none .good State.reset
    let f := fun h n => (withSet none none (some 0) none h State.reset).setZnc
      { State.reset.znc with zones := State.reset.znc.zones.set 1 ⟨false, n, none⟩ }
    let on := fun a h => withSet none none none a h (inState .run)
    zoneDemand (inState .off) false 1 = 0 ∧ (s.tbs.tables.zones[1]).valid = true ∧ s.mbs.state ≠ .off ∧
    s.mbs.state ≠ .lockout ∧ (s.znc.zones[1]).cutOut = false ∧ (lastReading s 1).health ≠ .failed ∧
    zoneDemand s false 1 = 800 ∧ (lastReading (f .failed 899) 1).health = .failed ∧
    (lastReading (f .good 0) 1).temp = none ∧ zoneDemand (f .failed 899) false 1 = 400 ∧
    zoneDemand (f .failed 900) false 1 = 0 ∧ zoneDemand (f .good 0) false 1 = 400 ∧
    zoneDemand (on (some 99) .good) true 1 = 400 ∧ zoneDemand (on (some 100) .good) true 1 = 0 ∧
    zoneDemand (on (some 99) .suspect) true 1 = 0 ∧ zoneDemand (on none .good) true 1 = 0 := by decide +kernel

/-- Counts 1, 3 and 5 after the rise, and MAIN_PG in place of a reset; RESETTING absorbs. -/
theorem meets_ARestartDecisionClimbsTheLadder :
    let s := fun n => onMbs (fun m => { m with count := n }) (inState .boot)
    (restartDecision .bootTimeout 0 (s 1)).mbs.state = .resetting ∧
    (restartDecision .pgLost 0 (s 1)).mbs.state = .cycling ∧
    (restartDecision .bootTimeout 0 (s 2)).mbs.state = .cycling ∧
    (restartDecision .bootTimeout 0 (s 3)).mbs.state = .cycling ∧
    (restartDecision .bootTimeout 0 (s 4)).mbs.state = .lockout ∧
    (restartDecision .bootTimeout 0 (s 1)).mbs.resetTimer = some 20 ∧
    (restartDecision .pgLost 0 (s 1)).mbs.cycleTimer = some 1000 ∧
    (restartDecision .bootTimeout 0 (s 4)).mbs.lockoutTimer = some 360000 ∧
    let retry := fun n => onTables (fun T => { T with policy := { T.policy with lockoutRetry := n } }) (s 4)
    (restartDecision .bootTimeout 0 (retry 0)).mbs.lockoutTimer = none ∧
    (restartDecision .bootTimeout 0 (retry 1)).mbs.lockoutTimer = some 6000 ∧
    (inState .resetting).mbs.state ≠ .powering ∧ (inState .resetting).mbs.state ≠ .boot ∧
    (inState .resetting).mbs.state ≠ .run ∧ (inState .resetting).mbs.state ≠ .warn := by decide +kernel

/-- C5 held: a RESET keeps it down and suppressed, a CYCLE releases it after the flush; the chords are in range. -/
theorem meets_ARestartDecisionClimbsTheLadder_flush :
    DownKeysOk (heldC5 (inState .run)) ∧ (∀ i : Fin 8, ((heldC5 (inState .run)).tbs.tables.chords[i]).inRange = true) ∧
    let key := fun c => (restartDecision c 0 (heldC5 (inState .run))).keq.keys[5]
    (key .heartbeatMiss).down = true ∧ (key .heartbeatMiss).suppressed = true ∧ (key .pgLost).down = false ∧
    (key .pgLost).suppressed = false := ⟨heldC5_downKeysOk, by decide +kernel⟩

theorem meets_MainPgSamplesAreJudgedByState :
    (inState .powering).powered = true ∧ (reactionInForce (inState .boot).tbs.tables 4).restart = false ∧
    (after .mainPgHigh (onMbs (fun m => { m with pgRunning := true }) (inState .powering))).mbs.resetTimer = some 20 ∧
    (after .mainPgHigh (inState .powering)).mbs.resetTimer = none ∧
    (after .powerGoodLoss (onMbs (fun m => { m with resetTimer := some 3 }) (inState .powering))).mbs.pgRunning = true ∧
    (after .powerGoodLoss (inState .boot)).mbs.state = .cycling ∧ (after .powerGoodLoss (inState .run)).mbs.state = .cycling ∧
    (after .powerGoodLoss (inState .warn)).mbs.state = .cycling ∧
    (after .powerGoodLoss (inState .heatHold)).mbs.state = .heatHold := by decide +kernel

theorem meets_WatchdogExpiriesWarnOrRestart :
    let w := queued 30 (running 7)
    let quiet := onTables (fun T => { T with policy := { T.policy with warnEnable := false } }) (running 7)
    w.slp.tx ≠ .idle ∧ reportedCount w.keq + w.keq.queue.length < 32 ∧ w.mbs.heartbeatTimer = some 7 ∧
    w.tbs.tables.policy.warnEnable = true ∧ w.mbs.state = .run ∧
    (after .pgTimeout (onMbs (fun m => { m with pgRunning := true, pgLeft := 7 }) (inState .powering))).tick = 7 ∧
    (after .bootTimeout (onMbs (fun m => { m with bootTimer := some 7 }) (inState .boot))).mbs.state = .resetting ∧
    quiet.tbs.tables.policy.warnEnable = false ∧ (after .heartbeatExpiry quiet).mbs.state = .resetting ∧
    (after .heartbeatExpiry (onMbs (fun m => { m with state := .warn }) (running 7))).mbs.state = .resetting ∧
    onlyDue .heartbeatExpiry 7 w = true ∧ onlyDue .heartbeatExpiry 7 quiet = true ∧
    onlyDue .heartbeatExpiry 7 (onMbs (fun m => { m with state := .warn }) (running 7)) = true ∧
    onlyDue .pgTimeout 7 (onMbs (fun m => { m with pgRunning := true, pgLeft := 7 }) (inState .powering)) = true ∧
    onlyDue .bootTimeout 7 (onMbs (fun m => { m with bootTimer := some 7 }) (inState .boot)) = true ∧
    ∀ k : Fin 16, (reactionInForce defaultTables k).restart = false := by decide +kernel

theorem meets_TheResetPulseExpiryEntersBoot :
    let s := onMbs (fun m => { m with resetTimer := some 20, count := 1, bootCause := .bootTimeout }) (inState .resetting)
    s.mbs.resetTimer = some 20 ∧ s.keq.queue = [] ∧ reportedCount s.keq = 0 ∧
    onlyDue .resetPulseExpiry 20 s = true ∧
    (after .resetPulseExpiry s).tick = 20 ∧ (after .resetPulseExpiry s).mbs.bootTimer = some 18000 := by decide +kernel

theorem meets_AHeartbeatIsAcceptedOrStale :
    (running 1).slp.reply = none ∧ (running 1).mbs.token = some 0x41 ∧
    (after (.heartbeat 1 [0x42]) (onMbs (fun m => { m with bootTimer := some 1 }) (inState .boot))).mbs.state = .run ∧
    (after (.heartbeat 1 [0x42]) (onMbs (fun m => { m with state := .warn }) (running 1))).mbs.state = .run ∧
    (after (.heartbeat 1 [0x42]) State.reset).slp.reply = some ⟨0x82, 1, [0x15]⟩ := by decide +kernel

theorem meets_RailOffTimersReturnToHeating :
    let c := onMbs (fun m => { m with cycleTimer := some 9 }) (inState .cycling)
    let l := onMbs (fun m => { m with lockoutTimer := some 9, count := 5 }) (inState .lockout)
    let free := fun (s : State) => s.setZnc { s.znc with release := true }
    (free c).znc.release = true ∧ (free c).fcl.hold = false ∧ c.mbs.state = .cycling ∧ l.mbs.state = .lockout ∧
    (∀ s ∈ [c, free c], onlyDue .cycleTimerExpiry 9 s = true) ∧ (∀ s ∈ [l, free l], onlyDue .lockoutRetryExpiry 9 s = true) ∧
    (after .cycleTimerExpiry (free c)).mbs.state = .powering ∧ (after .cycleTimerExpiry c).mbs.state = .heatHold ∧
    (after .lockoutRetryExpiry (free l)).mbs.state = .powering ∧ (after .lockoutRetryExpiry l).mbs.state = .heatHold ∧
    let cold := withSet (some 90) (some 90) (some 90) none .good
    ((after .cycleTimerExpiry (cold (free c))).hfd.channels[1]).demand = 400 ∧
    ((after .cycleTimerExpiry (cold c)).hfd.channels[1]).demand = 0 := by decide +kernel

theorem meets_APowerRequestRestartsOrArms :
    let s := running 500
    s.slp.reply = none ∧ (after (.powerRequest 1 [3, 0]) s).slp.reply = some ⟨0xA0, 1, [0x13]⟩ ∧
    (after (.powerRequest 1 [2, 0]) s).slp.reply = some ⟨0xA0, 1, [0x13]⟩ ∧
    (after (.powerRequest 1 [2, 1]) State.reset).slp.reply = some ⟨0xA0, 1, [0x15]⟩ ∧
    (after (.powerRequest 1 [0, 9]) s).mbs.state = .resetting ∧ (after (.powerRequest 1 [1, 9]) s).mbs.state = .cycling ∧
    (after (.powerRequest 1 [2, 255]) s).mbs.shutdown = some 25500 := by decide +kernel

theorem meets_StableTimeAndPendingShutdownEnd :
    let s := onMbs (fun m => { m with runTicks := some 59999, count := 2 }) (running 500)
    let d := onMbs (fun m => { m with shutdown := some 3 }) (running 500)
    s.mbs.stable = some 600 ∧ s.mbs.runTicks = some 59999 ∧ (after .stableTimeReached s).tick = 1 ∧
    onlyDue .stableTimeReached 1 s = true ∧ (after .stableTimeReached s).mbs.count = 0 ∧ d.mbs.shutdown = some 3 ∧
    d.mbs.state = .run ∧ onlyDue .pendingShutdownExpiry 3 d = true ∧ (after .pendingShutdownExpiry d).tick = 3 ∧
    (after .pendingShutdownExpiry d).mbs.state = .off := by decide +kernel

theorem meets_HistoryMarkPushesAndClearEmpties :
    (running 5).powered = true ∧ (running 5).slp.reply = none ∧ (List.replicate 8 (1 : Byte)).length = 8 ∧
    (running 5).mbs.state = .run ∧ State.reset.mbs.state ≠ .run ∧ State.reset.mbs.state ≠ .warn := by decide +kernel

/-- Selectors 5 and 6, a table read at its last entry and one past it, depths with and without an entry, kinds 15 and
16, indexes 19, 21 and 22. -/
theorem meets_ReadRequestsChangeOnlyTheLink :
    let st := fun c => (after c State.reset).slp.reply.map fun f => f.payload.headD 0
    State.reset.slp.reply = none ∧ State.reset.rhs.entries.length = 1 ∧
    [st (.statusRead 1 [5]), st (.statusRead 1 [6]), st (.tableRead 1 [6, 15, 1]), st (.tableRead 1 [6, 15, 2]),
      st (.tableRead 1 [7, 0, 1]), st (.tableRead 1 [0, 0, 0]), st (.tableRead 1 [0, 0, 15]), st (.tableRead 1 [0, 0, 16]),
      st (.historyRead 1 [0, 0]), st (.historyRead 1 [0, 1]), st (.historyRead 1 [1, 0]), st (.historyRead 1 [16, 0]),
      st (.faultRead 1 [15]), st (.faultRead 1 [16]), st (.touchRead 1 [19]), st (.touchRead 1 [21]),
      st (.touchRead 1 [22])] =
    [some 0, some 0x13, some 0, some 0x13, some 0x12, some 0x13, some 0, some 0x13, some 0, some 0x13, some 0x16,
      some 0x13, some 0, some 0x13, some 0, some 0, some 0x13] := by decide +kernel

/-- Chapter 12, R198 and R199: fields at their offsets; a negative temperature, no temperature, a pin of 16 bits. -/
theorem meets_ReadRequestsChangeOnlyTheLink_layouts :
    let s := onMbs (fun m => { m with count := 3, shutdown := some 101, heartbeatTimer := some 501 }) (inState .run)
    let t := State.reset.setTmu { State.reset.tmu with
      channels := State.reset.tmu.channels.set 2 { TmuChannel.powerOn with held := some (-117), health := .suspect } }
    let restart : HistoryEntry := ⟨7, 0x1234, .restart
      ⟨.chord, 1, .cycle, .warn, 2, #v[-1, 500, -32768, 0], 300, 65535, 0x41, false⟩⟩
    statusItems s 0 = [4, 3, 2, 0, 51] ∧ ((statusItems t 1).drop 8).take 4 = [255, 139, 1, 0] ∧
    (statusItems t 1).take 4 = [128, 0, 0, 0] ∧
    PinsOk State.reset ∧ (statusItems State.reset 4).take 4 = [3, 32, 0, 0] ∧
    restart.group 0 = some [0x12, 0x34, 10, 1, 2, 5, 2] ∧ restart.group 1 = some [255, 255, 1, 244, 128, 0, 0, 0] ∧
    restart.group 2 = some [1, 44, 255, 255, 0x41, 0] ∧ restart.group 3 = none ∧
    (⟨7, 9, .mark [1, 2, 3, 4, 5, 6, 7, 8]⟩ : HistoryEntry).group 3 = some [1, 2, 3, 4, 5, 6, 7, 8] := by
  unfold PinsOk
  decide +kernel

/-- Lengths just beside the right ones; a TABLE WRITE whose entries are one byte short and one long, for count 1 and 0. -/
theorem meets_WrongLengthsAreAnsweredBadLength :
    let st := fun c => (after c State.reset).slp.reply.map fun f => f.payload
    [st (.ident 1 [0]), st (.heartbeat 1 []), st (.tableLock 1 [0]), st (.panelSet 1 [0, 0]),
      st (.historyMark 1 (List.replicate 9 0)), st (.tableWrite 1 [0, 0]), st (.tableWrite 1 [0, 0, 1, 1, 1, 1]),
      st (.tableWrite 1 [6, 0, 1, 1, 1, 1]), st (.tableWrite 1 [6, 0, 0, 1])] = List.replicate 9 (some [0x11]) := by
  decide +kernel

/-- Each clause at its edge: `on` 60, `off` 45, baseline 1000 counts. -/
theorem meets_AKeyIsConfirmedReleasedOrStuck :
    let k := fun (st : KeyState) (n : Nat) (stuck : Option Nat) (c : Nat) =>
      ({ TouchKey.powerOn true with baseline := 16000, state := st, arming := n, stuck := stuck } : TouchKey).sense 60 45 8 c
    (k .idle 0 none 1060).1.state = .arming ∧ (k .idle 0 none 1059).1.state = .idle ∧
    (k .arming 1 none 1060).1.arming = 2 ∧ (k .arming 2 none 1060).1.state = .touched ∧
    (k .arming 2 none 1059).1.state = .idle ∧ (k .releasing 0 (some 5) 1044).1.state = .idle ∧
    (k .touched 0 (some 5999) 1044).1.state = .releasing ∧ (k .releasing 0 (some 5) 1045).1.state = .touched ∧
    (k .touched 0 (some 6000) 1044).1.state = .idle ∧ (k .touched 0 (some 6000) 1045).1.state = .idle ∧
    (k .idle 0 none 955).1.baseline = 955 * 16 ∧ (k .idle 0 none 956).1.baseline = 15978 ∧
    (k .releasing 0 (some 5) 1044).1.baseline = 16022 ∧ (k .releasing 0 (some 5) 955).1.baseline = 955 * 16 ∧
    (k .arming 2 none 1059).1.baseline = 16029 ∧ (k .arming 1 none 955).1.baseline = 955 * 16 := by decide +kernel

/-- The scan instants of STANDBY and ACTIVE; references in range and ready, every scanned channel awaiting its re-seed,
counts at the edges of the range. -/
theorem meets_AReseedingScanStartsFreshBaselines :
    let s := { State.reset with
      tick := 8
      tsu := { State.reset.tsu with
        disagree := 8, refs := tab fun _ => { TouchRef.powerOn with baseline := 14400, seed := false } } }
    let at? := fun (m : MbsState) (tick : Nat) (last : Option Nat) =>
      atScanInstant { inState m with tick := tick, tsu := { (inState m).tsu with lastScan := last } }
    let raw : Vector (BitVec 16) 22 := (Vector.replicate 22 64).set 0 65534
    at? .heatHold 0 none = false ∧ at? .heatHold 7 none = false ∧ at? .heatHold 8 none = true ∧
    at? .heatHold 8 (some 8) = false ∧ at? .run 0 none = true ∧ at? .run 1 (some 1) = false ∧ at? .run 1 (some 0) = true ∧
    s.powered = true ∧ atScanInstant s = true ∧ (s.fcl.records[11]).state ≠ .active ∧ (s.fcl.records[13]).state ≠ .active ∧
    s.tsu.disagreement = false ∧ s.tsu.disagree < 9 ∧
    (∀ i : Fin 2, touchInRange (refRaw raw i) = true ∧ (s.tsu.refs[i]).faulted = false ∧ (s.tsu.refs[i]).seed = false) ∧
    (∀ c : Fin 20, (s.tsu.keys[c]).scanned = true → touchInRange (keyRaw raw c) = true ∧
      (s.tsu.keys[c]).faulted = false ∧ (s.tsu.keys[c]).seed = true) ∧
    (s.tsu.keys[0]).scanned = true ∧ (s.tsu.keys[5]).scanned = false := by decide +kernel

/-- Each count at its edge; references 200 and 201 apart, the tenth scan apart and the tenth that agrees; guard by Z1 cold
with a duty, without one, and by the condition. -/
theorem meets_ChannelFaultsDisagreementAndGuard :
    touchInRange 63 = false ∧ touchInRange 64 = true ∧ touchInRange 65534 = true ∧ touchInRange 65535 = false ∧
    judgeFault 63 false 2 0 = (false, 3, 0) ∧ judgeFault 63 false 3 0 = (true, 4, 0) ∧
    judgeFault 64 true 4 14 = (true, 4, 15) ∧ judgeFault 64 true 4 15 = (false, 0, 16) ∧
    let pair := fun (a : Nat) (dis agr : Nat) (was : Bool) => ({ State.reset.tsu with
      disagree := dis, agree := agr, disagreement := was
      refs := #v[⟨1000 + a, 0, 16000, false, 0, 0, false⟩, ⟨1000, 0, 16000, false, 0, 0, false⟩] } : Tsu).compareRefs
    (pair 200 0 0 false).dRef = 100 ∧ (pair 200 4 0 false).disagree = 0 ∧ (pair 201 4 0 false).disagree = 5 ∧
    (pair 201 9 0 false).disagreement = true ∧ (pair 201 8 0 false).disagreement = false ∧
    (pair 200 0 9 true).disagreement = false ∧ (pair 200 0 8 true).disagreement = true ∧
    (State.reset.tsu.refs[0]).usable = false ∧ State.reset.znc.z1Cold = true ∧ guardNow State.reset false = false ∧
    guardNow (onH1 (fun c => { c with applied := 1 }) State.reset) false = true ∧ guardNow State.reset true = true ∧
    let s := (inState .run).setTsu { (inState .run).tsu with
      disagree := 9, refs := tab fun _ => { TouchRef.powerOn with baseline := 16000, seed := false } }
    let t := after (.scan ((Vector.replicate 22 1000).set 20 1201)) s
    atScanInstant s = true ∧ t.tsu.disagreement = true ∧ t.tsu.guarded = true ∧
    (t.fcl.records[13]).occurrences = 1 := by decide +kernel

/-- The fourth measurement out of range of C0, scanned in STANDBY. -/
theorem meets_ChannelFaultsDisagreementAndGuard_fault :
    let s := { State.reset with
      tick := 8
      tsu := { State.reset.tsu with keys := upd State.reset.tsu.keys 0 fun k => { k with outCount := 3 } } }
    let t := after (.scan ((Vector.replicate 22 1000).set 0 63)) s
    ScannedSetOk s ∧ atScanInstant s = true ∧ (t.tsu.keys[0]).faulted = true ∧ (t.fcl.records[11]).firstDetail = 0 ∧
    (t.fcl.records[11]).occurrences = 1 := by
  refine ⟨?_, by decide +kernel⟩
  unfold ScannedSetOk
  decide +kernel

/-- A key one tick short of 60 s at a scan instant, TOUCHED and RELEASING at the edge of its threshold; a scan that finds
the timer at 6000; STANDBY, where the scan waits for tick 8. -/
theorem meets_AStuckKeyIsReleasedAndReseeded :
    let s := fun m st n => onC5 (fun k => { k with
      state := st, stuck := some n, baseline := 16000, scanned := true, seed := false }) (inState m)
    let raw : Vector (BitVec 16) 22 := Vector.replicate 22 1045
    ((s .run .touched 5999).tsu.keys[5]).state = .touched ∧ (s .run .touched 5999).powered = true ∧
    scanWait (s .run .touched 5999).tsu.mode none 1 = 0 ∧ onlyDue (.stuckTimerExpiry 5) 1 (s .run .touched 5999) = true ∧
    scanWait (s .heatHold .touched 5999).tsu.mode none 1 = 7 ∧
    onlyDue (.stuckTimerExpiry 5) 8 (s .heatHold .touched 5999) = true ∧
    atScanInstant (s .run .releasing 6000) = true ∧ ((s .run .releasing 6000).tsu.keys[5]).faulted = false ∧
    ((s .run .releasing 6000).tbs.tables.keymap[5]).valid = true ∧ touchInRange (keyRaw raw 5) = true ∧
    (scanPrepared raw (s .run .releasing 6000)).dRef = 0 ∧
    offThreshold (scanPrepared raw (s .run .releasing 6000)).guarded defaultTables.keymap[5] = 45 ∧
    ((s .run .releasing 6000).fcl.records[12]).occurrences < 255 ∧
    ((after (.scan raw) (s .run .releasing 6000)).tsu.keys[5]).state = .idle ∧
    ((after (.scan raw) (s .run .touched 6000)).fcl.records[12]).occurrences = 1 ∧
    let held := onC5 (fun k => { k with raw := 1045 }) (s .run .touched 5999)
    let t := after (.stuckTimerExpiry 5) held
    onlyDue (.stuckTimerExpiry 5) 1 held = true ∧ (held.tsu.keys[5]).scanned = true ∧ (held.tsu.keys[5]).seed = false ∧
    touchInRange 1045 = true ∧ (t.tsu.keys[5]).state = .idle ∧ (t.tsu.keys[5]).baseline = 1045 * 16 ∧
    (t.keq.keys[5]).down = false ∧ (t.fcl.records[12]).occurrences = 1 ∧ (t.fcl.records[12]).lastStamp = 1 := by
  decide +kernel

/-- The last scan at this tick, and none yet. -/
theorem meets_AStuckKeyIsReleasedAndReseeded_lastScan : LastScanOk scannedAt8 ∧ LastScanOk (inState .run) :=
  ⟨fun k h => by cases h; decide, fun k h => by cases h⟩

/-- A full reserve and one free entry more, for each of the four rules; a state that discards; an idle transmitter in BOOT and
RUN, with room and without, and one that finds a reply. -/
theorem meets_OffersAreJudgedByTheRoomLeft :
    let s := fun n => reportedC2 (queued n (inState .boot))
    let e := fun (k : EventKind) (c : Nat) => (⟨k, 0, .normal, c, false, 0⟩ : Event)
    (s 0).slp.tx ≠ .idle ∧ (s 0).mbs.state = .boot ∧
    roomFor (s 22).keq (e .keyRepeat 2) = true ∧ roomFor (s 23).keq (e .keyRepeat 2) = false ∧
    roomFor (s 29).keq (e .keyDown 5) = true ∧ roomFor (s 30).keq (e .keyDown 5) = false ∧
    roomFor (s 30).keq (e .keyDown 2) = true ∧ roomFor (s 30).keq (e .fault 0) = true ∧
    roomFor (s 31).keq (e .fault 0) = false ∧ roomFor (s 31).keq (e .keyUp 2) = true ∧
    (queued 3 State.reset).mbs.state = .heatHold ∧
    let idle := fun (m : MbsState) (n : Nat) => (queued n (inState m)).setSlp { (inState m).slp with tx := .idle }
    (idle .boot 0).slp.tx = .idle ∧ (idle .boot 0).slp.reply = none ∧ (idle .boot 0).mbs.state = .boot ∧
    (idle .run 0).mbs.state = .run ∧ roomFor (idle .run 31).keq (e .store 0) = true ∧
    roomFor (idle .run 32).keq (e .store 0) = false ∧ (offer (e .store 0) (idle .boot 0)).keq.queue = [e .store 0] ∧
    (offer (e .store 0) (idle .run 0)).slp.tx = .event (e .store 0).frame.bytes ∧
    (offer (e .store 0) (idle .run 0)).keq.queue = [] ∧ (offer (e .store 0) (idle .run 1)).keq.queue = [e .store 0] ∧
    let replying := (idle .warn 0).setSlp { (idle .warn 0).slp with reply := some ⟨0x81, 1, [0]⟩ }
    replying.mbs.state = .warn ∧ replying.slp.tx = .idle ∧ replying.slp.reply = some ⟨0x81, 1, [0]⟩ := by decide +kernel

/-- Each case of R130 and of R131, the chord states with the members held and not, and a scan that confirms C5, one that
ends the touch, and one in which C5 is IDLE and loses its suppressed mark. -/
theorem meets_KeysAndChordsFollowTheirTransitions :
    let off := onTables (fun T => { T with keymap := T.keymap.set 2 { T.keymap[2] with valid := false } }) (inState .run)
    let marked := updKey 2 (fun k => { k with suppressed := true }) (inState .run)
    let local? := onTables (fun T => { T with keymap := T.keymap.set 2 { T.keymap[2] with isLocal := true } }) (inState .run)
    let full := fun n => queued n (inState .run)
    let scan := fun (st : KeyState) (n raw : Nat) => ((Vector.replicate 22 1000).set 5 (BitVec.ofNat 16 raw),
      updKey 5 (fun k => { k with down := true, suppressed := true }) (onC5 (fun k => { k with
        state := st, arming := n, stuck := some 3, baseline := 16000, scanned := true, seed := false }) (inState .run)))
    (off.tbs.tables.keymap[2]).valid = false ∧ ((updKey 2 (fun k => { k with down := true }) marked).keq.keys[2]).suppressed = true ∧
    ((inState .off).tbs.tables.keymap[0]).wake = true ∧ (touchTransition 0 (inState .off)).mbs.bootCause = .key ∧
    ((inState .off).tbs.tables.keymap[2]).wake = false ∧ (local?.tbs.tables.keymap[2]).isLocal = true ∧
    (full 30).slp.tx ≠ .idle ∧ reportedCountWith (full 30).keq 2 < 32 - (full 30).keq.queue.length ∧
    ¬reportedCountWith (full 31).keq 2 < 32 - (full 31).keq.queue.length ∧
    (full 31).keq.queue = (full 30).keq.queue ++ [⟨.restart, 0, .normal, 0, false, 0⟩] ∧
    ((touchTransition 2 (full 30)).keq.keys[2]).reported = some 3 ∧
    ((touchTransition 2 (full 31)).keq.keys[2]).unreported = true ∧
    ((reportedC2 (full 3)).keq.keys[2]).reported = some 3 ∧ (reportedC2 (full 3)).mbs.state.admits = true ∧
    ((releaseTransition 2 .fault (reportedC2 (full 3))).keq.queue.map fun e => e.cause).getLast? = some .fault ∧
    (∀ c ∈ [(scan .arming 2 1060), (scan .releasing 0 1044), (scan .idle 0 1000)],
      atScanInstant c.2 = true ∧ c.2.mbs.state ≠ .off ∧ c.2.mbs.state ≠ .heatHold ∧
      ∀ k ∈ ([11, 12, 13] : List FaultKind), (reactionInForce c.2.tbs.tables k).restart = false) ∧
    (let c := scan .arming 2 1060; (scanKey c.1 c.2 5).2 = .touch) ∧
    (let c := scan .releasing 0 1044; (scanKey c.1 c.2 5).2 = .release .normal) ∧
    (let c := scan .idle 0 1000; (scanKey c.1 c.2 5).2 = .none ∧
      ((after (.scan c.1) c.2).keq.keys[5]).suppressed = false) := by decide +kernel

theorem meets_ARepeatRaisesItsCount :
    let s := updKey 2 (fun k => { k with repeatTimer := 40 }) (reportedC2 (queued 22 (inState .run)))
    (s.keq.keys[2]).reported = some 3 ∧ (s.keq.keys[2]).nextRepeat = 50 ∧ onlyDue (.repeatDue 2) 10 s = true ∧
    s.slp.tx ≠ .idle ∧ s.mbs.state = .run ∧
    reportedCount s.keq + 8 < 32 - s.keq.queue.length ∧ (s.tbs.tables.keymap[2]).repeats = true ∧
    (s.tbs.tables.keymap[2]).isLocal = false ∧ (s.tbs.tables.keymap[0]).repeats = false := by decide +kernel

/-- A TIMING chord of each action, in a state where it acts and in one where it does not. -/
theorem meets_AChordFiresItsAction :
    let s := fun (a : ChordAction) (m : MbsState) =>
      let x := onTables (fun T => { T with chords := T.chords.set 0 { T.chords[0] with action := a } }) (inState m)
      x.setKeq { x.keq with chords := x.keq.chords.set 0 ⟨.timing, 499⟩ }
    let st := fun a m => (after (.chordFire 0) (s a m)).mbs.state
    ((s .report .run).keq.chords[0]).state = .timing ∧ (after (.chordFire 0) (s .report .run)).tick = 1 ∧
    (∀ a ∈ [ChordAction.report, .heatOverride, .cycle, .restart, .powerOff, .powerOn],
      ∀ m ∈ [MbsState.off, .heatHold, .run, .lockout], onlyDue (.chordFire 0) 1 (s a m) = true) ∧
    (after (.chordFire 0) (s .heatOverride .heatHold)).znc.override = true ∧
    (after (.chordFire 0) (s .heatOverride .run)).znc.override = false ∧
    st .cycle .run = .cycling ∧ st .restart .run = .resetting ∧ st .cycle .lockout = .lockout ∧
    st .restart .heatHold = .heatHold ∧ st .powerOff .run = .off ∧ st .powerOff .heatHold = .off ∧
    st .powerOff .off = .off ∧ st .powerOff .lockout = .off ∧ st .powerOn .off = .heatHold ∧
    st .powerOn .lockout = .heatHold ∧ st .powerOn .run = .run ∧
    (s .report .run).slp.tx = .idle ∧ (s .report .run).keq.queue = [] ∧
    (after (.chordFire 0) (busy (s .report .boot))).keq.queue = [⟨.chord, 0, .normal, 5, false, 1⟩] ∧
    (after (.chordFire 0) (s .powerOff .run)).slp.tx = .event (Event.frame ⟨.chord, 0, .normal, 2, false, 1⟩).bytes := by
  decide +kernel

/-- A TIMING chord 0 one tick from firing, with its action, in a supervisory state, the release condition present or not. -/
def timing (a : ChordAction) (m : MbsState) (release : Bool) : State :=
  let s := onTables (fun T => { T with chords := T.chords.set 0 { T.chords[0] with action := a } }) (inState m)
  { s.setZnc { s.znc with release := release } with
    keq := { s.keq with chords := s.keq.chords.set 0 ⟨.timing, 499⟩ } }

/-- The departures and wakes of a fired chord and their entries, from each kind of state and with release. -/
theorem meets_AChordFiresItsAction_entries :
    let body := fun a m r => (after (.chordFire 0) (timing a m r)).rhs.entries.head?.map fun e => e.body
    let st := fun a m r => (after (.chordFire 0) (timing a m r)).mbs.state
    let none4 : Vector Int 4 := #v[-32768, -32768, -32768, -32768]
    (∀ a ∈ [ChordAction.cycle, .restart, .powerOff, .powerOn], ∀ m ∈ [MbsState.off, .cycling, .boot, .resetting, .lockout],
      ∀ r ∈ [false, true], onlyDue (.chordFire 0) 1 (timing a m r) = true) ∧
    body .cycle .boot false = some (.restart ⟨.chord, 0, .cycle, .boot, 0, none4, 0, 0, 0, true⟩) ∧
    body .restart .powering false = some (.restart ⟨.chord, 0, .reset, .powering, 0, none4, 0, 0, 0, true⟩) ∧
    body .powerOff .resetting false = some (.restart ⟨.chord, 0, .off, .resetting, 0, none4, 0, 0, 0, true⟩) ∧
    body .powerOff .lockout false = some (.wake ⟨.chord, 0, .off, .lockout, 0, none4⟩) ∧
    body .powerOff .cycling false = some (.powerOn .defaults) ∧ st .powerOff .cycling false = .off ∧
    body .powerOn .off true = some (.wake ⟨.chord, 0, .none, .off, 0, none4⟩) ∧ st .powerOn .off true = .powering ∧
    st .powerOn .lockout true = .powering ∧ st .powerOn .boot true = .boot := by decide +kernel

/-- Chords 2 and 5, hold times 5 and 6, due at the same tick: the command of either fires 2 first, then 5 unless 2 has
flushed it; the tables in range, no key held. -/
def twoDue (a : ChordAction) : State :=
  let s := onTables (fun T => { T with
    chords := (T.chords.set 2 { T.chords[2] with hold := 5, action := a }).set 5
      { T.chords[5] with valid := true, members := memberMask [0, 7], hold := 6, action := .report } }) (busy (inState .run))
  s.setKeq { s.keq with chords := (s.keq.chords.set 2 ⟨.timing, 47⟩).set 5 ⟨.timing, 57⟩ }

theorem meets_AChordFiresItsAction_order :
    let c := Instr.chordFire
    (DownKeysOk (twoDue .restart) ∧ TablesOk (twoDue .restart)) ∧
    chordLeft (twoDue .report) 2 = some 3 ∧ chordLeft (twoDue .report) 5 = some 3 ∧
    (∀ a ∈ [ChordAction.report, .restart],
      ((ownEvents (twoDue a)).all fun e => e.1 == c 5 || e.1 == c 2 || !dueWithin 3 e) = true) ∧
    ((after (c 5) (twoDue .report)).keq.queue.map fun e => e.subject) = [2, 5] ∧
    ((after (c 2) (twoDue .report)).keq.queue.map fun e => e.subject) = [2] ∧
    after (c 5) (twoDue .restart) = after (c 5) (after (c 2) (twoDue .restart)) ∧
    ((after (c 5) (twoDue .restart)).keq.chords[5]).state = .idle := by
  refine ⟨⟨?_, ?_, trivial, trivial⟩, by decide +kernel⟩
  · unfold DownKeysOk; decide +kernel
  · unfold Tables.inRange; decide +kernel

/-- Outputs 5 and 6, levels at and above the largest, a cold clamp, a state not permitted, an invalid entry. -/
theorem meets_PanelSetStoresAndApplies :
    let s := inState .run
    let st := fun c s => (after c s).slp.reply.map fun f => f.payload.headD 0
    s.slp.reply = none ∧ st (.panelSet 1 [6, 0, 0]) s = some 0x13 ∧ st (.panelSet 1 [5, 0, 1]) s = some 0 ∧
    st (.panelSet 1 [5, 0, 2]) s = some 1 ∧ st (.panelSet 1 [0, 1, 44]) s = some 0 ∧
    st (.panelSet 1 [0, 1, 45]) s = some 1 ∧ s.znc.z1Cold = true ∧
    st (.panelSet 1 [0, 0, 0]) State.reset = some 0x15 ∧
    st (.panelSet 1 [0, 0, 0]) (onTables (fun T => { T with gate := T.gate.set 0 { T.gate[0] with valid := false } }) s) =
      some 0x13 := by decide +kernel

theorem meets_OccurrencesMoveTheirRecord :
    let s := State.reset
    (s.fcl.records[6]).state = .clear ∧ (s.fcl.records[6]).cls = .sw ∧
    (s.fcl.records[9]).state = .clear ∧ (s.fcl.records[9]).cls = .hw ∧ eventLike 9 = false ∧
    (s.fcl.records[0]).state = .clear ∧ (s.fcl.records[0]).cls = .hw ∧ eventLike 0 = true ∧
    (s.fcl.records[14]).state ≠ .clear := by decide +kernel

/-- F6 under REPORT and RESTART: the FAULT event, the restart with kind 6 as detail, F15 at the top of the ladder; a RESTART
absorbed in HEAT_HOLD. -/
theorem meets_OccurrencesMoveTheirRecord_reactions :
    let s := fun m restart =>
      busy (onReaction 6 (fun e => { e with valid := true, report := true, restart := restart }) (inState m))
    let top := onMbs (fun m => { m with count := 4 }) (s .boot true)
    let e := fun m r => reactionInForce (s m r).tbs.tables 6
    (e .run true).report = true ∧ (e .run true).restart = true ∧ (e .run false).restart = false ∧
    ((s .run true).fcl.records[6]).state = .clear ∧
    (reactionInForce (onReaction 7 (fun e => { e with report := false }) (s .run false)).tbs.tables 7).report = false ∧
    (report 6 1 (s .run false)).keq.queue = [⟨.fault, 6, .normal, 1, false, 0⟩] ∧
    (report 6 1 (s .run true)).mbs.state = .resetting ∧ (report 6 1 (s .run true)).mbs.bootCause = .fault ∧
    (report 6 1 top).mbs.state = .lockout ∧ ((report 6 1 top).fcl.records[15]).firstDetail = 2 ∧
    (report 6 1 (s .heatHold true)).mbs.state = .heatHold := by decide +kernel

/-- Kinds 15, 16 and 0xFF; F14 clears at reset, F9 does not, F6 releases a LATCHED_OFF channel. -/
theorem meets_FaultClearClearsWhatMayClear :
    let s := onH1 (fun c => { c with state := .latchedOff, tripCount := 0 }) State.reset
    let six := { s with fcl := { s.fcl with records := s.fcl.records.set 6 ⟨.latched, .sw, 4, 1, 0, 0⟩ } }
    six.powered = true ∧ six.slp.reply = none ∧ six.fcl.hold = false ∧ faultCondition six 6 = false ∧
    (after (.faultClear 1 [0xFF]) six).slp.reply = some ⟨0xD1, 1, [0, 2]⟩ ∧
    ((after (.faultClear 1 [6]) six).hfd.channels[1]).state = .idle ∧
    ((after (.faultClear 1 [14]) six).hfd.channels[1]).state = .latchedOff ∧
    (after (.faultClear 1 [16]) six).slp.reply = some ⟨0xD1, 1, [0x13]⟩ ∧
    (after (.faultClear 1 [15]) six).slp.reply = some ⟨0xD1, 1, [0, 0]⟩ ∧
    let waiting := six.setZnc { six.znc with zones := tab fun _ => ⟨true, 5, some 3⟩ }
    ((after (.faultClear 1 [6]) waiting).znc.zones[1]) = ⟨true, 0, some 3⟩ ∧
    ((after (.faultClear 1 [14]) waiting).znc.zones[1]) = ⟨true, 5, some 3⟩ := by decide +kernel

/-- F6 LATCHED under HOLD: cleared in RUN, in HEAT_HOLD without release, and with it, where the main board is switched on. -/
theorem meets_FaultClearClearsWhatMayClear_hold :
    let s := fun m release =>
      let x := withRecord 6 ⟨.latched, .sw, 4, 1, 0, 0⟩
        (onReaction 6 (fun e => { e with valid := true, hold := true }) (inState m))
      { x.setZnc { x.znc with release := release } with fcl := { x.fcl with hold := true } }
    let st := fun m r => ((after (.faultClear 1 [6]) (s m r)).mbs.state, (after (.faultClear 1 [6]) (s m r)).fcl.hold)
    (s .run true).fcl.hold = true ∧ (s .run true).slp.reply = none ∧ faultCondition (s .run true) 6 = false ∧
    st .run true = (.run, false) ∧ st .heatHold false = (.heatHold, false) ∧ st .heatHold true = (.powering, false) ∧
    (after (.faultClear 1 [14]) (s .heatHold true)).fcl.hold = true := by decide +kernel

/-- The receiver in a state, with its gap timer. -/
def receiving (r : RxState) (gap : Option Nat) : State :=
  State.reset.setSlp { State.reset.slp with rx := r, gap := gap }

/-- A reply in the buffer, being sent. -/
def answering : State :=
  State.reset.setSlp { State.reset.slp with reply := some ⟨0x81, 0, [0]⟩, tx := .reply (Frame.bytes ⟨0x81, 0, [0]⟩) }

theorem meets_BadFramesReportF0 :
    (receiving .length (some 0)).slp.rx = .length ∧ (1#8).toNat < 2 ∧ 65 < (66#8).toNat ∧
    (receiving .body (some 4)).slp.gap.isSome = true ∧ (receiving .hunt none).slp.rx = .hunt ∧
    State.reset.slp.rx = .resync ∧ answering.slp.reply.isSome = true ∧
    (after (.badLengthByte 66) (receiving .length (some 0))).slp.rx = .resync ∧
    (after .gapTimeout (receiving .body (some 4))).slp.rx = .hunt ∧
    ((after .overrun answering).fcl.records[0]).firstDetail = 4 ∧ isRequestKind 0x61 = false ∧
    ((after (.ident 1 []) answering).fcl.records[0]).firstDetail = 4 ∧
    (after (.historyClear 1 []) answering).rhs = answering.rhs ∧
    (after (.unknownKind 0x61 1 []) answering).slp.reply = answering.slp.reply := by decide +kernel

theorem meets_TheReceiverHuntsAndResyncs :
    (receiving .hunt none).powered = true ∧ (after (.goodCharacter 0xA5) (receiving .hunt none)).slp.rx = .length ∧
    (after (.goodCharacter 0xA4) (receiving .hunt none)).slp.rx = .hunt ∧
    (after (.goodCharacter 0xA5) State.reset).slp.rx = .resync ∧
    (after (.goodCharacter 2) (receiving .length (some 0))).slp.rx = .body ∧
    (after (.goodCharacter 65) (receiving .length (some 0))).slp.rx = .body ∧
    (after .resyncIdle State.reset).slp.rx = .hunt ∧ isRequestKind 0x61 = false ∧
    (after (.unknownKind 0x7F 1 []) State.reset).slp.reply = some ⟨0xFF, 1, [0x10]⟩ ∧
    (after (.unknownKind 0x80 1 []) State.reset).slp.reply = some ⟨0x80, 1, [0x10]⟩ := by decide +kernel

theorem meets_TheTransmitterChoosesItsNextFrame :
    let waiting := (queued 1 (inState .run)).setSlp { State.reset.slp with reply := some ⟨0x81, 0, [0]⟩, tx := .event [] }
    waiting.slp.tx = .event [] ∧ waiting.slp.reply = some ⟨0x81, 0, [0]⟩ ∧
    (after .txFrameEnd waiting).slp.tx = .reply (Frame.bytes ⟨0x81, 0, [0]⟩) ∧
    (queued 1 (inState .run)).slp.reply = none ∧ (after .txFrameEnd (queued 1 (inState .run))).keq.queue = [] ∧
    (after .txFrameEnd (queued 1 (inState .boot))).slp.tx = .idle ∧ (after .txFrameEnd answering).slp.reply = none := by
  decide +kernel

/-- A write LOCKED, out of range, of a curve, of the gate and of the policy, to no table; 60 entry bytes are the most. -/
theorem meets_TableWriteIsAppliedWholeOrRefused :
    let s := unlocked State.reset
    (State.reset.tbs.locks[4]) = true ∧ (s.tbs.locks[4]) = false ∧ s.slp.reply = none ∧
    [1, 13, 22, 255, (66 : Byte)].length = (1 : Byte).toNat * entrySize 4 ∧
    (writtenTables s.tbs.tables 4 10 1 [1, 13, 22, 255, 66]).isSome = true ∧
    writtenTables s.tbs.tables 4 15 2 (List.replicate 10 0) = none ∧
    (writtenTables s.tbs.tables 5 0 1 defaultPolicy.bytes).isSome = true ∧
    (writtenTables s.tbs.tables 3 5 1 (defaultGate[5]).bytes).isSome = true ∧
    (after (.tableWrite 1 [7, 0, 0]) s).slp.reply = some ⟨0x91, 1, [0x12]⟩ ∧ (readEntries s.tbs.tables 4 0 12).length = 60 ∧
    (writtenTables s.tbs.tables 4 0 12 (readEntries s.tbs.tables 4 0 12)).isSome = true := by decide +kernel

/-- The last entry of each table may be written as it stands, and no entry after it; a repeat of no entries may not. -/
theorem meets_TableWriteIsAppliedWholeOrRefused_accepted :
    (∀ k ∈ [(0, 19), (1, 7), (2, 3), (3, 5), (4, 15), (5, 0), (6, 15)],
      writtenTables defaultTables k.1 k.2 1 (readEntries defaultTables k.1 k.2 1) = some defaultTables ∧
      writtenTables defaultTables k.1 (k.2 + 1) 1 (readEntries defaultTables k.1 k.2 1) = none) ∧
    writtenTables defaultTables 0 0 0 [] = none ∧ defaultTables.namedInRange 4 15 1 := by
  unfold Tables.namedInRange
  decide +kernel

theorem meets_TableInvalidateClearsValidFlags :
    let s := unlocked State.reset
    let st := fun p s => (after (.tableInvalidate 1 p) s).slp.reply.map fun f => f.payload
    s.slp.reply = none ∧ st [5, 0, 0] s = some [0x12] ∧ st [0, 19, 19] State.reset = some [0x14] ∧
    st [7, 0, 0] s = some [0x12] ∧ st [255, 0, 0] State.reset = some [0x12] ∧
    st [0, 20, 0] s = some [0x13] ∧ st [0, 0, 20] s = some [0x13] ∧ st [0, 19, 19] s = some [0] ∧
    (after (.tableInvalidate 1 [3, 5, 1]) s).pog.requested = #v[0, 0, 0, 0, 0, 0] ∧
    (after (.tableInvalidate 1 [3, 1, 4]) s).pog.requested = s.pog.requested ∧ s.pog.requested[0] = 800 := by
  decide +kernel

/-- A T0 entry that becomes invalid, valid and of another code, its key reported down and not; a chord whose members are
all down; Z1 invalidated; a record of each move of R162. -/
theorem meets_TableChangesReachTheirConsumers :
    let s := reportedC2 (queued 3 (inState .run))
    let with2 := fun e => onTables (fun T => { T with keymap := T.keymap.set 2 e }) s
    let gone := with2 { defaultTables.keymap[2] with valid := false }
    let moved := with2 { defaultTables.keymap[2] with code := 99 }
    let r := fun (k : FaultKind) (st : RecordState) (cls now : FaultClass) =>
      let x := onTables (fun T => { T with reactions := T.reactions.set k { T.reactions[k] with cls := now } }) State.reset
      ((noticeReactions [k] { x with fcl := { x.fcl with records := x.fcl.records.set k ⟨st, cls, 1, 0, 0, 0⟩ } }
        ).fcl.records[k]).state
    (s.keq.keys[2]).reported = some 3 ∧ (s.keq.keys[2]).down = true ∧ s.mbs.state.admits = true ∧ s.slp.tx ≠ .idle ∧
    ((keymapChanged defaultTables 2 gone).keq.keys[2]).reported = none ∧
    (keymapChanged gone.tbs.tables 2 s).keq.queue = s.keq.queue ∧
    ((keymapChanged defaultTables 2 moved).keq.keys[2]).suppressed = true ∧ keymapChanged defaultTables 2 s = s ∧
    ((noticeChords [0] (updKey 0 (fun k => { k with down := true })
      (updKey 19 (fun k => { k with down := true }) (inState .run)))).keq.chords[0]).state = .spent ∧
    ((noticeChords [0] (inState .run)).keq.chords[0]).state = .idle ∧ (inState .run).tsu.mode = .active ∧
    (inState .run).mbs.state ≠ .heatHold ∧
    (zonesChanged [1] (onTables (fun T => { T with zones := T.zones.set 1 { T.zones[1] with valid := false } })
      State.reset)).znc.z1Cold = false ∧
    r 9 .active .hw .sw = .latched ∧ r 9 .latched .sw .hw = .clear ∧ r 9 .latched .sw .sw = .latched ∧
    let none5 := onTables (fun T => { T with keymap := T.keymap.set 5 { T.keymap[5] with valid := false } })
      (heldC5 (inState .run))
    none5.mbs.state ≠ .heatHold ∧ ((noticeKeymap defaultTables [5] none5).tsu.keys[5]).state = .idle ∧
    ((noticeKeymap none5.tbs.tables [5] (inState .run)).tsu.keys[5]).seed = true := by decide +kernel

/-- T2: zones 1 and 2 enter cut-out at a change, one alone at the boundary and not 0.1 °C below it. T3: one invalid entry
named, one not named, one named and valid. -/
theorem meets_TableChangesReachTheirConsumers_heatAndGate :
    let f8 := fun (x : Int) (named : List (Fin 3)) =>
      ((noticeHeat named (withSet none (some x) (some x) none .good (inState .run))).fcl.records[8])
    (reactionInForce (inState .run).tbs.tables 8).restart = false ∧ [2, (1 : Fin 3)].Nodup ∧
    (f8 600 [2]).occurrences = 1 ∧ (f8 600 [2]).firstDetail = 2 ∧ (f8 599 [2]).occurrences = 0 ∧
    (f8 600 [0, 1]).occurrences = 1 ∧ (f8 600 [0, 1]).firstDetail = 1 ∧ (f8 600 [2, 1]).occurrences = 2 ∧
    let lit := (inState .run).setPog { State.reset.pog with requested := #v[500, 1, 1, 1, 1, 1] }
    let gone := onTables (fun T => { T with gate := upd (upd T.gate 0 fun e => { e with valid := false }) 1 fun e =>
      { e with valid := false } }) lit
    (noticeGate [0, 2] gone).pog.requested = #v[0, 1, 1, 1, 1, 1] := by decide +kernel

theorem meets_LocksAndSaves :
    let st := fun c => (after c State.reset).slp.reply.map fun f => f.payload
    State.reset.slp.reply = none ∧ st (.tableLock 1 [7, 0x3C]) = some [0x12] ∧ st (.tableLock 1 [6, 0x3D]) = some [0x13] ∧
    st (.tableLock 1 [6, 0x3C]) = some [0] ∧ st (.tableLock 1 [0xFF, 0xC3]) = some [0] ∧
    State.reset.tbs.store = .idle ∧ (after (.saveCompletion true) State.reset).tbs = State.reset.tbs ∧
    (after (.storeSave 1 []) (beginSave State.reset)).slp.reply = some ⟨0x94, 1, [0x17]⟩ := by decide +kernel

/-- A save in flight in a state, `n` records queued, F14 CLEAR or LATCHED and with RESTART or not. -/
def saving (m : MbsState) (n : Nat) (r : RecordState) (restart : Bool) : State :=
  withRecord 14 ⟨r, .sw, 1, 0, 0, 0⟩ (onReaction 14 (fun e => { e with restart := restart }) (beginSave (queued n (inState m))))

/-- The STORE event in BOOT, WARN and HEAT_HOLD, at once in RUN; behind the FAULT event of a mismatch, at the edges of the
room; F14 out of CLEAR; F14 with RESTART. -/
theorem meets_LocksAndSaves_completion :
    let room := fun s : State => reportedCount s.keq + s.keq.queue.length
    let new := fun v s => ((after (.saveCompletion v) s).keq.queue.drop s.keq.queue.length).map fun e => (e.kind, e.value)
    let idle := (saving .run 0 .latched false).setSlp State.reset.slp
    (∀ m ∈ [MbsState.boot, .run, .warn, .heatHold], ∃ T, (saving m 31 .clear false).tbs.store = .writing T) ∧
    room (saving .boot 31 .latched false) < 32 ∧ room (saving .boot 30 .clear false) < 31 ∧
    (saving .boot 31 .latched false).slp.tx ≠ .idle ∧
    new true (saving .boot 31 .latched false) = [(.store, 0)] ∧ new true (saving .warn 31 .latched false) = [(.store, 0)] ∧
    new true (saving .boot 32 .latched false) = [] ∧ new true (saving .heatHold 3 .latched false) = [] ∧
    (reactionInForce (saving .boot 30 .clear false).tbs.tables 14).report = true ∧
    new false (saving .boot 30 .clear false) = [(.fault, 1), (.store, 1)] ∧
    new false (saving .warn 31 .latched false) = [(.store, 1)] ∧ new false (saving .heatHold 3 .clear false) = [] ∧
    idle.slp.tx = .idle ∧ idle.slp.reply = none ∧ idle.keq.queue = [] ∧
    (after (.saveCompletion true) idle).slp.tx = .event (Event.frame ⟨.store, 0, .normal, 0, false, 0⟩).bytes ∧
    (after (.saveCompletion false) (saving .run 3 .clear true)).mbs.state = .resetting := by
  refine ⟨?_, by decide +kernel⟩
  intro m h
  exact ⟨_, rfl⟩

end Sys2Proof.Machine
end

section
/-! SUPPORT. Entries of the tables: what a write and a load of several entries make of the tables (R183, R184, R193), said
once over any table that is a vector of entries. -/

namespace Sys2Proof.Machine

/-! Vectors -/

/-- Two tables of one length are equal where their entries are. -/
theorem vector_eq_iff {α : Type} {n : Nat} {v w : Vector α n} : v = w ↔ ∀ i : Fin n, v[i] = w[i] :=
  ⟨fun h _ => h ▸ rfl, fun h => Vector.ext fun i hi => h ⟨i, hi⟩⟩

/-- `w` is `v` with the `count` entries from `first` on replaced by those that `parse` gives. -/
def Replaced {α : Type} {n : Nat} (parse : Nat → Option α) (v w : Vector α n) (first count : Nat) : Prop :=
  ∀ i : Fin n, (first ≤ i.val ∧ i.val < first + count → parse i.val = some w[i]) ∧
    (¬(first ≤ i.val ∧ i.val < first + count) → w[i] = v[i])

theorem replaced_zero {α : Type} {n : Nat} {parse : Nat → Option α} {v w : Vector α n} {first : Nat} :
    Replaced parse v w first 0 ↔ w = v := by
  rw [vector_eq_iff]
  exact forall_congr' fun i =>
    ⟨fun h => h.2 fun hc => by omega, fun h => ⟨fun hc => by omega, fun _ => h⟩⟩

/-- Replacing `count + 1` entries replaces the first one and then the others. -/
theorem replaced_succ {α : Type} {n : Nat} {parse : Nat → Option α} {v w : Vector α n} {first count : Nat}
    (hf : first < n) : Replaced parse v w first (count + 1) ↔
      ∃ e, parse first = some e ∧ Replaced parse (v.set first e) w (first + 1) count := by
  constructor
  · intro h
    refine ⟨w[first], (h ⟨first, hf⟩).1 ⟨le_refl _, by simp⟩,
      fun i => ⟨fun hi => (h i).1 ⟨by omega, by omega⟩, fun hi => ?_⟩⟩
    by_cases he : first = i.val
    · subst he; simp
    · simpa [Vector.getElem_set_ne, he] using (h i).2 (by omega)
  · rintro ⟨e, he, h⟩ i
    by_cases hi : first = i.val
    · subst hi
      have hw : w[i] = e := by simpa using (h i).2 (by omega)
      exact ⟨fun _ => hw ▸ he, fun hc => absurd ⟨le_refl _, by omega⟩ hc⟩
    · refine ⟨fun hc => (h i).1 (by omega), fun hc => ?_⟩
      simpa [Vector.getElem_set_ne, hi] using (h i).2 (by omega)

/-- A checked value is there and in range. -/
theorem checked_eq_some_iff {α : Type} {ok : α → Bool} {o : Option α} {a : α} :
    checked ok o = some a ↔ o = some a ∧ ok a = true := by
  cases o with
  | none => simp [checked]
  | some b => by_cases hb : ok b = true <;> simp [checked, hb] <;> rintro rfl <;> simp [hb]

/-- Entries replaced by checked ones are replaced, and in range. -/
theorem replaced_checked {α : Type} {n : Nat} {ok : Nat → α → Bool} {parse : Nat → Option α} {v w : Vector α n}
    {first count : Nat} : Replaced (fun i => checked (ok i) (parse i)) v w first count ↔
      Replaced parse v w first count ∧ ∀ i : Fin n, first ≤ i.val ∧ i.val < first + count → ok i.val w[i] = true := by
  simp only [Replaced, checked_eq_some_iff]
  exact ⟨fun h => ⟨fun i => ⟨fun hi => ((h i).1 hi).1, (h i).2⟩, fun i hi => ((h i).1 hi).2⟩,
    fun h i => ⟨fun hi => ⟨(h.1 i).1 hi, h.2 i hi⟩, (h.1 i).2⟩⟩

/-! Entries one after the other -/

/-- `count` entries from `i` upward, each of `size` bytes, taken one after the other by `put`. -/
def chainEntries (put : Tables → Nat → List Byte → Option Tables) (size : Nat) (T : Tables) (i : Nat) :
    Nat → List Byte → Option Tables
  | 0, _ => some T
  | count + 1, bs => (put T i (bs.take size)).bind fun T' => chainEntries put size T' (i + 1) count (bs.drop size)

theorem writeEntries_eq_chain (T : Tables) (t i count : Nat) (bs : List Byte) :
    writeEntries T t i count bs = chainEntries (fun T i bs => writeEntry T t i bs) (entrySize t) T i count bs := by
  induction count generalizing T i bs with
  | zero => rfl
  | succ count ih =>
    rw [writeEntries, chainEntries]
    cases writeEntry T t i (bs.take (entrySize t)) with
    | none => rfl
    | some T' => exact ih T' (i + 1) _

theorem loadEntries_eq_chain (T : Tables) (t i count : Nat) (bs : List Byte) :
    loadEntries T t i count bs =
      (chainEntries (fun T i bs => loadEntry T t i bs) (entrySize t) T i count bs).map
        fun T' => (T', bs.drop (count * entrySize t)) := by
  induction count generalizing T i bs with
  | zero => simp [loadEntries, chainEntries]
  | succ count ih =>
    rw [loadEntries, chainEntries]
    cases loadEntry T t i (bs.take (entrySize t)) with
    | none => rfl
    | some T' => simp [ih T' (i + 1), List.drop_drop, Nat.succ_mul, Nat.add_comm]

/-- Entries taken one after the other are those before the last and then the last. -/
theorem chainEntries_succ_last (put : Tables → Nat → List Byte → Option Tables) (size : Nat) (T : Tables)
    (i count : Nat) (bs : List Byte) : chainEntries put size T i (count + 1) bs =
      (chainEntries put size T i count bs).bind fun T' => put T' (i + count) (entrySlice bs size count) := by
  induction count generalizing T i bs with
  | zero => simp [chainEntries, entrySlice]
  | succ count ih =>
    rw [chainEntries]
    conv_rhs => rw [chainEntries]
    cases put T i (bs.take size) with
    | none => rfl
    | some T' =>
      have hs : entrySlice (bs.drop size) size count = entrySlice bs size (count + 1) := by
        simp [entrySlice, List.drop_drop, Nat.succ_mul, Nat.add_comm]
      simp only [Option.bind_some, ih T' (i + 1), hs, Nat.add_assoc, Nat.add_comm 1]

/-- One table of the seven as a vector that can be read and replaced. -/
structure TableLens (α : Type) (n : Nat) where
  get : Tables → Vector α n
  put : Tables → Vector α n → Tables
  get_put : ∀ T v, get (put T v) = v
  put_put : ∀ T v w, put (put T v) w = put T w
  put_get : ∀ T, put T (get T) = T

/-- R183, R184. Where each entry taken replaces its own in one table, entries taken one after the other replace theirs in
that table and change nothing else. -/
theorem chainEntries_eq_some_iff {α : Type} {n : Nat} (L : TableLens α n)
    {put : Tables → Nat → List Byte → Option Tables} {size : Nat} {parse : Nat → List Byte → Option α}
    (hput : ∀ T i bs (h : i < n), put T i bs = (parse i bs).map fun e => L.put T ((L.get T).set i e h))
    {count : Nat} (T T' : Tables) (i : Nat) (bs : List Byte) (hn : i + count ≤ n) :
    chainEntries put size T i count bs = some T' ↔
      T' = L.put T (L.get T') ∧ Replaced (fun k => parse k (entrySlice bs size (k - i))) (L.get T) (L.get T') i count := by
  induction count generalizing T i bs with
  | zero =>
    simp only [chainEntries, Option.some.injEq, replaced_zero]
    exact ⟨fun h => h ▸ ⟨(L.put_get T).symm, rfl⟩, fun h => by rw [h.1, h.2, L.put_get]⟩
  | succ count ih =>
    have hi : i < n := by omega
    have hslice : ∀ (v w : Vector α n),
        Replaced (fun k => parse k (entrySlice (bs.drop size) size (k - (i + 1)))) v w (i + 1) count ↔
          Replaced (fun k => parse k (entrySlice bs size (k - i))) v w (i + 1) count := by
      intro v w
      refine forall_congr' fun k => and_congr_left' (imp_congr_right fun hk => ?_)
      have : size + (k.val - (i + 1)) * size = (k.val - i) * size := by
        rw [show k.val - i = k.val - (i + 1) + 1 by omega, Nat.succ_mul, Nat.add_comm]
      simp [entrySlice, List.drop_drop, this]
    have h0 : entrySlice bs size (i - i) = bs.take size := by simp [entrySlice]
    rw [chainEntries, hput T i _ hi, replaced_succ hi, h0]
    cases parse i (bs.take size) with
    | none => simp
    | some e =>
      simp only [Option.map_some, Option.bind_some, Option.some.injEq, exists_eq_left',
        ih (L.put T ((L.get T).set i e hi)) (i + 1) _ (by omega), L.put_put, L.get_put, hslice]

end Sys2Proof.Machine
end

section
/-! SUPPORT. The seven tables as vectors of entries, and what a TABLE WRITE accepts (R183, R184). -/

namespace Sys2Proof.Machine

/-! The tables as vectors -/

def keymapLens : TableLens KeymapEntry 20 :=
  ⟨Tables.keymap, fun T v => { T with keymap := v }, fun _ _ => rfl, fun _ _ _ => rfl, fun _ => rfl⟩

def chordsLens : TableLens ChordEntry 8 :=
  ⟨Tables.chords, fun T v => { T with chords := v }, fun _ _ => rfl, fun _ _ _ => rfl, fun _ => rfl⟩

/-- The zone records of T2; its fourth entry is the global record. -/
def zonesLens : TableLens ZoneRecord 3 :=
  ⟨Tables.zones, fun T v => { T with zones := v }, fun _ _ => rfl, fun _ _ _ => rfl, fun _ => rfl⟩

def gateLens : TableLens GateEntry 6 :=
  ⟨Tables.gate, fun T v => { T with gate := v }, fun _ _ => rfl, fun _ _ _ => rfl, fun _ => rfl⟩

def curveLens : TableLens CurvePoint 16 :=
  ⟨Tables.curve, fun T v => { T with curve := v }, fun _ _ => rfl, fun _ _ _ => rfl, fun _ => rfl⟩

/-- T5, a vector of its one entry. -/
def policyLens : TableLens Policy 1 :=
  ⟨fun T => #v[T.policy], fun T v => { T with policy := v[0] }, fun _ v => by
    ext i hi; obtain rfl : i = 0 := by omega
    rfl, fun _ _ _ => rfl, fun _ => rfl⟩

/-- A vector of one entry has that entry. -/
theorem vector_one_getElem {α : Type} (a : α) : #v[a][0] = a ∧ #v[a][(0 : Fin 1)] = a := ⟨rfl, rfl⟩

def reactionsLens : TableLens ReactionEntry 16 :=
  ⟨Tables.reactions, fun T v => { T with reactions := v }, fun _ _ => rfl, fun _ _ _ => rfl, fun _ => rfl⟩

/-! What an accepted write is -/

/-- Two sets of tables are equal where the eight parts are. -/
theorem tables_eq_iff {T U : Tables} : T = U ↔ T.keymap = U.keymap ∧ T.chords = U.chords ∧ T.zones = U.zones ∧
    T.glob = U.glob ∧ T.gate = U.gate ∧ T.curve = U.curve ∧ T.policy = U.policy ∧ T.reactions = U.reactions := by
  cases T; cases U; exact Iff.of_eq (Tables.mk.injEq ..)

/-- R184. `T` is `old` with the `count` entries of one table from `first` on replaced by those that `bs` carries. -/
def TableLens.Writes {α : Type} {n : Nat} (L : TableLens α n) (parse : List Byte → Option α) (size : Nat) (old T : Tables)
    (first count : Nat) (bs : List Byte) : Prop :=
  T = L.put old (L.get T) ∧
    Replaced (fun k => parse (entrySlice bs size (k - first))) (L.get old) (L.get T) first count

/-- Table by table, but for the zones, `WrittenBy` says what `TableLens.Writes` says of the table's vector. -/
theorem writtenBy_iff_writes (old T : Tables) (first count : Nat) (bs : List Byte) :
    (WrittenBy old T 0 first count bs ↔ keymapLens.Writes KeymapEntry.ofBytes (entrySize 0) old T first count bs) ∧
    (WrittenBy old T 1 first count bs ↔ chordsLens.Writes ChordEntry.ofBytes (entrySize 1) old T first count bs) ∧
    (first + count ≤ 3 →
      (WrittenBy old T 2 first count bs ↔ zonesLens.Writes ZoneRecord.ofBytes (entrySize 2) old T first count bs)) ∧
    (WrittenBy old T 3 first count bs ↔ gateLens.Writes GateEntry.ofBytes (entrySize 3) old T first count bs) ∧
    (WrittenBy old T 4 first count bs ↔ curveLens.Writes CurvePoint.ofBytes (entrySize 4) old T first count bs) ∧
    (WrittenBy old T 5 first count bs ↔ policyLens.Writes Policy.ofBytes (entrySize 5) old T first count bs) ∧
    (WrittenBy old T 6 first count bs ↔ reactionsLens.Writes ReactionEntry.ofBytes (entrySize 6) old T first count bs) := by
  refine ⟨?_, ?_, fun h => ?_, ?_, ?_, ?_, ?_⟩
  case' refine_3 => have hg : ¬(first ≤ 3 ∧ 3 < first + count) := by omega
  all_goals
    simp only [*, WrittenBy, TableLens.Writes, Replaced, keymapLens, chordsLens, zonesLens, gateLens, curveLens, policyLens,
      reactionsLens, tables_eq_iff, true_and, false_and, not_false_eq_true, IsEmpty.forall_iff, forall_const,
      ← vector_eq_iff, reduceCtorEq, Nat.reduceEqDiff, OfNat.one_ne_ofNat, OfNat.ofNat_ne_one, Fin.forall_fin_one,
      vector_one_getElem, Fin.val_zero]
    grind

/-- R41, R42. A write of zone records and of the global record after them. -/
theorem writtenBy_glob (old T : Tables) (first count : Nat) (bs : List Byte) (hn : first + count = 3) :
    WrittenBy old T 2 first (count + 1) bs ↔
      WrittenBy old { T with glob := old.glob } 2 first count bs ∧
        GlobalRecord.ofBytes (entrySlice bs (entrySize 2) count) = some T.glob := by
  have h3 : first ≤ 3 ∧ 3 < first + (count + 1) := by omega
  have hk : 3 - first = count := by omega
  have hi : ∀ i : Fin 3, i.val < first + (count + 1) ↔ i.val < first + count := fun i => by omega
  simp only [WrittenBy, true_and, false_and, not_false_eq_true, IsEmpty.forall_iff, forall_const, reduceCtorEq,
    Nat.reduceEqDiff, OfNat.ofNat_ne_one, h3, hk, hi]
  grind

/-! A write and a load of one table -/

/-- Entries written one after the other in a table that is a vector of entries. -/
theorem writeEntries_eq_some_iff {α : Type} {n : Nat} (L : TableLens α n) {t : Nat} (ok : Nat → α → Bool)
    (parse : List Byte → Option α)
    (hput : ∀ T i bs (h : i < n), writeEntry T t i bs =
      (checked (ok i) (parse bs)).map fun e => L.put T ((L.get T).set i e h))
    {first count : Nat} (old T : Tables) (bs : List Byte) (hn : first + count ≤ n) :
    writeEntries old t first count bs = some T ↔
      L.Writes parse (entrySize t) old T first count bs ∧
      ∀ i : Fin n, first ≤ i.val ∧ i.val < first + count → ok i.val (L.get T)[i] = true := by
  rw [writeEntries_eq_chain, chainEntries_eq_some_iff L hput old T first bs hn, replaced_checked, TableLens.Writes,
    and_assoc]

/-- R183. The named entries of table `t` of `T` are in range. -/
def Tables.entriesInRange (T : Tables) (t first count : Nat) : Prop :=
  let named := fun (table i : Nat) => t = table ∧ first ≤ i ∧ i < first + count
  (∀ i : Fin 20, named 0 i.val → (T.keymap[i]).inRange = true) ∧
  (∀ i : Fin 8, named 1 i.val → (T.chords[i]).inRange = true) ∧
  (∀ i : Fin 3, named 2 i.val → (T.zones[i]).inRange = true) ∧ (named 2 3 → T.glob.inRange = true) ∧
  (∀ i : Fin 6, named 3 i.val → (T.gate[i]).inRange i = true) ∧
  (∀ i : Fin 16, named 4 i.val → (T.curve[i]).inRange = true) ∧
  (named 5 0 → T.policy.inRange = true) ∧ ∀ i : Fin 16, named 6 i.val → (T.reactions[i]).inRange i = true

theorem namedInRange_iff (T : Tables) (t first count : Nat) :
    T.namedInRange t first count ↔ T.entriesInRange t first count ∧ (t = 4 → curveOrdered T.curve = true) := by
  simp only [Tables.namedInRange, Tables.entriesInRange]
  tauto

/-- R41, R42. Zone records and then the global record written one after the other. -/
theorem writeEntries_glob (old T : Tables) (first count : Nat) (bs : List Byte) (hn : first + count = 3)
    (hz : ∀ U, writeEntries old 2 first count bs = some U ↔
      WrittenBy old U 2 first count bs ∧ U.entriesInRange 2 first count) :
    writeEntries old 2 first (count + 1) bs = some T ↔
      WrittenBy old T 2 first (count + 1) bs ∧ T.entriesInRange 2 first (count + 1) := by
  have hw : ∀ (U : Tables) (b : List Byte), writeEntry U 2 3 b =
      (checked GlobalRecord.inRange (GlobalRecord.ofBytes b)).map fun g => { U with glob := g } := fun U b => by
    simp [writeEntry]
  have hg : ∀ {U : Tables}, WrittenBy old U 2 first count bs → U.glob = old.glob := fun h => by
    obtain ⟨-, -, -, ⟨-, h⟩, -⟩ := h
    exact h (by omega)
  have hr : T.entriesInRange 2 first (count + 1) ↔
      ({ T with glob := old.glob } : Tables).entriesInRange 2 first count ∧ T.glob.inRange = true := by
    have h3 : first ≤ 3 ∧ 3 < first + (count + 1) := by omega
    have h3' : ¬3 < first + count := by omega
    have hi : ∀ i : Fin 3, i.val < first + (count + 1) ↔ i.val < first + count := fun i => by omega
    simp [Tables.entriesInRange, h3, h3', hi]
  rw [writeEntries_eq_chain, chainEntries_succ_last, ← writeEntries_eq_chain, hn, writtenBy_glob old T first count bs hn, hr]
  simp only [Option.bind_eq_some_iff, hz, hw, Option.map_eq_some_iff, checked_eq_some_iff]
  constructor
  · rintro ⟨U, ⟨hU, hUr⟩, g, ⟨hg', hgr⟩, rfl⟩
    have hU' : ({ U with glob := old.glob } : Tables) = U := by rw [← hg hU]
    exact ⟨⟨hU'.symm ▸ hU, hg'⟩, hU'.symm ▸ hUr, hgr⟩
  · rintro ⟨⟨hU, hg'⟩, hUr, hgr⟩
    exact ⟨_, ⟨hU, hUr⟩, T.glob, ⟨hg', hgr⟩, rfl⟩

/-- R41. Zone records written one after the other. -/
theorem writeEntries_zones (old T : Tables) {first count : Nat} (bs : List Byte) (hn : first + count ≤ 3) :
    writeEntries old 2 first count bs = some T ↔
      WrittenBy old T 2 first count bs ∧ T.entriesInRange 2 first count := by
  have hg : ¬(first ≤ 3 ∧ 3 < first + count) := by omega
  rw [(writtenBy_iff_writes old T first count bs).2.2.1 hn, writeEntries_eq_some_iff zonesLens
    (fun _ => ZoneRecord.inRange) ZoneRecord.ofBytes (fun T i bs h => by simp [writeEntry, h, zonesLens]) old T bs hn]
  simp [Tables.entriesInRange, zonesLens, hg]

/-- R183, R184. A write of entries of a table is accepted exactly where they are in range, and gives the tables with them
replaced. -/
theorem writeEntries_accepts (old T : Tables) {t first count : Nat} (bs : List Byte) (hc : 0 < count)
    (hn : first + count ≤ tableSize t) : writeEntries old t first count bs = some T ↔
      WrittenBy old T t first count bs ∧ T.entriesInRange t first count := by
  obtain ⟨h0, h1, -, h3, h4, h5, h6⟩ := writtenBy_iff_writes old T first count bs
  match t with
  | 0 =>
    rw [h0, writeEntries_eq_some_iff keymapLens (fun _ => KeymapEntry.inRange) KeymapEntry.ofBytes
      (fun T i bs h => by simp [writeEntry, h, keymapLens]) old T bs hn]
    simp [Tables.entriesInRange, keymapLens]
  | 1 =>
    rw [h1, writeEntries_eq_some_iff chordsLens (fun _ => ChordEntry.inRange) ChordEntry.ofBytes
      (fun T i bs h => by simp [writeEntry, h, chordsLens]) old T bs hn]
    simp [Tables.entriesInRange, chordsLens]
  | 2 =>
    have hn' : first + count ≤ 4 := hn
    by_cases h : first + count ≤ 3
    · exact writeEntries_zones old T bs h
    · obtain ⟨c, rfl⟩ : ∃ c, count = c + 1 := ⟨count - 1, by omega⟩
      exact writeEntries_glob old T first c bs (by omega) fun U => writeEntries_zones old U bs (by omega)
  | 3 =>
    rw [h3, writeEntries_eq_some_iff gateLens (fun i e => if h : i < 6 then e.inRange ⟨i, h⟩ else false) GateEntry.ofBytes
      (fun T i bs h => by simp [writeEntry, h, gateLens]) old T bs hn]
    simp [Tables.entriesInRange, gateLens]
  | 4 =>
    rw [h4, writeEntries_eq_some_iff curveLens (fun _ => CurvePoint.inRange) CurvePoint.ofBytes
      (fun T i bs h => by simp [writeEntry, h, curveLens]) old T bs hn]
    simp [Tables.entriesInRange, curveLens]
  | 5 =>
    rw [h5, writeEntries_eq_some_iff policyLens (fun _ => Policy.inRange) Policy.ofBytes
      (fun T i bs h => by
        obtain rfl : i = 0 := by omega
        simp [writeEntry, policyLens]) old T bs hn]
    simp [Tables.entriesInRange, policyLens]
  | 6 =>
    rw [h6, writeEntries_eq_some_iff reactionsLens (fun i e => if h : i < 16 then e.inRange ⟨i, h⟩ else false)
      ReactionEntry.ofBytes (fun T i bs h => by simp [writeEntry, h, reactionsLens]) old T bs hn]
    simp [Tables.entriesInRange, reactionsLens]
  | t + 7 => simp [tableSize, Config.tableSizes] at hn; omega

/-- R183. A TABLE WRITE is accepted exactly where it names entries of the table, at least one, and the entries it carries
are in range, the curve's raw codes ascending; it then replaces them. -/
theorem writtenTables_eq_some_iff (old T : Tables) (t first count : Nat) (bs : List Byte) :
    writtenTables old t first count bs = some T ↔
      WrittenBy old T t first count bs ∧ T.namedInRange t first count ∧ 0 < count ∧ first + count ≤ tableSize t := by
  have hbind : writtenTables old t first count bs = if (count = 0 || tableSize t < first + count) = true then none else
      (writeEntries old t first count bs).bind fun U => if (t = 4 && !curveOrdered U.curve) = true then none else some U := by
    unfold writtenTables
    cases writeEntries old t first count bs <;> rfl
  have hord : ∀ U : Tables, ¬(t = 4 && !curveOrdered U.curve) = true ↔ (t = 4 → curveOrdered U.curve = true) := by
    simp
  have hnames : ¬(count = 0 || tableSize t < first + count) = true ↔ 0 < count ∧ first + count ≤ tableSize t := by
    simp
  rw [hbind, namedInRange_iff]
  simp only [Option.ite_none_left_eq_some, Option.bind_eq_some_iff, hord, hnames, Option.some.injEq]
  constructor
  · rintro ⟨⟨hc, hn⟩, U, hU, ho, rfl⟩
    obtain ⟨hw, hr⟩ := (writeEntries_accepts old U bs hc hn).1 hU
    exact ⟨hw, ⟨hr, ho⟩, hc, hn⟩
  · rintro ⟨hw, ⟨hr, ho⟩, hc, hn⟩
    exact ⟨⟨hc, hn⟩, T, (writeEntries_accepts old T bs hc hn).2 ⟨hw, hr⟩, ho, rfl⟩

end Sys2Proof.Machine
end

section
/-! SUPPORT. Bytes and flags (R195): what a byte, a two-byte number and a flag byte hold, and that an entry in range is
read back from its bytes (R196, R201). -/

namespace Sys2Proof.Machine

@[simp] theorem byteOf_toNat (n : Nat) : (byteOf n).toNat = n % 256 := BitVec.toNat_ofNat ..

theorem rd16_byteOf (n : Nat) : rd16 (byteOf (n / 256)) (byteOf n) = n % 65536 := by
  simp only [rd16, byteOf_toNat]; omega

theorem rdInt16_byteOf {t : Int} (h0 : -32768 ≤ t) (h1 : t < 32768) :
    rdInt16 (byteOf ((t % 65536).toNat / 256)) (byteOf (t % 65536).toNat) = t := by
  simp only [rdInt16, rd16_byteOf]; split <;> omega

/-- Bit `i` of a list of flags packed is the `i`-th flag. -/
theorem testBit_packFlags (l : List Bool) (i : Nat) : (packFlags l).testBit i = l.getD i false := by
  induction l generalizing i with
  | nil => simp [packFlags]
  | cons b l ih =>
    have hf : flag b = b.toNat := by cases b <;> rfl
    cases i with
    | zero => cases b <;> simp [packFlags, flag, Nat.testBit_zero]
    | succ i =>
      have : (flag b + 2 * packFlags l) / 2 = packFlags l := by cases b <;> simp [flag]; omega
      simp [packFlags, Nat.testBit_succ, this, ih]

theorem bitOf_byteOf (n : Nat) {i : Nat} (hi : i < 8) : bitOf (byteOf n) i = n.testBit i := by
  unfold bitOf byteOf
  rw [BitVec.getLsbD_ofNat]
  simp [hi]

/-- Bit `i` of the byte of a list of flags is the `i`-th flag. -/
theorem bitOf_packFlags (l : List Bool) {i : Nat} (hi : i < 8) : bitOf (byteOf (packFlags l)) i = l.getD i false := by
  rw [bitOf_byteOf _ hi, testBit_packFlags]

theorem bitOf_flag (b : Bool) : bitOf (byteOf (flag b)) 0 = b := by cases b <;> rfl

/-! Codes that a request or an image carries (R195) -/

theorem ChordAction.ofCode_code (a : ChordAction) : ChordAction.ofCode (a.code % 256) = some a := by cases a <;> rfl

theorem ChordCondition.ofCode_code (c : ChordCondition) : ChordCondition.ofCode (c.code % 256) = some c := by
  cases c <;> rfl

theorem TripMode.ofCode_code (m : TripMode) : TripMode.ofCode (m.code % 256) = some m := by cases m <;> rfl

theorem TripTimeout.ofCode_code (t : TripTimeout) : TripTimeout.ofCode (t.code % 256) = some t := by cases t <;> rfl

theorem StatusSource.ofCode_code (x : StatusSource) : StatusSource.ofCode (x.code % 256) = some x := by cases x <;> rfl

/-! Entries read back (R201) -/

theorem KeymapEntry.ofBytes_bytes {e : KeymapEntry} (h : e.inRange = true) : KeymapEntry.ofBytes e.bytes = some e := by
  simp only [KeymapEntry.inRange, Bool.and_eq_true, decide_eq_true_eq] at h
  have hc : e.code % 256 = e.code := by omega
  have hs : e.sensitivity % 256 = e.sensitivity := by omega
  have hw : e.weight % 256 = e.weight := by omega
  simp [KeymapEntry.bytes, KeymapEntry.ofBytes, KeymapEntry.flags, bitOf_packFlags, hc, hs, hw]

theorem ChordEntry.ofBytes_bytes {e : ChordEntry} (h : e.inRange = true) : ChordEntry.ofBytes e.bytes = some e := by
  simp only [ChordEntry.inRange, Bool.and_eq_true, decide_eq_true_eq] at h
  have hm := e.members.isLt
  have h16 : e.members.toNat / 65536 % 256 < 16 := by omega
  have hm' : BitVec.ofNat 20 (e.members.toNat / 65536 % 256 * 65536 + e.members.toNat / 256 % 256 * 256 +
      e.members.toNat % 256) = e.members := by
    apply BitVec.eq_of_toNat_eq
    rw [BitVec.toNat_ofNat]
    omega
  have hh : e.hold % 256 = e.hold := by omega
  simp [ChordEntry.bytes, ChordEntry.ofBytes, be24, ChordAction.ofCode_code, ChordCondition.ofCode_code,
    bitOf_flag, h16, hm', hh]

theorem ZoneRecord.ofBytes_bytes {z : ZoneRecord} (h : z.inRange = true) : ZoneRecord.ofBytes z.bytes = some z := by
  simp only [ZoneRecord.inRange, Bool.and_eq_true, decide_eq_true_eq] at h
  have hr := rdInt16_byteOf (t := z.release) (by omega) (by omega)
  have ht := rdInt16_byteOf (t := z.target) (by omega) (by omega)
  have hc := rdInt16_byteOf (t := z.cutOut) (by omega) (by omega)
  have small : z.band % 256 = z.band ∧ z.gain % 256 = z.gain ∧ z.dmax % 65536 = z.dmax ∧
      z.fallbackDuty % 65536 = z.fallbackDuty ∧ z.fallbackTime % 65536 = z.fallbackTime ∧ z.weight % 256 = z.weight ∧
      z.tripLevel % 256 = z.tripLevel := by omega
  simp [ZoneRecord.bytes, ZoneRecord.ofBytes, be16, beInt16, TripMode.ofCode_code, TripTimeout.ofCode_code, bitOf_flag,
    rd16_byteOf, hr, ht, hc, small]

theorem GlobalRecord.ofBytes_bytes {g : GlobalRecord} (h : g.inRange = true) : GlobalRecord.ofBytes g.bytes = some g := by
  simp only [GlobalRecord.inRange, Bool.and_eq_true, decide_eq_true_eq] at h
  have hs := rdInt16_byteOf (t := g.fanStart) (by omega) (by omega)
  have hf := rdInt16_byteOf (t := g.fanFull) (by omega) (by omega)
  have hd := rdInt16_byteOf (t := g.filterDelta) (by omega) (by omega)
  have small : g.aCold % 65536 = g.aCold ∧ g.aRun % 65536 = g.aRun ∧ g.soakTime % 65536 = g.soakTime ∧
      g.fanMin % 65536 = g.fanMin := by omega
  simp [GlobalRecord.bytes, GlobalRecord.ofBytes, be16, beInt16, rd16_byteOf, hs, hf, hd, small]

theorem GateEntry.ofBytes_bytes {i : Fin 6} {e : GateEntry} (h : e.inRange i = true) :
    GateEntry.ofBytes e.bytes = some e := by
  simp only [GateEntry.inRange, Bool.and_eq_true, decide_eq_true_eq] at h
  have hi : outputMax i ≤ 1000 := by unfold outputMax; split <;> omega
  have small : e.coldClamp % 65536 = e.coldClamp ∧ e.restartDefault % 65536 = e.restartDefault := by omega
  simp [GateEntry.bytes, GateEntry.ofBytes, GateEntry.permits, be16, bitOf_flag, bitOf_packFlags, rd16_byteOf,
    StatusSource.ofCode_code, small]

theorem CurvePoint.ofBytes_bytes {p : CurvePoint} (h : p.inRange = true) : CurvePoint.ofBytes p.bytes = some p := by
  simp only [CurvePoint.inRange, Bool.and_eq_true, decide_eq_true_eq] at h
  have ht := rdInt16_byteOf (t := p.temp) (by omega) (by omega)
  have hr : p.raw % 65536 = p.raw := by omega
  simp [CurvePoint.bytes, CurvePoint.ofBytes, be16, beInt16, bitOf_flag, rd16_byteOf, ht, hr]

theorem Policy.ofBytes_bytes {p : Policy} (h : p.inRange = true) : Policy.ofBytes p.bytes = some p := by
  simp only [Policy.inRange, Bool.and_eq_true, decide_eq_true_eq] at h
  have small : p.heartbeatLimit % 65536 = p.heartbeatLimit ∧ p.bootWindow % 65536 = p.bootWindow ∧
      p.resetPulse % 256 = p.resetPulse ∧ p.cycleOffTime % 256 = p.cycleOffTime ∧ p.nReset % 256 = p.nReset ∧
      p.nCycle % 256 = p.nCycle ∧ p.stableTime % 65536 = p.stableTime ∧ p.lockoutRetry % 256 = p.lockoutRetry ∧
      p.pgTimeout % 256 = p.pgTimeout := by omega
  simp [Policy.bytes, Policy.ofBytes, be16, bitOf_flag, rd16_byteOf, small]

/-- Every T6 entry is read back: its flags have no range. -/
theorem ReactionEntry.ofBytes_bytes (e : ReactionEntry) : ReactionEntry.ofBytes e.bytes = some e := by
  have hc : (if e.cls = .sw then FaultClass.sw else .hw) = e.cls := by cases e.cls <;> simp
  simp [ReactionEntry.bytes, ReactionEntry.ofBytes, ReactionEntry.flags, ReactionEntry.reactionBits, bitOf_packFlags, hc]

end Sys2Proof.Machine
end

section
/-! SUPPORT. The retained image of tables in range loads as those tables (R189, R193), and an invalidation keeps tables in
range (R185). -/

namespace Sys2Proof.Machine

/-! Loading -/

/-- An entry that a write accepts is loaded alike. -/
theorem loadEntry_of_writeEntry {T T' : Tables} {t i : Nat} {bs : List Byte} (h : writeEntry T t i bs = some T') :
    loadEntry T t i bs = some T' := by
  have hm : ∀ {α : Type} {ok : α → Bool} {o : Option α} {f : α → Tables}, (checked ok o).map f = some T' →
      o.map f = some T' := fun h => by
    obtain ⟨a, ha, rfl⟩ := Option.map_eq_some_iff.1 h
    simp [(checked_eq_some_iff.1 ha).1]
  revert h
  unfold writeEntry loadEntry
  split <;> (repeat' split)
  exacts [hm, id, hm, id, hm, hm, id, hm, id, hm, id, hm, id, hm, id, id]

/-- Entries that a write accepts are loaded alike. -/
theorem loadEntries_of_writeEntries {T T' : Tables} {t i count : Nat} {bs : List Byte}
    (h : writeEntries T t i count bs = some T') :
    loadEntries T t i count bs = some (T', bs.drop (count * entrySize t)) := by
  induction count generalizing T i bs with
  | zero => simp_all [writeEntries, loadEntries]
  | succ count ih =>
    rw [writeEntries] at h
    cases hw : writeEntry T t i (bs.take (entrySize t)) with
    | none => simp [hw] at h
    | some U =>
      rw [loadEntries, loadEntry_of_writeEntry hw]
      rw [hw] at h
      simp [ih h, List.drop_drop, Nat.succ_mul, Nat.add_comm]

/-! The bytes of a whole table -/

/-- Every entry of a table has the size of the table's layout. -/
theorem entryBytes_length (S : Tables) {t i : Nat} (hi : i < tableSize t) :
    (entryBytes S t i).length = entrySize t := by
  match t with
  | 0 => rw [entryBytes, dif_pos (show i < 20 from hi)]; rfl
  | 1 => rw [entryBytes, dif_pos (show i < 8 from hi)]; rfl
  | 2 =>
    rw [entryBytes]
    split
    · rfl
    · rw [if_pos (show i = 3 by have : i < 4 := hi; omega)]; rfl
  | 3 => rw [entryBytes, dif_pos (show i < 6 from hi)]; rfl
  | 4 => rw [entryBytes, dif_pos (show i < 16 from hi)]; rfl
  | 5 => rw [entryBytes, if_pos (show i = 0 by have : i < 1 := hi; omega)]; rfl
  | 6 => rw [entryBytes, dif_pos (show i < 16 from hi)]; rfl
  | t + 7 => simp [tableSize, Config.tableSizes] at hi

/-- Byte strings of one size, one after the other. -/
theorem length_flatMap_range (f : Nat → List Byte) (size : Nat) {n : Nat} (hf : ∀ i < n, (f i).length = size) :
    ((List.range n).flatMap f).length = n * size := by
  rw [List.length_flatMap, List.map_congr_left (g := fun _ => size) fun i hi => hf i (List.mem_range.1 hi)]
  simp

/-- Of byte strings of one size, one after the other, the `k`-th stands at `k` times that size. -/
theorem entrySlice_flatMap (f : Nat → List Byte) (size : Nat) (rest : List Byte) {n k : Nat}
    (hf : ∀ i < n, (f i).length = size) (hk : k < n) :
    entrySlice ((List.range n).flatMap f ++ rest) size k = f k := by
  induction n generalizing rest with
  | zero => omega
  | succ n ih =>
    have hf' : ∀ i < n, (f i).length = size := fun i hi => hf i (by omega)
    have hlen := length_flatMap_range f size hf'
    rw [List.range_succ, List.flatMap_append, List.append_assoc, List.flatMap_singleton]
    by_cases h : k < n
    · exact ih _ hf' h
    · obtain rfl : k = n := by omega
      rw [entrySlice, ← hlen, List.drop_left, List.take_append_of_le_length,
        List.take_of_length_le] <;> simp [hf k hk]

/-- R189. Entry `k` stands in the bytes of its table. -/
theorem entrySlice_readEntries (S : Tables) {t k : Nat} (rest : List Byte) (hk : k < tableSize t) :
    entrySlice (readEntries S t 0 (tableSize t) ++ rest) (entrySize t) k = entryBytes S t k := by
  have := entrySlice_flatMap (fun k => entryBytes S t (0 + k)) (entrySize t) rest
    (fun i hi => by rw [Nat.zero_add]; exact entryBytes_length S hi) hk
  rwa [Nat.zero_add] at this

theorem drop_readEntries (S : Tables) (t : Nat) (rest : List Byte) :
    (readEntries S t 0 (tableSize t) ++ rest).drop (tableSize t * entrySize t) = rest := by
  rw [← length_flatMap_range (fun k => entryBytes S t (0 + k)) (entrySize t) fun i hi => by
    rw [Nat.zero_add]; exact entryBytes_length S hi]
  exact List.drop_left ..

/-! The image read back -/

/-- `T` with its table `t` taken from `S`. -/
def copyTable (S T : Tables) (t : Nat) : Tables :=
  match t with
  | 0 => { T with keymap := S.keymap }
  | 1 => { T with chords := S.chords }
  | 2 => { T with zones := S.zones, glob := S.glob }
  | 3 => { T with gate := S.gate }
  | 4 => { T with curve := S.curve }
  | 5 => { T with policy := S.policy }
  | 6 => { T with reactions := S.reactions }
  | _ => T

/-- A vector whose entries the bytes hold in order is written whole. -/
theorem TableLens.writes_whole {α : Type} {n : Nat} (L : TableLens α n) {parse : List Byte → Option α} {size : Nat}
    (S T : Tables) {bs : List Byte} (h : ∀ i : Fin n, parse (entrySlice bs size i.val) = some (L.get S)[i]) :
    L.Writes parse size T (L.put T (L.get S)) 0 n bs := by
  refine ⟨by rw [L.get_put], fun i => ⟨fun _ => ?_, fun hi => absurd ⟨Nat.zero_le _, by omega⟩ hi⟩⟩
  rw [L.get_put]
  exact h i

/-- The bytes of a whole table in range are a write that gives its entries. -/
theorem writtenBy_copyTable {S : Tables} (hS : S.inRange) (T : Tables) {t : Nat} (ht : t < 7) {bs : List Byte}
    (hs : ∀ i, i < tableSize t → entrySlice bs (entrySize t) i = entryBytes S t i) :
    WrittenBy T (copyTable S T t) t 0 (tableSize t) bs := by
  obtain ⟨hk, hc, hz, hg, hga, hcu, hp, -, -⟩ := hS
  obtain ⟨w0, w1, -, w3, w4, w5, w6⟩ := writtenBy_iff_writes T (copyTable S T t) 0 (tableSize t) bs
  interval_cases t
  · refine w0.2 (keymapLens.writes_whole S T fun i => ?_)
    rw [hs i i.isLt, entryBytes, dif_pos i.isLt]
    exact KeymapEntry.ofBytes_bytes (hk i)
  · refine w1.2 (chordsLens.writes_whole S T fun i => ?_)
    rw [hs i i.isLt, entryBytes, dif_pos i.isLt]
    exact ChordEntry.ofBytes_bytes (hc i)
  · refine (writtenBy_glob T (copyTable S T 2) 0 3 bs rfl).2 ⟨?_, ?_⟩
    · refine ((writtenBy_iff_writes T _ 0 3 bs).2.2.1 (by omega)).2 (zonesLens.writes_whole S T fun i => ?_)
      rw [hs i (i.isLt.trans (by decide)), entryBytes, dif_pos i.isLt]
      exact ZoneRecord.ofBytes_bytes (hz i)
    · rw [hs 3 (by decide)]
      exact GlobalRecord.ofBytes_bytes hg
  · refine w3.2 (gateLens.writes_whole S T fun i => ?_)
    rw [hs i i.isLt, entryBytes, dif_pos i.isLt]
    exact GateEntry.ofBytes_bytes (hga i)
  · refine w4.2 (curveLens.writes_whole S T fun i => ?_)
    rw [hs i i.isLt, entryBytes, dif_pos i.isLt]
    exact CurvePoint.ofBytes_bytes (hcu i)
  · refine w5.2 (policyLens.writes_whole S T fun i => ?_)
    rw [hs i i.isLt, entryBytes, if_pos (by omega)]
    obtain rfl : i = 0 := Subsingleton.elim _ _
    exact Policy.ofBytes_bytes hp
  · refine w6.2 (reactionsLens.writes_whole S T fun i => ?_)
    rw [hs i i.isLt, entryBytes, dif_pos i.isLt]
    exact ReactionEntry.ofBytes_bytes _

/-- A whole table copied from tables in range is in range. -/
theorem entriesInRange_copyTable {S : Tables} (hS : S.inRange) (T : Tables) {t : Nat} (ht : t < 7) :
    (copyTable S T t).entriesInRange t 0 (tableSize t) := by
  obtain ⟨hk, hc, hz, hg, hga, hcu, hp, hr, -⟩ := hS
  interval_cases t <;> simp_all [Tables.entriesInRange, copyTable]

/-- R193. The bytes of a whole table in range load as its entries. -/
theorem loadEntries_readEntries {S : Tables} (hS : S.inRange) (T : Tables) {t : Nat} (ht : t < 7) (rest : List Byte) :
    loadEntries T t 0 (tableSize t) (readEntries S t 0 (tableSize t) ++ rest) = some (copyTable S T t, rest) := by
  have hc : 0 < tableSize t := by interval_cases t <;> decide
  have hw := (writeEntries_accepts T (copyTable S T t) (readEntries S t 0 (tableSize t) ++ rest) hc (by omega)).2
    ⟨writtenBy_copyTable hS T ht fun _ hi => entrySlice_readEntries S rest hi, entriesInRange_copyTable hS T ht⟩
  rw [loadEntries_of_writeEntries hw, drop_readEntries]

/-- R189, R193. The image of tables in range loads as those tables. -/
theorem tablesOfImage_imageBytes_inRange {T : Tables} (hT : T.inRange) : tablesOfImage (imageBytes T) = some T := by
  have hl : ∀ (U : Tables) (ts : List Nat), (∀ t ∈ ts, t < 7) →
      loadTables U ts (ts.flatMap fun t => readEntries T t 0 (tableSize t)) = some (ts.foldl (copyTable T) U, []) := by
    intro U ts
    induction ts generalizing U with
    | nil => exact fun _ => rfl
    | cons t ts ih =>
      intro h
      rw [List.flatMap_cons, loadTables, loadEntries_readEntries hT U (h t (by simp))]
      exact ih _ fun t ht => h t (by simp [ht])
  have hall : ∀ U : Tables, (List.range 7).foldl (copyTable T) U = T := fun U => by
    simp only [List.range, List.range.loop, List.foldl_cons, List.foldl_nil, copyTable]
  rw [tablesOfImage_imageBytes, hl defaultTables (List.range 7) fun t => List.mem_range.1, hall]

end Sys2Proof.Machine
end

section
/-! SUPPORT. Writes and invalidations keep tables in range (R183, R185). -/

namespace Sys2Proof.Machine

/-! The curve -/

/-- R7. Raw codes ascend from each point to the next exactly where they ascend from each point to every later one. -/
theorem ascending_iff_pairwise (l : List (Nat × Int)) :
    ascending l = true ↔ l.Pairwise fun p q => p.1 < q.1 := by
  induction l with
  | nil => simp [ascending]
  | cons p l ih =>
    cases l with
    | nil => simp [ascending]
    | cons q l =>
      rw [ascending, Bool.and_eq_true, decide_eq_true_eq, ih, List.pairwise_cons (a := p)]
      refine and_congr_left fun hq => ⟨fun h a ha => ?_, fun h => h q (by simp)⟩
      rcases List.mem_cons.1 ha with rfl | ha
      · exact h
      · exact h.trans (List.rel_of_pairwise_cons hq ha)

/-- An entry that fails a filter adds nothing to what passes it. -/
theorem filter_set_sublist {α : Type} (p : α → Bool) (l : List α) (i : Nat) (a : α) (ha : p a = false) :
    ((l.set i a).filter p).Sublist (l.filter p) := by
  induction l generalizing i with
  | nil => simp
  | cons b l ih =>
    cases i with
    | zero =>
      rw [List.set_cons_zero, List.filter_cons_of_neg (by simp [ha])]
      exact (List.sublist_cons_self b l).filter p
    | succ i =>
      rw [List.set_cons_succ, List.filter_cons, List.filter_cons]
      split
      · exact (ih i).cons_cons b
      · exact ih i

/-- R185. A point made invalid leaves the others ascending. -/
theorem curveOrdered_clear {v : Vector CurvePoint 16} {i : Nat} (hi : i < 16) (h : curveOrdered v = true) :
    curveOrdered (v.set i { v[i] with valid := false }) = true := by
  unfold curveOrdered validPoints at *
  rw [ascending_iff_pairwise] at *
  refine h.sublist (List.Sublist.map _ ?_)
  rw [Vector.toList_set]
  exact filter_set_sublist _ _ _ _ rfl

/-! Invalidation -/

/-- A property of every entry stands where an entry is replaced by one that has it. -/
theorem forall_getElem_set {α : Type} {n : Nat} (ok : Fin n → α → Bool) {v : Vector α n} {i : Nat} (hi : i < n) {a : α}
    (hv : ∀ j : Fin n, ok j v[j] = true) (ha : ok ⟨i, hi⟩ a = true) : ∀ j : Fin n, ok j (v.set i a)[j] = true := by
  intro j
  by_cases h : i = j.val
  · subst h; simpa using ha
  · simpa [Vector.getElem_set_ne, h] using hv j

/-- R185. No range or relation reads a valid flag, but for the curve's, which reads fewer points. -/
theorem clearValid_inRange {T : Tables} (hT : T.inRange) (t i : Nat) : (clearValid T t i).inRange := by
  obtain ⟨hk, hc, hz, hg, hga, hcu, hp, hr, ho⟩ := id hT
  unfold clearValid
  (repeat' split) <;> try exact hT
  case _ hi =>
    exact ⟨forall_getElem_set (fun _ => KeymapEntry.inRange) hi hk (hk ⟨i, hi⟩), hc, hz, hg, hga, hcu, hp, hr, ho⟩
  case _ hi =>
    exact ⟨hk, forall_getElem_set (fun _ => ChordEntry.inRange) hi hc (hc ⟨i, hi⟩), hz, hg, hga, hcu, hp, hr, ho⟩
  case _ hi =>
    exact ⟨hk, hc, forall_getElem_set (fun _ => ZoneRecord.inRange) hi hz (hz ⟨i, hi⟩), hg, hga, hcu, hp, hr, ho⟩
  case _ hi =>
    exact ⟨hk, hc, hz, hg, forall_getElem_set GateEntry.inRange hi hga (hga ⟨i, hi⟩), hcu, hp, hr, ho⟩
  case _ hi =>
    exact ⟨hk, hc, hz, hg, hga, forall_getElem_set (fun _ => CurvePoint.inRange) hi hcu (hcu ⟨i, hi⟩), hp, hr,
      curveOrdered_clear hi ho⟩
  case _ hi =>
    exact ⟨hk, hc, hz, hg, hga, hcu, hp, forall_getElem_set ReactionEntry.inRange hi hr (hr ⟨i, hi⟩), ho⟩

theorem invalidatedTables_inRange {T : Tables} (hT : T.inRange) (t first extra : Nat) :
    (invalidatedTables T t first extra).inRange := by
  unfold invalidatedTables
  generalize invalidatedIndexes t first extra = l
  induction l generalizing T with
  | nil => exact hT
  | cons i l ih => exact ih (clearValid_inRange hT t i)

/-! Writes -/

/-- R183. An accepted write leaves the tables in range. -/
theorem writtenTables_inRange {old T : Tables} (hold : old.inRange) {t first count : Nat} {bs : List Byte}
    (h : writtenTables old t first count bs = some T) : T.inRange := by
  obtain ⟨⟨wk, wc, wz, wg, wga, wcu, wp, wr⟩, ⟨nk, nc, nz, ng, nga, ncu, no, np, nr⟩, -, -⟩ :=
    (writtenTables_eq_some_iff ..).1 h
  obtain ⟨hk, hc, hz, hg, hga, hcu, hp, hr, ho⟩ := hold
  -- a named entry is in range by the judgement, another one is the old one
  have pick : ∀ {α : Type} {named : Prop} {ok : α → Bool} {new was : α}, (named → ok new = true) →
      (¬named → new = was) → ok was = true → ok new = true := fun hn hw hok => (em _).elim hn fun h => hw h ▸ hok
  refine ⟨fun i => pick (nk i) (wk i).2 (hk i), fun i => pick (nc i) (wc i).2 (hc i), fun i => pick (nz i) (wz i).2 (hz i),
    pick ng wg.2 hg, fun i => pick (nga i) (wga i).2 (hga i), fun i => pick (ncu i) (wcu i).2 (hcu i), pick np wp.2 hp,
    fun i => pick (nr i) (wr i).2 (hr i), ?_⟩
  by_cases h4 : t = 4
  · exact no h4
  · rw [show T.curve = old.curve from vector_eq_iff.2 fun i => (wcu i).2 fun hn => h4 hn.1]
    exact ho

end Sys2Proof.Machine
end

section
/-! SUPPORT. Which commands reach the Table Store: all the others leave it as it is. -/

namespace Sys2Proof.Machine

/-! Commands as effects on a powered part -/

/-- What a command does to a powered part, but for PART_POWER_ON and PART_POWER_OFF, and but for the pins that follow. -/
def commandEffect : Instr → State → State
  | .partPowerOn _ | .partPowerOff => id
  | .conversionInstant c0 c1 c2 c3 => conversionInstant #v[c0, c1, c2, c3]
  | .suspectTimerExpiry i => suspectExpiry i
  | .filterWindowEnd => filterEnd
  | .periodStart p0 p1 p2 => fun s => openPeriods (closePeriods (![p0, p1, p2]) s)
  | .heaterTrip i current => heaterTrip i current
  | .fanTachPulse => tachPulse
  | .stallTimerExpiry => fun s => expire .stallTimerExpiry (stallLeft s.hfd) stallFan s
  | .mainPgHigh => pgHigh
  | .powerGoodLoss => pgLow
  | .pgTimeout => fun s => expire .pgTimeout (runningPgTimer s.mbs) pgTimedOut s
  | .resetPulseExpiry => fun s => expire .resetPulseExpiry s.mbs.resetTimer enterBoot s
  | .bootTimeout => fun s => expire .bootTimeout s.mbs.bootTimer bootTimedOut s
  | .heartbeat tag p => takeRequest (serveHeartbeat tag p)
  | .heartbeatExpiry => fun s => expire .heartbeatExpiry s.mbs.heartbeatTimer heartbeatExpired s
  | .stableTimeReached => fun s => expire .stableTimeReached (stableLeft s.mbs) stableReached s
  | .cycleTimerExpiry => fun s => expire .cycleTimerExpiry s.mbs.cycleTimer (enterHeatHold false) s
  | .powerRequest tag p => takeRequest (servePowerRequest tag p)
  | .pendingShutdownExpiry => fun s => expire .pendingShutdownExpiry s.mbs.shutdown shutdownExpired s
  | .lockoutRetryExpiry => fun s => expire .lockoutRetryExpiry s.mbs.lockoutTimer (wake .retry 0) s
  | .historyRead tag p => takeRequest (serveHistoryRead tag p)
  | .historyMark tag p => takeRequest (serveHistoryMark tag p)
  | .historyClear tag p => takeRequest (serveHistoryClear tag p)
  | .scan raw => fun s => if atScanInstant s then scanInstant raw s else s
  | .stuckTimerExpiry c => fun s =>
    expire (.stuckTimerExpiry c) (stuckScanLeft c s) (scanInstant (heldCounts s.tsu)) s
  | .touchRead tag p => takeRequest (serveTouchRead tag p)
  | .repeatDue c => fun s => expire (.repeatDue c) (repeatLeft s.keq.keys[c]) (repeatFires c) s
  | .chordFire i => fun s => expire (.chordFire i) (chordLeft s i) (fireUpTo i) s
  | .panelSet tag p => takeRequest (servePanelSet tag p)
  | .faultRead tag p => takeRequest (serveFaultRead tag p)
  | .faultClear tag p => takeRequest (serveFaultClear tag p)
  | .badLengthByte len => badLength len
  | .badCharacter => badChar
  | .gapTimeout => gapExpired
  | .crcMismatch => fun s => enterResync 3 (lineBusy s)
  | .resyncIdle => idleLine
  | .overrun => overrun
  | .unknownKind kind tag _ => fun s => if isRequestKind kind then s else takeRequest (serveUnknown kind tag) s
  | .txFrameEnd => txEnd
  | .ident tag p => takeRequest (serveIdent tag p)
  | .statusRead tag p => takeRequest (serveStatusRead tag p)
  | .tableRead tag p => takeRequest (serveTableRead tag p)
  | .tableWrite tag p => takeRequest (serveTableWrite tag p)
  | .tableInvalidate tag p => takeRequest (serveTableInvalidate tag p)
  | .tableLock tag p => takeRequest (serveTableLock tag p)
  | .storeSave tag p => takeRequest (serveStoreSave tag p)
  | .saveCompletion verified => saveCompletion verified
  | .goodCharacter b => goodChar b
  | .heaterOnTimeEnd i => onTimeEnd i

/-- R192. Every command but those of the supply has its effect on a powered part and none without supply. -/
theorem exec_eq_effect (c : Instr) (s : State) (hon : ∀ r, c ≠ .partPowerOn r) (hoff : c ≠ .partPowerOff) :
    exec c s = whenPowered s (commandEffect c) := by
  cases c
  case partPowerOn r => exact absurd rfl (hon r)
  case partPowerOff => exact absurd rfl hoff
  case unknownKind kind tag p =>
    show execUnknownKind kind tag p s =
      whenPowered s fun s => if isRequestKind kind then s else takeRequest (serveUnknown kind tag) s
    by_cases h : isRequestKind kind = true
    · simp only [execUnknownKind, if_pos h]; rfl
    · simp only [execUnknownKind, if_neg h]; rfl
  all_goals rfl

/-! Checks of a request: what holds of every refusal and of the serving holds of the whole -/

theorem checkedRequest_induction (P : State → Prop) {kind tag : Byte} {checks : List (Bool × Status)}
    {serve : State → State} {s : State} (refused : ∀ st, P (refuse kind tag st s)) (served : P (serve s)) :
    P (checkedRequest kind tag checks serve s) := by
  unfold checkedRequest; split
  · exact refused _
  · exact served

theorem withNoPayload_induction (P : State → Prop) {kind tag : Byte} {payload : List Byte} {serve : State → State}
    {s : State} (refused : ∀ st, P (refuse kind tag st s)) (served : P (serve s)) :
    P (withNoPayload kind tag payload serve s) := by
  unfold withNoPayload; split
  · exact served
  · exact refused _

theorem withOneByte_induction (P : State → Prop) {kind tag : Byte} {payload : List Byte} {serve : Nat → State → State}
    {s : State} (refused : ∀ st, P (refuse kind tag st s)) (served : ∀ a, P (serve a s)) :
    P (withOneByte kind tag payload serve s) := by
  unfold withOneByte; split
  · exact served _
  · exact refused _

theorem withTwoBytes_induction (P : State → Prop) {kind tag : Byte} {payload : List Byte}
    {serve : Nat → Nat → State → State} {s : State} (refused : ∀ st, P (refuse kind tag st s))
    (served : ∀ a b, P (serve a b s)) : P (withTwoBytes kind tag payload serve s) := by
  unfold withTwoBytes; split
  · exact served _ _
  · exact refused _

theorem withThreeBytes_induction (P : State → Prop) {kind tag : Byte} {payload : List Byte}
    {serve : Nat → Nat → Nat → State → State} {s : State} (refused : ∀ st, P (refuse kind tag st s))
    (served : ∀ a b d, P (serve a b d s)) : P (withThreeBytes kind tag payload serve s) := by
  unfold withThreeBytes; split
  · exact served _ _ _
  · exact refused _

@[simp] theorem refuse_tbs (kind tag : Byte) (st : Status) (s : State) : (refuse kind tag st s).tbs = s.tbs := by
  simp [refuse]

theorem checkedRequest_tbs {kind tag : Byte} {checks : List (Bool × Status)} {serve : State → State} {s : State}
    (h : (serve s).tbs = s.tbs) : (checkedRequest kind tag checks serve s).tbs = s.tbs :=
  checkedRequest_induction (fun u => u.tbs = s.tbs) (fun st => by simp) h

/-! Events that leave the Table Store as it is -/

section
variable (s : State)

@[simp] theorem pgHigh_tbs : (pgHigh s).tbs = s.tbs := by
  unfold pgHigh; dsimp only; split <;> simp

@[simp] theorem pgLow_tbs : (pgLow s).tbs = s.tbs := by
  unfold pgLow; dsimp only; (repeat' split) <;> simp

@[simp] theorem pgTimedOut_tbs : (pgTimedOut s).tbs = s.tbs := by simp [pgTimedOut]

@[simp] theorem bootTimedOut_tbs : (bootTimedOut s).tbs = s.tbs := by simp [bootTimedOut]

@[simp] theorem heartbeatExpired_tbs : (heartbeatExpired s).tbs = s.tbs := by
  unfold heartbeatExpired; (repeat' split) <;> simp

@[simp] theorem shutdownExpired_tbs : (shutdownExpired s).tbs = s.tbs := by
  unfold shutdownExpired; split <;> simp

/-- R67. Entry into BOOT locks every table and changes nothing else of the Table Store. -/
@[simp] theorem enterBoot_tbs : (enterBoot s).tbs = { s.tbs with locks := tab fun _ => true } := by simp [enterBoot]

@[simp] theorem stableReached_tbs : (stableReached s).tbs = s.tbs := rfl

@[simp] theorem stallFan_tbs : (stallFan s).tbs = s.tbs := by simp [stallFan]

@[simp] theorem tachPulse_tbs : (tachPulse s).tbs = s.tbs := by
  unfold tachPulse; dsimp only; (repeat' split) <;> simp

@[simp] theorem reportFilter_tbs (l : Option Nat) : (reportFilter l s).tbs = s.tbs := by cases l <;> simp [reportFilter]

@[simp] theorem filterEnd_tbs : (filterEnd s).tbs = s.tbs := by simp [filterEnd]

@[simp] theorem closePeriods_tbs (peaks : Fin 3 → Nat) : (closePeriods peaks s).tbs = s.tbs := by simp [closePeriods]

@[simp] theorem openPeriods_tbs : (openPeriods s).tbs = s.tbs := rfl

@[simp] theorem onTimeEnd_tbs (i : Fin 3) : (onTimeEnd i s).tbs = s.tbs := by
  unfold onTimeEnd; dsimp only; split <;> simp

@[simp] theorem heaterTrip_tbs (i : Fin 3) (current : Nat) : (heaterTrip i current s).tbs = s.tbs := by
  unfold heaterTrip actOnTrip; dsimp only; (repeat' split) <;> simp [noteTrip]

@[simp] theorem countFilterSet_tbs : (countFilterSet s).tbs = s.tbs := by
  unfold countFilterSet; dsimp only; (repeat' split) <;> simp [endFilterWindow]

@[simp] theorem zoneComputation_tbs : (zoneComputation s).tbs = s.tbs := by
  simp [zoneComputation, computeTimers, computeCutOuts]

@[simp] theorem secondBoundary_tbs : (secondBoundary s).tbs = s.tbs := by simp [secondBoundary, measureSpeed]

@[simp] theorem conversionInstant_tbs (codes : Vector (BitVec 12) 4) : (conversionInstant codes s).tbs = s.tbs := by
  unfold conversionInstant; dsimp only; split <;> simp

@[simp] theorem suspectExpiry_tbs (i : Fin 4) : (suspectExpiry i s).tbs = s.tbs := by
  unfold suspectExpiry; split <;> simp

@[simp] theorem repeatFires_tbs (c : Fin 20) : (repeatFires c s).tbs = s.tbs := by
  unfold repeatFires repeatKey; dsimp only; (repeat' split) <;> simp

@[simp] theorem overrideHeat_tbs : (overrideHeat s).tbs = s.tbs := by unfold overrideHeat; split <;> simp

@[simp] theorem chordAction_tbs (i : Fin 8) (a : ChordAction) : (chordAction i a s).tbs = s.tbs := by
  cases a <;> simp [chordAction]

@[simp] theorem fireChord_tbs (i : Fin 8) : (fireChord i s).tbs = s.tbs := by simp [fireChord, markFired]

@[simp] theorem fireUpTo_tbs (i : Fin 8) : (fireUpTo i s).tbs = s.tbs := by
  unfold fireUpTo
  generalize (List.finRange 8).filter (· ≤ i) = l
  induction l generalizing s with
  | nil => rfl
  | cons j l ih => rw [List.foldl_cons, ih]; unfold fireIfDue; split <;> simp

@[simp] theorem handTransition_tbs (c : Fin 20) (t : KeyTransition) : (handTransition c t s).tbs = s.tbs := by
  cases t <;> simp [handTransition]

@[simp] theorem reportScan_tbs (before : Tsu) (stuck : List Nat) : (reportScan before stuck s).tbs = s.tbs := by
  simp [reportScan]

@[simp] theorem scanInstant_tbs (raw : Vector (BitVec 16) 22) : (scanInstant raw s).tbs = s.tbs := by
  have hf : ∀ (l : List (Fin 20)) (u : State),
      (l.foldl (fun acc c => handTransition c (scanKey raw s c).2 acc) u).tbs = u.tbs := fun l => by
    induction l with
    | nil => exact fun _ => rfl
    | cons c l ih => intro u; rw [List.foldl_cons, ih]; simp
  simp [scanInstant, hf]

/-! The link's events -/

@[simp] theorem enterResync_tbs (d : Nat) : (enterResync d s).tbs = s.tbs := by simp [enterResync]

@[simp] theorem badLength_tbs (len : Byte) : (badLength len s).tbs = s.tbs := by
  unfold badLength; split <;> simp [lineBusy]

@[simp] theorem badChar_tbs : (badChar s).tbs = s.tbs := by unfold badChar; split <;> simp [lineBusy]

@[simp] theorem gapExpired_tbs : (gapExpired s).tbs = s.tbs := by unfold gapExpired; split <;> simp

@[simp] theorem idleLine_tbs : (idleLine s).tbs = s.tbs := by unfold idleLine; split <;> simp

@[simp] theorem overrun_tbs : (overrun s).tbs = s.tbs := by unfold overrun; split <;> simp

@[simp] theorem txEnd_tbs : (txEnd s).tbs = s.tbs := by unfold txEnd; split <;> simp

/-! Requests that leave the Table Store as it is -/

@[simp] theorem serveIdent_tbs (tag : Byte) (p : List Byte) : (serveIdent tag p s).tbs = s.tbs :=
  withNoPayload_induction (fun u => u.tbs = s.tbs) (by simp) (by simp)

@[simp] theorem acceptHeartbeat_tbs (token : Byte) : (acceptHeartbeat token s).tbs = s.tbs := by
  unfold acceptHeartbeat; dsimp only; split <;> simp

@[simp] theorem serveHeartbeat_tbs (tag : Byte) (p : List Byte) : (serveHeartbeat tag p s).tbs = s.tbs :=
  withOneByte_induction (fun u => u.tbs = s.tbs) (by simp) fun a => by
    unfold heartbeatToken; dsimp only; (repeat' split) <;> simp

@[simp] theorem serveStatusRead_tbs (tag : Byte) (p : List Byte) : (serveStatusRead tag p s).tbs = s.tbs :=
  withOneByte_induction (fun u => u.tbs = s.tbs) (by simp) fun a => checkedRequest_tbs (by simp)

@[simp] theorem serveTableRead_tbs (tag : Byte) (p : List Byte) : (serveTableRead tag p s).tbs = s.tbs :=
  withThreeBytes_induction (fun u => u.tbs = s.tbs) (by simp) fun a b d => checkedRequest_tbs (by simp)

@[simp] theorem powerAction_tbs (action delay : Nat) : (powerAction action delay s).tbs = s.tbs := by
  unfold powerAction armShutdown; split <;> simp

@[simp] theorem servePowerRequest_tbs (tag : Byte) (p : List Byte) : (servePowerRequest tag p s).tbs = s.tbs :=
  withTwoBytes_induction (fun u => u.tbs = s.tbs) (by simp) fun a b => checkedRequest_tbs (by simp)

@[simp] theorem serveHistoryRead_tbs (tag : Byte) (p : List Byte) : (serveHistoryRead tag p s).tbs = s.tbs :=
  withTwoBytes_induction (fun u => u.tbs = s.tbs) (by simp) fun a b => checkedRequest_tbs (by
    unfold readDepth; (repeat' split) <;> simp)

@[simp] theorem serveHistoryMark_tbs (tag : Byte) (p : List Byte) : (serveHistoryMark tag p s).tbs = s.tbs :=
  checkedRequest_tbs (by simp [markHistory])

@[simp] theorem serveHistoryClear_tbs (tag : Byte) (p : List Byte) : (serveHistoryClear tag p s).tbs = s.tbs :=
  withNoPayload_induction (fun u => u.tbs = s.tbs) (by simp) (by simp [clearHistory])

@[simp] theorem servePanelSet_tbs (tag : Byte) (p : List Byte) : (servePanelSet tag p s).tbs = s.tbs :=
  withThreeBytes_induction (fun u => u.tbs = s.tbs) (by simp) fun a b d => by
    unfold panelLevel
    split
    · exact checkedRequest_tbs (by simp [setPanel, setRequested])
    · simp

@[simp] theorem serveFaultRead_tbs (tag : Byte) (p : List Byte) : (serveFaultRead tag p s).tbs = s.tbs :=
  withOneByte_induction (fun u => u.tbs = s.tbs) (by simp) fun a => by unfold readFault; split <;> simp

@[simp] theorem clearFaults_tbs (kind : Nat) : (clearFaults kind s).tbs = s.tbs := by
  unfold clearFaults; dsimp only; split <;> simp [releaseHeaters, clearRecords]

@[simp] theorem serveFaultClear_tbs (tag : Byte) (p : List Byte) : (serveFaultClear tag p s).tbs = s.tbs :=
  withOneByte_induction (fun u => u.tbs = s.tbs) (by simp) fun a => checkedRequest_tbs (by simp)

@[simp] theorem serveTouchRead_tbs (tag : Byte) (p : List Byte) : (serveTouchRead tag p s).tbs = s.tbs :=
  withOneByte_induction (fun u => u.tbs = s.tbs) (by simp) fun a => checkedRequest_tbs (by simp)

end

end Sys2Proof.Machine
end

section
/-! SUPPORT. Every step keeps the live tables, the snapshot of a save and the retained image in range (R183, R185, R189,
R190, R193). -/

namespace Sys2Proof.Machine

/-! What the invariant reads -/

/-- The invariant reads the Table Store alone. -/
theorem TablesOk.of_tbs {s t : State} (h : TablesOk s) (e : t.tbs = s.tbs) : TablesOk t := by
  unfold TablesOk; rw [e]; exact h

/-- It does not read the locks, the change flags and the last save result. -/
theorem TablesOk.of_stored {s t : State} (h : TablesOk s) (ht : t.tbs.tables = s.tbs.tables)
    (hs : t.tbs.store = s.tbs.store) (hi : t.tbs.image = s.tbs.image) : TablesOk t := by
  unfold TablesOk; rw [ht, hs, hi]; exact h

theorem builtInTables_inRange : defaultTables.inRange := by
  unfold Tables.inRange
  decide +kernel

/-- R193. A retained image of tables in range loads nothing out of range. -/
theorem Image.ok.load_inRange {im : Image} (h : im.ok) {T : Tables} (hl : im.load = some T) : T.inRange := by
  cases im with
  | written bs =>
    obtain ⟨U, hU, rfl⟩ := h
    obtain rfl : U = T := Option.some.inj ((tablesOfImage_imageBytes_inRange hU).symm.trans hl)
    exact hU
  | unwritten => cases hl
  | partlyWritten => cases hl
  | rejected => cases hl

/-- R192. A loss of supply leaves no image out of range. -/
theorem TablesOk.imageAfterLoss_ok {s : State} (h : TablesOk s) : (imageAfterLoss s.tbs).ok := by
  unfold imageAfterLoss; split
  · trivial
  · exact h.2.2

/-! Power -/

/-- R166, R193. A power-on over an image that is not usable reports F14 over the built-in tables, whose curve is not
short. -/
theorem powerOn_unusable {image : Image} (h : image.load = none) (rate : Bool) (pending : List Instr) :
    powerOn rate image pending =
      recordOccurrence 14 0 (State.atPowerOn rate defaultTables .defaults image pending) := by
  have hs : (State.atPowerOn rate defaultTables .defaults image pending).tmu.short = false :=
    show curveShort defaultCurve = false by decide +kernel
  simp [powerOn, h, hs]

/-- R18, R193. A power-on over a usable image takes its tables, and reports F5 where their curve is short. -/
theorem powerOn_usable {image : Image} {T : Tables} (h : image.load = some T) (rate : Bool) (pending : List Instr) :
    powerOn rate image pending =
      let s := State.atPowerOn rate T .retained image pending
      if curveShort T.curve then recordOccurrence 5 4 s else s := by
  simp only [powerOn, h]
  rfl

theorem powerOn_tablesOk {image : Image} (h : image.ok) (rate : Bool) (pending : List Instr) :
    TablesOk (powerOn rate image pending) := by
  cases hl : image.load with
  | none =>
    have : TablesOk (State.atPowerOn rate defaultTables .defaults image pending) := ⟨builtInTables_inRange, trivial, h⟩
    rw [powerOn_unusable hl]
    exact this.of_tbs (by simp)
  | some T =>
    have : TablesOk (State.atPowerOn rate T .retained image pending) := ⟨h.load_inRange hl, trivial, h⟩
    rw [powerOn_usable hl]
    dsimp only
    split
    · exact this.of_tbs (by simp)
    · exact this

/-! Expiries -/

theorem boardExpiry_tablesOk {e : BoardExpiry} (he : e ∈ boardExpiries) {s : State} (h : TablesOk s) :
    TablesOk (e.act s) := by
  simp only [boardExpiries, List.mem_cons, List.not_mem_nil, or_false] at he
  rcases he with rfl | rfl | rfl | rfl | rfl | rfl | rfl
  case inr.inr.inl => exact h.of_stored (by simp) (by simp) (by simp)
  all_goals exact h.of_tbs (by simp)

theorem settle_tablesOk (c : Instr) (u : State) {t : State} (h : TablesOk t) : TablesOk (settle c u t) := by
  unfold settle
  have : ∀ l : List BoardExpiry, (∀ e ∈ l, e ∈ boardExpiries) → ∀ {t}, TablesOk t → TablesOk (l.foldl (fun t e =>
      if e.cmd ≠ c ∧ e.timer u.mbs = some 0 ∧ e.timer t.mbs = some 0 then e.act t else t) t) := by
    intro l
    induction l with
    | nil => exact fun _ _ ht => ht
    | cons e l ih =>
      intro hl t ht
      rw [List.foldl_cons]
      refine ih (fun e he => hl e (by simp [he])) ?_
      split
      · exact boardExpiry_tablesOk (hl e (by simp)) ht
      · exact ht
  exact this _ (fun _ he => he) h

theorem expire_tablesOk (c : Instr) (left : Option Nat) {act : State → State}
    (hact : ∀ u, TablesOk u → TablesOk (act u)) {s : State} (h : TablesOk s) : TablesOk (expire c left act s) := by
  unfold expire
  (repeat' split) <;> try exact h
  exact settle_tablesOk _ _ (hact _ (h.of_tbs (by simp)))

/-! Table requests -/

section
variable (s : State)

@[simp] theorem keymapChanged_tbs (old : Tables) (c : Fin 20) : (keymapChanged old c s).tbs = s.tbs := by
  unfold keymapChanged; dsimp only; (repeat' split) <;> simp [unmapKey, mapKey, remapKey]

@[simp] theorem touchTablesChanged_tbs : (touchTablesChanged s).tbs = s.tbs := by simp [touchTablesChanged]

@[simp] theorem noticeKeymap_tbs (old : Tables) (l : List (Fin 20)) : (noticeKeymap old l s).tbs = s.tbs := by
  have hf : ∀ (l : List (Fin 20)) (u : State), (l.foldl (fun s c => keymapChanged old c s) u).tbs = u.tbs := fun l => by
    induction l with
    | nil => exact fun _ => rfl
    | cons c l ih => intro u; rw [List.foldl_cons, ih]; simp
  simp [noticeKeymap, hf]

/-- A change notice leaves the Table Store as it is. -/
@[simp] theorem notice_tbs (t : Nat) (old : Tables) (named : List Nat) : (notice t old named s).tbs = s.tbs := by
  unfold notice
  (repeat' split) <;>
    simp [noticeChords, noticeHeat, zonesChanged, noticeGate, noticeCurve, noticePolicy, noticeReactions]

end

theorem changeTables_tablesOk {s : State} (h : TablesOk s) (t : Fin 7) {T : Tables} (hT : T.inRange)
    (named : List Nat) : TablesOk (changeTables t T named s) :=
  TablesOk.of_tbs (s := s.setTbs { s.tbs with tables := T, changed := s.tbs.changed.set t true }) ⟨hT, h.2⟩
    (by simp [changeTables])

theorem refuse_tablesOk (kind tag : Byte) {s : State} (h : TablesOk s) (st : Status) :
    TablesOk (refuse kind tag st s) := h.of_tbs (by simp)

theorem reply_tablesOk (kind tag : Byte) (st : Status) (items : List Byte) {s : State} (h : TablesOk s) :
    TablesOk (reply kind tag st items s) := h.of_tbs (by simp)

/-- R183, R184. -/
theorem serveTableWrite_tablesOk (tag : Byte) (p : List Byte) {s : State} (h : TablesOk s) :
    TablesOk (serveTableWrite tag p s) := by
  unfold serveTableWrite
  split
  · split
    · unfold writeTable
      split
      · split
        · exact refuse_tablesOk _ _ h _
        · unfold writeUnlocked
          split
          · exact changeTables_tablesOk (reply_tablesOk _ _ _ _ h) _ (writtenTables_inRange h.1 ‹_›) _
          · exact refuse_tablesOk _ _ h _
      · exact refuse_tablesOk _ _ h _
    · exact refuse_tablesOk _ _ h _
  · exact refuse_tablesOk _ _ h _

/-- R185. -/
theorem serveTableInvalidate_tablesOk (tag : Byte) (p : List Byte) {s : State} (h : TablesOk s) :
    TablesOk (serveTableInvalidate tag p s) := by
  refine withThreeBytes_induction TablesOk (refuse_tablesOk _ _ h) fun t first extra => ?_
  unfold invalidateTable
  split
  · split
    · exact refuse_tablesOk _ _ h _
    · split
      · exact refuse_tablesOk _ _ h _
      · exact checkedRequest_induction TablesOk (refuse_tablesOk _ _ h)
          (changeTables_tablesOk (reply_tablesOk _ _ _ _ h) _ (invalidatedTables_inRange h.1 _ _ _) _)
  · exact refuse_tablesOk _ _ h _

/-- R186. -/
theorem serveTableLock_tablesOk (tag : Byte) (p : List Byte) {s : State} (h : TablesOk s) :
    TablesOk (serveTableLock tag p s) :=
  withTwoBytes_induction TablesOk (refuse_tablesOk _ _ h) fun _ _ =>
    checkedRequest_induction TablesOk (refuse_tablesOk _ _ h)
      (h.of_stored (by simp [setLocks]) (by simp [setLocks]) (by simp [setLocks]))

/-- R190. The snapshot of a save is of tables in range. -/
theorem serveStoreSave_tablesOk (tag : Byte) (p : List Byte) {s : State} (h : TablesOk s) :
    TablesOk (serveStoreSave tag p s) := by
  refine withNoPayload_induction TablesOk (refuse_tablesOk _ _ h) ?_
  unfold saveStore
  split
  · exact refuse_tablesOk _ _ h _
  · have hr := reply_tablesOk 0x14 tag .ok [] h
    exact ⟨hr.1, hr.1, hr.2.2⟩

/-- R191. A save that verified retains the image of its snapshot; one that did not retains none. -/
theorem saveCompletion_tablesOk (verified : Bool) {s : State} (h : TablesOk s) : TablesOk (saveCompletion verified s) := by
  unfold saveCompletion
  cases hs : s.tbs.store with
  | idle => exact h
  | writing T =>
    have hT : T.inRange := by have := h.2.1; rwa [hs] at this
    dsimp only
    split
    · exact TablesOk.of_tbs (s := s.setTbs { s.tbs with
        store := .idle, result := .ok, image := .written (imageBytes T) }) ⟨h.1, trivial, T, hT, rfl⟩
        (by simp [saveMatched, offerStore])
    · exact TablesOk.of_tbs (s := s.setTbs { s.tbs with
        store := .idle, result := .failed, image := .rejected, changed := tab fun _ => true }) ⟨h.1, trivial, trivial⟩
        (by simp [saveMismatched, offerStore])

/-! Requests and characters -/

theorem takeRequest_tablesOk {serve : State → State} (hs : ∀ u, TablesOk u → TablesOk (serve u)) {s : State}
    (h : TablesOk s) : TablesOk (takeRequest serve s) := by
  unfold takeRequest; split
  · exact h.of_tbs (by simp)
  · exact hs _ (h.of_tbs (by simp))

/-- R173. A request of whatever KIND. -/
theorem serveKind_tablesOk (kind tag : Byte) (p : List Byte) (s : State) (h : TablesOk s) :
    TablesOk (serveKind kind tag p s) := by
  unfold serveKind
  split
  case h_5 => exact serveTableWrite_tablesOk tag p h
  case h_6 => exact serveTableInvalidate_tablesOk tag p h
  case h_7 => exact serveTableLock_tablesOk tag p h
  case h_8 => exact serveStoreSave_tablesOk tag p h
  all_goals exact h.of_tbs (by simp [serveUnknown])

theorem goodChar_tablesOk (b : Byte) {s : State} (h : TablesOk s) : TablesOk (goodChar b s) := by
  have hc : ∀ u, TablesOk u → TablesOk (checkFrame u) := fun u hu => by
    unfold checkFrame
    split
    · split
      · exact takeRequest_tablesOk (serveKind_tablesOk _ _ _) hu
      · exact hu
    · exact hu.of_tbs (by simp)
  unfold goodChar
  dsimp only
  split
  · exact h.of_tbs (by unfold takeHunt; split <;> rfl)
  · exact h.of_tbs (by unfold takeLength; split <;> simp [lineBusy])
  · unfold takeBody
    dsimp only
    split
    · exact hc _ (h.of_tbs rfl)
    · exact h.of_tbs rfl
  · exact h.of_tbs rfl
  · exact h.of_tbs rfl

/-! Commands -/

theorem whenPowered_tablesOk {f : State → State} {s t : State} (ht : whenPowered s f = .next t) (h : TablesOk s)
    (hf : TablesOk (f s)) : TablesOk t := by
  unfold whenPowered done at ht
  split at ht <;> cases ht
  · exact hf.of_tbs (by simp)
  · exact h

/-- The effect of a command keeps the tables, the snapshot and the image in range. -/
theorem commandEffect_tablesOk (c : Instr) {s : State} (h : TablesOk s) : TablesOk (commandEffect c s) := by
  cases c with
  | partPowerOn | partPowerOff => exact h
  | pgTimeout | bootTimeout | heartbeatExpiry | stableTimeReached | cycleTimerExpiry | pendingShutdownExpiry
  | lockoutRetryExpiry | stuckTimerExpiry | stallTimerExpiry | repeatDue | chordFire =>
    exact expire_tablesOk _ _ (fun u hu => hu.of_tbs (by simp)) h
  | resetPulseExpiry => exact expire_tablesOk _ _ (fun u hu => hu.of_stored (by simp) (by simp) (by simp)) h
  | heartbeat | powerRequest | historyRead | historyMark | historyClear | touchRead | panelSet | faultRead | faultClear
  | ident | statusRead | tableRead => exact takeRequest_tablesOk (fun u hu => hu.of_tbs (by simp)) h
  | tableWrite tag p => exact takeRequest_tablesOk (fun u => serveTableWrite_tablesOk tag p) h
  | tableInvalidate tag p => exact takeRequest_tablesOk (fun u => serveTableInvalidate_tablesOk tag p) h
  | tableLock tag p => exact takeRequest_tablesOk (fun u => serveTableLock_tablesOk tag p) h
  | storeSave tag p => exact takeRequest_tablesOk (fun u => serveStoreSave_tablesOk tag p) h
  | unknownKind kind tag p =>
    rw [commandEffect]
    split
    · exact h
    · exact takeRequest_tablesOk (fun u hu => hu.of_tbs (by simp [serveUnknown])) h
  | saveCompletion verified => exact saveCompletion_tablesOk verified h
  | goodCharacter b => exact goodChar_tablesOk b h
  | scan raw => exact h.of_tbs (by rw [commandEffect]; dsimp only; split <;> simp)
  | conversionInstant | suspectTimerExpiry | filterWindowEnd | periodStart | heaterTrip | fanTachPulse | mainPgHigh
  | powerGoodLoss | badLengthByte | badCharacter | gapTimeout | resyncIdle | overrun | txFrameEnd | heaterOnTimeEnd
  | crcMismatch => exact h.of_tbs (by simp [commandEffect, lineBusy])

/-- A command keeps the tables, the snapshot and the image in range. -/
theorem exec_tablesOk (c : Instr) {s t : State} (h : TablesOk s) (ht : exec c s = .next t) : TablesOk t := by
  by_cases hon : ∃ r, c = .partPowerOn r
  · obtain ⟨rate, rfl⟩ := hon
    cases ht
    exact (powerOn_tablesOk h.imageAfterLoss_ok rate s.pending).of_tbs (by simp)
  by_cases hoff : c = .partPowerOff
  · subst hoff
    cases ht
    split
    · exact ⟨builtInTables_inRange, trivial, h.imageAfterLoss_ok⟩
    · exact h
  rw [exec_eq_effect c s (fun r hr => hon ⟨r, hr⟩) hoff] at ht
  exact whenPowered_tablesOk ht h (commandEffect_tablesOk c h)

/-- Settles O15: a step runs the front command, or idles, which leaves the Table Store as it is. -/
theorem everyStepKeepsTablesInRange : Obligations.EveryStepKeepsTablesInRange := by
  intro s t h ht
  unfold step at ht
  split at ht
  · refine exec_tablesOk _ ?_ ht
    exact h
  · cases ht
    unfold idle
    (repeat' split) <;> exact h.of_tbs (by simp)

end Sys2Proof.Machine
end

section
/-! Power-on and reset (R18, R90, R166, R193, R194). -/

namespace Sys2Proof.Machine

/-! Power-on over an image that is not usable -/

/-- R166, R193. A fallback to the built-in tables leaves what the first power-on leaves, but for the strap, the image and
the commands that wait. -/
theorem drivePins_powerOn_unusable {image : Image} (h : image.load = none) (rate : Bool) (pending : List Instr) :
    drivePins (powerOn rate image pending) =
      { State.reset with
        slp := Slp.powerOn rate, tbs := { State.reset.tbs with image := image }, pending := pending } := by
  rw [powerOn_unusable h]
  rfl

/-- R154, R194. After the first power-on every table is LOCKED and changed, and no record but F14's has counted. -/
theorem reset_tables_and_records :
    (∀ i : Fin 7, State.reset.tbs.changed[i] = true ∧ State.reset.tbs.locks[i] = true) ∧
    ∀ k : Fin 16, k ≠ 14 →
      (State.reset.fcl.records[k]).state = .clear ∧ (State.reset.fcl.records[k]).occurrences = 0 := by decide +kernel

/-! Power-on over a usable image -/

/-- R155. An occurrence counts in the record of its own kind. -/
theorem recordOccurrence_record_same (k : FaultKind) (d : Nat) (s : State) :
    (recordOccurrence k d s).fcl.records[k] = (s.fcl.records[k]).occur k d (s.tick % 65536) := by
  rw [recordOccurrence_records]; simp

/-- R155. An occurrence moves no record of another kind. -/
theorem recordOccurrence_record_ne {k j : FaultKind} (h : j ≠ k) (d : Nat) (s : State) :
    (recordOccurrence k d s).fcl.records[j] = s.fcl.records[j] := by
  rw [recordOccurrence_records]
  exact Vector.getElem_set_ne _ _ fun hc => h (Fin.ext hc.symm)

/-- R18, R153. The record that an F5 occurrence leaves of a fresh one is out of CLEAR, whatever its class: F5 has a lasting
condition. -/
theorem occur_powerOn_f5 (cls : FaultClass) (d now : Nat) :
    let r := (FaultRecord.powerOn cls).occur 5 d now
    r.occurrences = 1 ∧ r.firstDetail = d ∧ r.state ≠ .clear := by
  cases cls <;> exact ⟨rfl, rfl, by simp [FaultRecord.occur, FaultRecord.powerOn, latchedState, eventLike]⟩

/-- R154. At power-on every record is CLEAR and has counted nothing. -/
theorem atPowerOn_record (rate : Bool) (T : Tables) (load : LoadResult) (image : Image) (pending : List Instr)
    (k : Fin 16) : (State.atPowerOn rate T load image pending).fcl.records[k] =
      FaultRecord.powerOn (reactionInForce T k).cls := by
  simp [State.atPowerOn, Fcl.powerOn]

/-- R18. What a short curve, and that alone, counts after the tables have been loaded. -/
theorem powerOn_usable_records {image : Image} {T : Tables} (h : image.load = some T) (rate : Bool)
    (pending : List Instr) :
    (powerOn rate image pending).fcl.records[14] = FaultRecord.powerOn (reactionInForce T 14).cls ∧
    (powerOn rate image pending).fcl.records[5] =
      if curveShort T.curve then (FaultRecord.powerOn (reactionInForce T 5).cls).occur 5 4 0
      else FaultRecord.powerOn (reactionInForce T 5).cls := by
  rw [powerOn_usable h]
  have hr := atPowerOn_record rate T .retained image pending
  have ht : (State.atPowerOn rate T .retained image pending).tick = 0 := rfl
  generalize State.atPowerOn rate T .retained image pending = s at hr ht
  dsimp only
  split
  · have h14 := recordOccurrence_record_ne (k := 5) (j := 14) (by decide) 4 s
    have h5 := recordOccurrence_record_same 5 4 s
    rw [hr] at h14 h5
    rw [ht] at h5
    exact ⟨h14, h5⟩
  · exact ⟨hr 14, hr 5⟩

/-- R90, R151, R194. What the load of a usable image leaves of the other blocks. -/
theorem powerOn_usable_blocks {image : Image} {T : Tables} (h : image.load = some T) (rate : Bool)
    (pending : List Instr) :
    let t := powerOn rate image pending
    t.powered = true ∧ t.tick = 0 ∧ t.tbs = Tbs.powerOn T .retained image ∧ t.rhs = Rhs.powerOn .retained ∧
      t.mbs = Mbs.powerOn := by
  rw [powerOn_usable h]
  dsimp only
  split
  · simp only [recordOccurrence_keeps]
    exact ⟨rfl, rfl, rfl, rfl, rfl⟩
  · exact ⟨rfl, rfl, rfl, rfl, rfl⟩

/-- Settles O4: over an unusable image the part is as after reset, over a usable one as its tables make it. -/
theorem powerOnLoadsTheImageOrFallsBack : Obligations.PowerOnLoadsTheImageOrFallsBack := by
  refine ⟨fun rate s h => ?_, fun rate s T h => ?_⟩
  · obtain ⟨htab, hrec⟩ := reset_tables_and_records
    exact ⟨_, congrArg Host.Outcome.next (drivePins_powerOn_unusable h rate s.pending), rfl, rfl, rfl, htab, rfl, rfl, rfl,
      rfl, hrec, rfl, rfl, rfl, rfl, rfl, rfl, rfl, rfl, rfl, rfl, rfl, rfl, rfl, rfl⟩
  · obtain ⟨h14, h5⟩ := powerOn_usable_records h rate s.pending
    obtain ⟨hpow, htick, htbs, hrhs, hmbs⟩ := powerOn_usable_blocks h rate s.pending
    refine ⟨drivePins (powerOn rate (imageAfterLoss s.tbs) s.pending), rfl, ?_⟩
    generalize powerOn rate (imageAfterLoss s.tbs) s.pending = t at *
    simp only [drivePins_keeps, hpow, htick, htbs, hrhs, hmbs, Tbs.powerOn, Rhs.powerOn, true_and]
    refine ⟨fun i => ⟨by simp, by simp⟩, by rw [h14]; rfl, rfl, fun hs => ?_, fun hs => ?_⟩
    · rw [h5, if_pos hs]
      exact occur_powerOn_f5 _ _ _
    · rw [h5, if_neg (by simp [hs])]
      exact ⟨rfl, rfl⟩

/-- Settles O6. -/
theorem resetMeetsTheInvariants : Obligations.ResetMeetsTheInvariants := by
  refine ⟨?_, ⟨⟨rfl, rfl, rfl⟩, ?_, ?_⟩, ?_, ?_, ?_, ?_, ?_, ⟨rfl, fun _ => rfl⟩, ?_, ?_,
    ⟨builtInTables_inRange, trivial, trivial⟩, ?_, ?_, ?_, ?_, ?_⟩
  · exact congrArg Host.Outcome.next (by decide +kernel)
  · unfold Mbs.timersOk; decide +kernel
  · unfold Mbs.countOk; decide +kernel
  · unfold HeatersOk; decide +kernel
  · unfold BaselinesOk; decide +kernel
  · unfold ScannedSetOk; decide +kernel
  · unfold QueueOk; decide +kernel
  · refine ⟨by decide, fun i e h => ?_⟩
    cases i with
    | zero => cases h; decide
    | succ n => cases h
  · unfold IndicationOk; decide +kernel
  · unfold PinsOk; decide +kernel
  · exact ⟨by decide, by decide, by decide, by decide, by decide, by decide⟩
  · unfold FanOk; decide +kernel
  · intro k h; cases h
  · unfold RecordsOk; decide +kernel
  · unfold DownKeysOk; decide +kernel

end Sys2Proof.Machine
end

section
/-! Linearization (R9, R10). -/

namespace Sys2Proof.Machine

/-- Along ascending points the way to `x` leads over every point at or below it. -/
theorem alongCurve_append {a p : Nat × Int} {l r : List (Nat × Int)} {x : Nat}
    (h : (l ++ p :: r).Pairwise fun u v => u.1 < v.1) (hx : p.1 ≤ x) :
    alongCurve a x (l ++ p :: r) = alongCurve p x r := by
  induction l generalizing a with
  | nil => rw [List.nil_append, alongCurve, if_neg (by omega)]
  | cons b l ih =>
    have hb : b.1 < p.1 := List.rel_of_pairwise_cons h (by simp)
    rw [List.cons_append, alongCurve, if_neg (by omega)]
    exact ih (List.Pairwise.of_cons h)

/-- R9. An averaged code at or above a point is read along the points from there on. -/
theorem linearize_append {p : Nat × Int} {l r : List (Nat × Int)} {x : Nat} (h : ascending (l ++ p :: r) = true)
    (hx : p.1 ≤ x) : linearize (l ++ p :: r) x = alongCurve p x r := by
  rw [ascending_iff_pairwise] at h
  cases l with
  | nil => exact if_neg (by omega)
  | cons a l =>
    have ha : a.1 < p.1 := List.rel_of_pairwise_cons h (by simp)
    rw [List.cons_append, linearize, if_neg (by omega)]
    exact alongCurve_append (List.Pairwise.of_cons h) hx

/-- Settles O21: at or above a point the code is read from that point on, which is the last one or has a next one. -/
theorem linearizationInterpolatesAndClamps : Obligations.LinearizationInterpolatesAndClamps := by
  intro points x h
  refine ⟨?_, ?_, ?_, ?_⟩
  · rintro p rest rfl hx
    exact if_pos hx
  · rintro l p rfl rfl
    rw [linearize_append h le_rfl]
    simp [alongCurve]
  · rintro l p rfl hx
    rw [linearize_append h hx.le]
    simp [alongCurve, hx]
  · rintro l p q r rfl hp hq
    rw [linearize_append h hp]
    exact if_pos hq

end Sys2Proof.Machine
end

section
/-! SUPPORT. One conversion and one second boundary of the Temperature Unit (R1 to R5, R14, R16, R17). -/

namespace Sys2Proof.Machine

/-! One conversion of one channel -/

theorem codeInRange_iff (code : Nat) : codeInRange code = true ↔ 16 ≤ code ∧ code ≤ 4079 := by
  simp [codeInRange]

theorem pushWindow_eq (w : List Nat) (code : Nat) : pushWindow w code = (w ++ [code]).drop (w.length - 7) := by
  unfold pushWindow; congr 1

/-- R2. A code in range enters the window of a GOOD channel. -/
theorem convertChannel_good_inRange {code : Nat} {c : TmuChannel} (hg : c.health = .good) (hc : codeInRange code = true) :
    convertChannel code c = { c with window := (c.window ++ [code]).drop (c.window.length - 7), outCount := 0 } := by
  simp [convertChannel, hg, convertGood, hc, pushWindow_eq]

/-- R3. A code out of range is counted, and the third in a row makes a GOOD channel SUSPECT. -/
theorem convertChannel_good_outOfRange {code : Nat} {c : TmuChannel} (hg : c.health = .good)
    (hc : ¬codeInRange code = true) :
    convertChannel code c =
      if 2 ≤ c.outCount then
        { c with
          outCount := min 255 (c.outCount + 1), health := .suspect, window := [], runCount := 0, suspect := some 0 }
      else { c with outCount := min 255 (c.outCount + 1) } := by
  have h : 3 ≤ satAdd 255 c.outCount 1 ↔ 2 ≤ c.outCount := by unfold satAdd; omega
  simp only [convertChannel, hg, convertGood, if_neg hc, h]
  rfl

theorem convertChannel_not_good {code : Nat} {c : TmuChannel} (hg : c.health ≠ .good) :
    convertChannel code c = countSuspect (convertRun code c) := by
  unfold convertChannel
  split
  · exact absurd ‹_› hg
  · rfl
  · rfl

/-- R5. The eighth code in range in a row makes a channel GOOD, its suspect timer stopped. -/
theorem convertChannel_recovers {code : Nat} {c : TmuChannel} (hg : c.health ≠ .good) (hc : codeInRange code = true)
    (hr : 7 ≤ c.runCount) : convertChannel code c = { c with
      window := (c.window ++ [code]).drop (c.window.length - 7), runCount := c.runCount + 1, outCount := 0
      health := .good, suspect := none } := by
  simp [convertChannel_not_good hg, convertRun, hc, pushWindow_eq, countSuspect, show 8 ≤ c.runCount + 1 by omega]

/-- R5. A code in range before the eighth in a row lengthens the run, and the suspect timer counts. -/
theorem convertChannel_run {code : Nat} {c : TmuChannel} (hg : c.health ≠ .good) (hc : codeInRange code = true)
    (hr : c.runCount < 7) : convertChannel code c = countSuspect { c with
      window := (c.window ++ [code]).drop (c.window.length - 7), runCount := c.runCount + 1, outCount := 0 } := by
  simp [convertChannel_not_good hg, convertRun, hc, pushWindow_eq, show ¬8 ≤ c.runCount + 1 by omega]

/-- R5. A code out of range ends the run and empties the window of a channel that is not GOOD, and the suspect timer
counts. -/
theorem convertChannel_broken {code : Nat} {c : TmuChannel} (hg : c.health ≠ .good) (hc : ¬codeInRange code = true) :
    convertChannel code c =
      countSuspect { c with window := [], runCount := 0, outCount := min 255 (c.outCount + 1) } := by
  rw [convertChannel_not_good hg, convertRun, if_neg hc]
  rfl

/-- R4. The suspect timer counts up to 79, and its 80th instant makes the channel FAILED; nothing else changes. -/
theorem countSuspect_eq (c : TmuChannel) :
    countSuspect c = { c with health := (countSuspect c).health, suspect := (countSuspect c).suspect } ∧
    (c.suspect = none → (countSuspect c).health = c.health ∧ (countSuspect c).suspect = none) ∧
    (∀ n, c.suspect = some n → n < 79 → (countSuspect c).health = c.health ∧ (countSuspect c).suspect = some (n + 1)) ∧
    (∀ n, c.suspect = some n → 79 ≤ n → (countSuspect c).health = .failed ∧ (countSuspect c).suspect = none) := by
  have h80 : ∀ n, Config.suspectInstants ≤ n + 1 ↔ 79 ≤ n := fun n => by unfold Config.suspectInstants; omega
  unfold countSuspect
  split
  next n h =>
    by_cases hn : 79 ≤ n
    · simp [h, h80, hn, TmuChannel.fail]
    · simp [h, h80, hn]; omega
  next h => exact ⟨rfl, fun _ => ⟨rfl, h⟩, by simp [h], by simp [h]⟩

/-- R6, R10. A conversion forms no temperature. -/
theorem convertChannel_held (code : Nat) (c : TmuChannel) :
    (convertChannel code c).held = c.held ∧ (convertChannel code c).outOfTable = c.outOfTable := by
  have hs : ∀ d : TmuChannel, (countSuspect d).held = d.held ∧ (countSuspect d).outOfTable = d.outOfTable := fun d => by
    rw [(countSuspect_eq d).1]; exact ⟨rfl, rfl⟩
  unfold convertChannel
  split
  · unfold convertGood
    dsimp only
    (repeat' split) <;> exact ⟨rfl, rfl⟩
  all_goals
    rw [(hs _).1, (hs _).2]
    unfold convertRun
    dsimp only
    (repeat' split) <;> exact ⟨rfl, rfl⟩

/-! The instant of the unit -/

section
variable (codes : Vector (BitVec 12) 4) (t : Tmu)

/-- R1, R16. An instant counts itself, converts each channel, holds the codes, and empties the ring where S1 leaves GOOD. -/
theorem convert_eq : t.convert codes = { t with
    instants := t.instants + 1
    channels := tab fun i => convertChannel (codes[i]).toNat t.channels[i]
    ring := (t.convert codes).ring, drift := (t.convert codes).drift, codes := codes } := by
  unfold Tmu.convert
  dsimp only
  split <;> rfl

@[simp] theorem convert_instants : (t.convert codes).instants = t.instants + 1 := by rw [convert_eq]

@[simp] theorem convert_codes : (t.convert codes).codes = codes := by rw [convert_eq]

@[simp] theorem convert_short : (t.convert codes).short = t.short := by rw [convert_eq]

@[simp] theorem convert_lastSet : (t.convert codes).lastSet = t.lastSet := by rw [convert_eq]

@[simp] theorem convert_channel (i : Fin 4) :
    (t.convert codes).channels[i] = convertChannel (codes[i]).toNat t.channels[i] := by rw [convert_eq]; simp

/-- R16, R17. The ring is emptied, and the drift class 1, exactly where S1 ceases to be reported GOOD. -/
theorem convert_ring :
    (t.convert codes).ring =
      (if reportedHealth t 1 = .good ∧ reportedHealth (t.convert codes) 1 ≠ .good then [] else t.ring) ∧
    (t.convert codes).drift =
      if reportedHealth t 1 = .good ∧ reportedHealth (t.convert codes) 1 ≠ .good then 1 else t.drift := by
  have hh : reportedHealth (t.convert codes) 1 = reportedHealth { t with
      instants := t.instants + 1
      channels := tab fun i => convertChannel (codes[i]).toNat t.channels[i]
      codes := codes } 1 := by rw [convert_eq]; rfl
  rw [hh]
  unfold Tmu.convert
  dsimp only
  split <;> exact ⟨rfl, rfl⟩

end

/-! The second boundary of the unit -/

section
variable (points : List (Nat × Int)) (t : Tmu)

/-- R14. The set handed is that of what the unit holds after the boundary. -/
theorem boundary_lastSet : (t.boundary points).lastSet = some (t.boundary points).handedSet := rfl

@[simp] theorem boundary_instants : (t.boundary points).instants = t.instants := rfl

@[simp] theorem boundary_codes : (t.boundary points).codes = t.codes := rfl

@[simp] theorem boundary_short : (t.boundary points).short = t.short := rfl

@[simp] theorem boundary_channel (i : Fin 4) :
    (t.boundary points).channels[i] = formChannel t.short points t.channels[i] := by simp [Tmu.boundary]

end

/-- R2. A boundary changes no health, window or timer of a channel. -/
theorem formChannel_eq (short : Bool) (points : List (Nat × Int)) (c : TmuChannel) :
    formChannel short points c =
      { c with held := (formChannel short points c).held, outOfTable := (formChannel short points c).outOfTable } := by
  unfold formChannel
  dsimp only
  split <;> rfl

@[simp] theorem boundary_reportedHealth (points : List (Nat × Int)) (t : Tmu) (i : Fin 4) :
    reportedHealth (t.boundary points) i = reportedHealth t i := by
  unfold reportedHealth
  rw [boundary_short, boundary_channel, formChannel_eq]

end Sys2Proof.Machine
end

section
/-! SUPPORT. What an instant and a second boundary make of the Temperature Unit, and the fan pulses they count (R1, R2,
R14, R16, R17, R35). -/

namespace Sys2Proof.Machine

/-! Ring and drift class at a boundary -/

section
variable (points : List (Nat × Int)) (t : Tmu)

/-- R16. The ring takes the value S1 forms. -/
theorem boundary_ring : (t.boundary points).ring =
    if formsTemperature t.short t.channels[1] then
      pushRing t.ring ((((t.boundary points).channels[1]).held).getD 0)
    else t.ring := rfl

/-- R17. The class is judged from the ring after the boundary. -/
theorem boundary_drift :
    (t.boundary points).drift = driftOf (t.boundary points).ring (reportedHealth (t.boundary points) 1 == .good) := rfl

theorem pushRing_eq (ring : List Int) (v : Int) : pushRing ring v = (ring ++ [v]).drop (ring.length - 8) := by
  unfold pushRing; congr 1

theorem formsTemperature_iff (short : Bool) (c : TmuChannel) :
    formsTemperature short c = true ↔ c.health = .good ∧ c.window.length = 8 ∧ short = false := by
  simp [formsTemperature, and_assoc]

/-- R2. Whether a channel has formed a temperature can be read off it after the boundary. -/
theorem formsTemperature_formChannel (short : Bool) (c : TmuChannel) :
    formsTemperature short (formChannel short points c) = formsTemperature short c := by
  rw [formChannel_eq]; rfl

/-- R2, R10. A channel that forms a temperature holds the linearization of its average. -/
theorem formChannel_forms {short : Bool} {c : TmuChannel} (h : formsTemperature short c = true) :
    (formChannel short points c).held = some (linearize points ((formChannel short points c).window.sum / 8)).1 ∧
    (formChannel short points c).outOfTable = (linearize points ((formChannel short points c).window.sum / 8)).2 := by
  unfold formChannel
  rw [if_pos h]
  exact ⟨rfl, rfl⟩

theorem formChannel_stays {short : Bool} {c : TmuChannel} (h : ¬formsTemperature short c = true) :
    formChannel short points c = c := if_neg h

end

/-! The instant as a command -/

section
variable (codes : Vector (BitVec 12) 4) (s : State)

/-- R1, R14. The Temperature Unit after an instant. -/
theorem conversionInstant_tmu : (conversionInstant codes s).tmu =
    if (s.tmu.instants + 1) % 8 = 0 then (s.tmu.convert codes).boundary (validPoints s.tbs.tables.curve)
    else s.tmu.convert codes := by
  unfold conversionInstant
  dsimp only
  rw [convert_instants]
  split <;> simp

/-- R1. Each channel is as its own conversion makes it, but for the temperature a boundary forms. -/
theorem conversionInstant_channel (i : Fin 4) : (conversionInstant codes s).tmu.channels[i] =
    if (s.tmu.instants + 1) % 8 = 0 then
      formChannel s.tmu.short (validPoints s.tbs.tables.curve) (convertChannel (codes[i]).toNat s.tmu.channels[i])
    else convertChannel (codes[i]).toNat s.tmu.channels[i] := by
  rw [conversionInstant_tmu]
  split
  · rw [boundary_channel, convert_short, convert_channel]
  · rw [convert_channel]

@[simp] theorem conversionInstant_instants : (conversionInstant codes s).tmu.instants = s.tmu.instants + 1 := by
  rw [conversionInstant_tmu]; split <;> simp

@[simp] theorem conversionInstant_codes : (conversionInstant codes s).tmu.codes = codes := by
  rw [conversionInstant_tmu]; split <;> simp

@[simp] theorem secondBoundary_tick : (secondBoundary s).tick = s.tick := by
  have hr : ∀ (l : Option Nat) (u : State), (reportFilter l u).tick = u.tick := fun l u => by
    cases l <;> simp [reportFilter]
  have hc : ∀ u : State, (countFilterSet u).tick = u.tick := fun u => by
    unfold countFilterSet
    split
    · rfl
    · dsimp only; split <;> simp [endFilterWindow, hr]
  simp [secondBoundary, hc, measureSpeed, zoneComputation, computeTimers, computeCutOuts]

@[simp] theorem conversionInstant_tick : (conversionInstant codes s).tick = s.tick := by
  unfold conversionInstant
  dsimp only
  split <;> simp

end

theorem exec_conversionInstant (c0 c1 c2 c3 : BitVec 12) {s : State} (hp : s.powered = true) :
    exec (.conversionInstant c0 c1 c2 c3) s = .next (drivePins (conversionInstant #v[c0, c1, c2, c3] s)) :=
  whenPowered_on s _ hp

/-! The fan pulses and the speed measured from them, which only a second boundary and a pulse move -/

section
variable (s : State)

@[simp] theorem recomputeDuties_pulses : (recomputeDuties s).hfd.pulses = s.hfd.pulses ∧
    (recomputeDuties s).hfd.speed = s.hfd.speed := ⟨rfl, rfl⟩

@[simp] theorem setRailChange_pulses (r : RailChange) : (setRailChange r s).hfd.pulses = s.hfd.pulses ∧
    (setRailChange r s).hfd.speed = s.hfd.speed := ⟨rfl, rfl⟩

@[simp] theorem recomputeFan_pulses : (recomputeFan s).hfd.pulses = s.hfd.pulses ∧
    (recomputeFan s).hfd.speed = s.hfd.speed := ⟨rfl, rfl⟩

@[simp] theorem handDemands_pulses (railOn : Bool) : (handDemands railOn s).hfd.pulses = s.hfd.pulses ∧
    (handDemands railOn s).hfd.speed = s.hfd.speed := ⟨rfl, rfl⟩

@[simp] theorem railMoved_pulses : (railMoved s).hfd.pulses = s.hfd.pulses ∧ (railMoved s).hfd.speed = s.hfd.speed := by
  simp [railMoved]

@[simp] theorem switchOn_pulses : (switchOn s).hfd.pulses = s.hfd.pulses ∧ (switchOn s).hfd.speed = s.hfd.speed := by
  simp [switchOn]

@[simp] theorem judgeRelease_pulses : (judgeRelease s).hfd.pulses = s.hfd.pulses ∧
    (judgeRelease s).hfd.speed = s.hfd.speed := by
  unfold judgeRelease
  split <;> simp

@[simp] theorem rejudgeRelease_pulses : (rejudgeRelease s).hfd.pulses = s.hfd.pulses ∧
    (rejudgeRelease s).hfd.speed = s.hfd.speed := by
  unfold rejudgeRelease
  split <;> simp

@[simp] theorem conditionChanged_pulses (k : FaultKind) : (conditionChanged k s).hfd.pulses = s.hfd.pulses ∧
    (conditionChanged k s).hfd.speed = s.hfd.speed := by
  unfold conditionChanged
  dsimp only
  split <;> simp

@[simp] theorem depart_pulses (cause : Cause) (d : Nat) (stage : Stage) :
    (depart cause d stage s).hfd.pulses = s.hfd.pulses ∧ (depart cause d stage s).hfd.speed = s.hfd.speed := by
  unfold depart
  dsimp only
  split <;> simp [departCommon, switchOff]

@[simp] theorem restartDecision_pulses (cause : Cause) (d : Nat) :
    (restartDecision cause d s).hfd.pulses = s.hfd.pulses ∧ (restartDecision cause d s).hfd.speed = s.hfd.speed := by
  unfold restartDecision
  dsimp only
  (repeat' split) <;> simp

@[simp] theorem report_pulses (k : FaultKind) (d : Nat) : (report k d s).hfd.pulses = s.hfd.pulses ∧
    (report k d s).hfd.speed = s.hfd.speed := by
  unfold report
  dsimp only
  split <;> simp

@[simp] theorem reportAll_pulses (k : FaultKind) (l : List Nat) : (reportAll k l s).hfd.pulses = s.hfd.pulses ∧
    (reportAll k l s).hfd.speed = s.hfd.speed := by
  unfold reportAll
  induction l generalizing s with
  | nil => exact ⟨rfl, rfl⟩
  | cons d l ih => simpa using ih (report k d s)

@[simp] theorem countFilterSet_pulses : (countFilterSet s).hfd.pulses = s.hfd.pulses ∧
    (countFilterSet s).hfd.speed = s.hfd.speed := by
  have h : ∀ (l : Option Nat) (u : State),
      (reportFilter l u).hfd.pulses = u.hfd.pulses ∧ (reportFilter l u).hfd.speed = u.hfd.speed := fun l u => by
    cases l <;> simp [reportFilter]
  unfold countFilterSet
  dsimp only
  (repeat' split) <;> simp [endFilterWindow, h]

/-- R35. A boundary measures the speed from the pulses and counts them afresh. -/
theorem secondBoundary_pulses : (secondBoundary s).hfd.pulses = 0 ∧
    (secondBoundary s).hfd.speed = min 65535 (30 * s.hfd.pulses) := by
  simp [secondBoundary, handRelease, measureSpeed, zoneComputation, computeTimers, computeCutOuts]

theorem conversionInstant_pulses (codes : Vector (BitVec 12) 4) (h : (s.tmu.instants + 1) % 8 = 0) :
    (conversionInstant codes s).hfd.pulses = 0 ∧
    (conversionInstant codes s).hfd.speed = min 65535 (30 * s.hfd.pulses) := by
  unfold conversionInstant
  dsimp only
  rw [convert_instants, if_pos h]
  simp [secondBoundary_pulses]

end

end Sys2Proof.Machine
end

section
/-! The obligations about conversions, second boundaries and the drift class (R1 to R5, R14, R16, R17). -/

namespace Sys2Proof.Machine

/-! The set handed at a boundary -/

section
variable (codes : Vector (BitVec 12) 4) (points : List (Nat × Int)) (t : Tmu)

/-- R2. Whether a channel has formed a temperature at a boundary, read off the unit after it. -/
theorem forms_boundary_iff (i : Fin 4) :
    (((t.boundary points).channels[i]).health = .good ∧ ((t.boundary points).channels[i]).window.length = 8 ∧
      (t.boundary points).short = false) ↔ formsTemperature t.short t.channels[i] = true := by
  rw [boundary_channel, boundary_short, ← formsTemperature_iff, formsTemperature_formChannel]

/-- R16. The ring where S1 forms no temperature. -/
theorem boundary_convert_ring_stays (hf : ¬formsTemperature (t.convert codes).short (t.convert codes).channels[1] = true) :
    ((t.convert codes).boundary points).ring =
      if reportedHealth t 1 = .good ∧ reportedHealth ((t.convert codes).boundary points) 1 ≠ .good then []
      else t.ring := by
  rw [boundary_ring, if_neg hf, boundary_reportedHealth]
  exact (convert_ring codes t).1

/-- R16. The ring where S1 forms the temperature `v`. -/
theorem boundary_convert_ring_takes {v : Int}
    (hf : formsTemperature (t.convert codes).short (t.convert codes).channels[1] = true)
    (hv : (((t.convert codes).boundary points).channels[1]).held = some v) :
    ((t.convert codes).boundary points).ring = (t.ring ++ [v]).drop (t.ring.length - 8) := by
  have hr : (t.convert codes).ring = t.ring := by
    rw [(convert_ring codes t).1, if_neg]
    obtain ⟨hg, -, hs⟩ := (formsTemperature_iff _ _).1 hf
    rintro ⟨-, hn⟩
    exact hn (by rw [reportedHealth, hs]; exact hg)
  rw [boundary_ring, if_pos hf, hv, pushRing_eq, hr]
  rfl

/-- R14. What the set handed says of a channel. -/
theorem handedSet_reading (i : Fin 4) : t.handedSet.readings[i] =
    ⟨(t.channels[i]).held, if t.short then .failed else (t.channels[i]).health, (t.channels[i]).outOfTable⟩ := by
  simp [Tmu.handedSet, reportedHealth]

end

/-- Settles O22: the ring and the channels of a boundary over the conversion's, and the pulses that no other operation
of the boundary moves. -/
theorem aSecondBoundaryHandsTheSet : Obligations.ASecondBoundaryHandsTheSet := by
  intro c0 c1 c2 c3 s hp h8
  have hu : (conversionInstant #v[c0, c1, c2, c3] s).tmu =
      (s.tmu.convert #v[c0, c1, c2, c3]).boundary (validPoints s.tbs.tables.curve) := by
    rw [conversionInstant_tmu, if_pos h8]
  refine ⟨_, (conversionInstant #v[c0, c1, c2, c3] s).tmu.handedSet, exec_conversionInstant c0 c1 c2 c3 hp, ?_⟩
  simp only [drivePins_keeps, hu]
  refine ⟨boundary_lastSet _ _, rfl, by simp, by simp, by simp, (conversionInstant_pulses s _ h8).1,
    (conversionInstant_pulses s _ h8).2, fun v hf hv => ?_, fun hf => ?_, fun i => ?_⟩
  · exact boundary_convert_ring_takes _ _ _ ((forms_boundary_iff _ _ 1).1 hf) hv
  · exact boundary_convert_ring_stays _ _ _ fun h => hf ((forms_boundary_iff _ _ 1).2 h)
  · rw [handedSet_reading]
    refine ⟨rfl, rfl, rfl, fun hf => ?_, fun hf => ?_⟩
    · rw [boundary_channel]
      exact formChannel_forms _ ((forms_boundary_iff _ _ i).1 hf)
    · rw [boundary_channel, formChannel_stays _ fun h => hf ((forms_boundary_iff _ _ i).2 h), convert_channel]
      exact convertChannel_held _ _

/-! The drift class -/

theorem driftOf_full {ring : List Int} (h : ring.length = 9) :
    driftOf ring true = classOfSlope (ring.getLastD 0 - ring.headD 0) := by simp [driftOf, h]

theorem driftOf_unjudged {ring : List Int} {good : Bool} (h : ring.length ≠ 9 ∨ good = false) : driftOf ring good = 1 :=
  if_neg fun ⟨h9, hg⟩ => by rcases h with h | h <;> simp_all

/-- R16, R17. S1's third code out of range in a row empties the ring, at a boundary too, at which it forms nothing. -/
theorem conversionInstant_s1_suspect (codes : Vector (BitVec 12) 4) (s : State) (hs : s.tmu.short = false)
    (hg : (s.tmu.channels[1]).health = .good) (ho : (s.tmu.channels[1]).outCount = 2)
    (hc : ¬codeInRange (codes[1]).toNat = true) :
    (conversionInstant codes s).tmu.ring = [] ∧ (conversionInstant codes s).tmu.drift = 1 := by
  have hch : ((s.tmu.convert codes).channels[1]).health = .suspect := by
    have h : (s.tmu.convert codes).channels[1] = convertChannel (codes[1]).toNat s.tmu.channels[1] :=
      convert_channel codes s.tmu 1
    rw [h, convertChannel_good_outOfRange hg hc, ho]
    rfl
  have hh : reportedHealth s.tmu 1 = .good ∧ reportedHealth (s.tmu.convert codes) 1 ≠ .good := by
    simp [reportedHealth, hs, hg, hch]
  have hring : (s.tmu.convert codes).ring = [] := by rw [(convert_ring codes s.tmu).1, if_pos hh]
  have hdrift : (s.tmu.convert codes).drift = 1 := by rw [(convert_ring codes s.tmu).2, if_pos hh]
  rw [conversionInstant_tmu]
  split
  · have hb : ((s.tmu.convert codes).boundary (validPoints s.tbs.tables.curve)).ring = [] := by
      rw [boundary_ring, if_neg, hring]
      rw [formsTemperature_iff, hch]
      simp
    exact ⟨hb, by rw [boundary_drift, hb]; exact driftOf_unjudged (.inl (by simp))⟩
  · exact ⟨hring, hdrift⟩

/-- R13, R17. A change to T4 judges the short curve, empties the ring and sets the drift class to 1. -/
theorem noticeCurve_tmu (s : State) : (noticeCurve s).tmu =
    { s.tmu with short := curveShort s.tbs.tables.curve, ring := [], drift := 1 } := by
  simp [noticeCurve]

/-- Settles O23: by the drift class that a boundary judges from its own ring, and by each emptying of the ring. -/
theorem driftClassFollowsTheSlope : Obligations.DriftClassFollowsTheSlope := by
  refine ⟨?_, ?_, fun s => by rw [noticeCurve_tmu]; exact ⟨rfl, rfl, rfl⟩, ?_⟩
  · intro c0 c1 c2 c3 s hp h8
    refine ⟨_, exec_conversionInstant c0 c1 c2 c3 hp, ?_⟩
    simp only [drivePins_keeps, conversionInstant_tmu, if_pos h8]
    generalize hu : (s.tmu.convert #v[c0, c1, c2, c3]).boundary (validPoints s.tbs.tables.curve) = u
    have hd : u.drift = driftOf u.ring (reportedHealth u 1 == .good) := by rw [← hu]; exact boundary_drift _ _
    have hfull : u.ring.length = 9 → reportedHealth u 1 = .good →
        u.drift = classOfSlope (u.ring.getLastD 0 - u.ring.headD 0) := fun h9 hg => by
      rw [hd, hg]; exact driftOf_full h9
    refine ⟨fun h9 hg h5 => ?_, fun h9 hg h5 h20 => ?_, fun h9 hg h20 => ?_, fun h => ?_, ?_⟩
    · rw [hfull h9 hg, classOfSlope, if_pos h5]
    · rw [hfull h9 hg, classOfSlope, if_neg (by omega), if_pos h20]
    · rw [hfull h9 hg, classOfSlope, if_neg (by omega), if_neg (by omega)]
    · rw [hd]
      exact driftOf_unjudged (h.imp (fun h => by omega) (fun h => by simpa using h))
    · rw [← hu]; rfl
  · intro c0 c1 c2 c3 s hp hs hg ho hc
    refine ⟨_, exec_conversionInstant c0 c1 c2 c3 hp, ?_⟩
    simp only [drivePins_keeps]
    refine conversionInstant_s1_suspect _ s hs hg ho ?_
    rw [codeInRange_iff]
    exact fun h => by
      have h' : 16 ≤ c1.toNat ∧ c1.toNat ≤ 4079 := h
      omega
  · intro s
    simp [statusItems, tmuItems]

/-! Windows, counts and health -/

/-- R1, R2. Codes in range leave GOOD channels GOOD, so an instant between boundaries changes the Temperature Unit
alone. -/
theorem conversionInstant_good (codes : Vector (BitVec 12) 4) (s : State) (h8 : (s.tmu.instants + 1) % 8 ≠ 0)
    (hg : ∀ i : Fin 4, (s.tmu.channels[i]).health = .good) (hr : (s.fcl.records[5]).state ≠ .active)
    (hc : ∀ i : Fin 4, codeInRange (codes[i]).toNat = true) :
    conversionInstant codes s = s.setTmu { s.tmu with
      instants := s.tmu.instants + 1, channels := (s.tmu.convert codes).channels, codes := codes } := by
  have hh : ∀ i : Fin 4, ((s.tmu.convert codes).channels[i]).health = .good := fun i => by
    rw [convert_channel, convertChannel_good_inRange (hg i) (hc i)]; exact hg i
  have hnew : newlyFailed s.tmu (s.tmu.convert codes) = [] := by
    simp only [newlyFailed, indexesWhere, hh]
    simp
  have hkept : ¬(reportedHealth s.tmu 1 = .good ∧ reportedHealth (s.tmu.convert codes) 1 ≠ .good) := by
    simp only [reportedHealth, convert_short, hh 1]
    split <;> simp
  have ht : s.tmu.convert codes = { s.tmu with
      instants := s.tmu.instants + 1, channels := (s.tmu.convert codes).channels, codes := codes } := by
    have hring := convert_ring codes s.tmu
    rw [if_neg hkept, if_neg hkept] at hring
    conv_lhs => rw [convert_eq, hring.1, hring.2]
    conv_rhs => rw [convert_eq]
  unfold conversionInstant
  dsimp only
  rw [convert_instants, if_neg h8, hnew, conditionChanged, if_neg (by simp [reportAll, hr])]
  simp only [reportAll, List.foldl_nil]
  rw [← ht]

/-- Settles O19: by what one conversion makes of each channel. -/
theorem conversionsFillWindowsAndMoveHealth : Obligations.ConversionsFillWindowsAndMoveHealth := by
  refine ⟨?_, ?_, ?_⟩
  · intro c0 c1 c2 c3 s hp h8 hg hr hc
    have hcodes := fun i => (codeInRange_iff _).2 (hc i)
    have he := conversionInstant_good #v[c0, c1, c2, c3] s h8 hg hr hcodes
    refine ⟨_, exec_conversionInstant c0 c1 c2 c3 hp, ?_, fun i => ?_⟩
    · rw [he]; rfl
    · rw [(drivePins_keeps _).2.2.1, conversionInstant_channel, if_neg h8, convertChannel_good_inRange (hg i) (hcodes i)]
  · intro c0 c1 c2 c3 s hp
    refine ⟨_, exec_conversionInstant c0 c1 c2 c3 hp, by simp, by simp, fun i => ?_⟩
    rw [(drivePins_keeps _).2.2.1, conversionInstant_channel]
    split
    · exact ⟨formChannel_eq _ _ _, fun h => absurd ‹_› h⟩
    · exact ⟨rfl, fun _ => rfl⟩
  · intro code c
    have hin := codeInRange_iff code
    refine ⟨fun hg hc => convertChannel_good_inRange hg (hin.2 hc), fun hg hc ho => ?_, fun hg hc ho => ?_,
      fun hg hc hr => ?_, fun hg hc hr => convertChannel_recovers hg (hin.2 hc) hr, fun hg hc => ?_⟩
    · rw [convertChannel_good_outOfRange hg fun h => hc (hin.1 h), if_neg (by omega)]
    · rw [convertChannel_good_outOfRange hg fun h => hc (hin.1 h), if_pos (by omega)]
    · rw [convertChannel_run hg (hin.2 hc) hr]
      obtain ⟨heq, hnone, hbelow, hend⟩ := countSuspect_eq { c with
        window := (c.window ++ [code]).drop (c.window.length - 7), runCount := c.runCount + 1, outCount := 0 }
      exact ⟨⟨hnone, hbelow, hend⟩, heq⟩
    · rw [convertChannel_broken hg fun h => hc (hin.1 h)]
      obtain ⟨heq, hnone, hbelow, hend⟩ := countSuspect_eq
        { c with window := [], runCount := 0, outCount := min 255 (c.outCount + 1) }
      exact ⟨⟨hnone, hbelow, hend⟩, heq⟩

end Sys2Proof.Machine
end

section
/-! SUPPORT. What a report, a run of reports and a changed condition make of the fault records, and of the link (R128,
R155, R156, R175). -/

namespace Sys2Proof.Machine

/-! Records -/

/-- R75. A restart decision counts F15 alone. -/
theorem restartDecision_record_ne {j : FaultKind} (hj : j ≠ 15) (cause : Cause) (d : Nat) (s : State) :
    (restartDecision cause d s).fcl.records[j] = s.fcl.records[j] := by
  unfold restartDecision
  dsimp only
  split
  · simp only [depart_keeps, setMbs_fcl]
    split
    · rw [recordOccurrence_record_ne hj]; rfl
    · rfl
  · rfl

theorem report_record_same {k : FaultKind} (hk : k ≠ 15) (d : Nat) (s : State) :
    (report k d s).fcl.records[k] = (s.fcl.records[k]).occur k d (s.tick % 65536) := by
  unfold report
  dsimp only
  split
  · rw [restartDecision_record_ne hk, recordOccurrence_record_same]
  · exact recordOccurrence_record_same k d s

theorem report_record_ne {k j : FaultKind} (hjk : j ≠ k) (hj : j ≠ 15) (d : Nat) (s : State) :
    (report k d s).fcl.records[j] = s.fcl.records[j] := by
  unfold report
  dsimp only
  split
  · rw [restartDecision_record_ne hj, recordOccurrence_record_ne hjk]
  · exact recordOccurrence_record_ne hjk d s

theorem reportAll_record_ne {k j : FaultKind} (hjk : j ≠ k) (hj : j ≠ 15) (l : List Nat) (s : State) :
    (reportAll k l s).fcl.records[j] = s.fcl.records[j] := by
  unfold reportAll
  induction l generalizing s with
  | nil => rfl
  | cons d l ih => rw [List.foldl_cons, ih, report_record_ne hjk hj]

/-- R155. Occurrences reported at one moment count in their record one after the other. -/
theorem reportAll_record_same {k : FaultKind} (hk : k ≠ 15) (l : List Nat) (s : State) :
    (reportAll k l s).fcl.records[k] =
      l.foldl (fun r d => r.occur k d (s.tick % 65536)) s.fcl.records[k] := by
  unfold reportAll
  induction l generalizing s with
  | nil => rfl
  | cons d l ih => rw [List.foldl_cons, ih, report_record_same hk, (report_keeps k d s).2.1, List.foldl_cons]

/-- R156. A changed condition moves the state of its own record alone. -/
theorem conditionChanged_record_same (k : FaultKind) (s : State) : (conditionChanged k s).fcl.records[k] =
    { s.fcl.records[k] with state := ((conditionChanged k s).fcl.records[k]).state } := by
  unfold conditionChanged rejudgeRelease
  dsimp only
  (repeat' split) <;> simp [rejudge, setRecord]

theorem conditionChanged_record_ne {k j : FaultKind} (h : j ≠ k) (s : State) :
    (conditionChanged k s).fcl.records[j] = s.fcl.records[j] := by
  have hne : (k : Nat) ≠ j := fun hc => h (Fin.ext hc.symm)
  unfold conditionChanged rejudgeRelease
  dsimp only
  (repeat' split) <;> simp [rejudge, setRecord, Vector.getElem_set_ne _ _ hne]

/-- R156. A condition that is present ends nothing. -/
theorem conditionChanged_present {k : FaultKind} {s : State} (h : faultCondition s k = true) :
    conditionChanged k s = s := by simp [conditionChanged, h]

/-! What occurrences, one after the other, count -/

/-- R155. An occurrence counts, and moves the first detail and timestamp and the state of a CLEAR record alone. -/
theorem occur_eq (k : FaultKind) (d now : Nat) (r : FaultRecord) :
    (r.occur k d now).occurrences = min 255 (r.occurrences + 1) ∧ (r.occur k d now).lastStamp = now ∧
    (r.state = .clear → (r.occur k d now).firstDetail = d ∧ (r.occur k d now).firstStamp = now) ∧
    (r.state ≠ .clear → (r.occur k d now).firstDetail = r.firstDetail ∧
      (r.occur k d now).firstStamp = r.firstStamp ∧ (r.occur k d now).state = r.state) := by
  unfold FaultRecord.occur
  dsimp only
  split
  next h => exact ⟨rfl, rfl, fun _ => ⟨rfl, rfl⟩, fun hn => absurd h hn⟩
  next h => exact ⟨rfl, rfl, fun hc => absurd hc h, fun _ => ⟨rfl, rfl, rfl⟩⟩

theorem foldl_occur (k : FaultKind) (now : Nat) (l : List Nat) (r : FaultRecord) :
    (l ≠ [] → (l.foldl (fun r d => r.occur k d now) r).occurrences = min 255 (r.occurrences + l.length) ∧
      (l.foldl (fun r d => r.occur k d now) r).lastStamp = now) ∧
    (r.state ≠ .clear → (l.foldl (fun r d => r.occur k d now) r).firstDetail = r.firstDetail ∧
      (l.foldl (fun r d => r.occur k d now) r).firstStamp = r.firstStamp) := by
  induction l generalizing r with
  | nil => exact ⟨fun h => absurd rfl h, fun _ => ⟨rfl, rfl⟩⟩
  | cons d l ih =>
    obtain ⟨hocc, hlast, -, hstays⟩ := occur_eq k d now r
    obtain ⟨hcount, hfirst⟩ := ih (r.occur k d now)
    refine ⟨fun _ => ?_, fun hr => ?_⟩
    · by_cases hl : l = []
      · subst hl; exact ⟨hocc, hlast⟩
      · have hc := hcount hl
        rw [hocc] at hc
        exact ⟨by rw [List.foldl_cons, hc.1, List.length_cons]; omega, hc.2⟩
    · obtain ⟨hd, hs, hst⟩ := hstays hr
      have hf := hfirst (by rw [hst]; exact hr)
      rw [hd, hs] at hf
      exact hf

/-- R155. A record that the occurrences of `l` have moved has counted them, whatever has become of its state. -/
theorem CountedTimes.of_reported {s t : State} {k : FaultKind} {l : List Nat} (htick : t.tick = s.tick)
    (hocc : (t.fcl.records[k]) = { l.foldl (fun r d => r.occur k d (s.tick % 65536)) s.fcl.records[k] with
      state := (t.fcl.records[k]).state }) : CountedTimes s t k l.length := by
  obtain ⟨hcount, hfirst⟩ := foldl_occur k (s.tick % 65536) l s.fcl.records[k]
  refine ⟨fun h0 => ?_, fun h0 => ?_⟩
  · rw [hocc, List.length_eq_zero_iff.1 h0]
    exact ⟨rfl, rfl, rfl, rfl⟩
  · have hc := hcount fun hl => h0 (by rw [hl]; rfl)
    rw [hocc, htick]
    exact ⟨hc.1, hc.2, hfirst⟩

theorem Counted.of_occur {s t : State} {k : FaultKind} {d : Nat} (htick : t.tick = s.tick)
    (hocc : t.fcl.records[k] = (s.fcl.records[k]).occur k d (s.tick % 65536)) : Counted s t k d := by
  unfold Counted
  rw [hocc, htick]
  exact occur_eq k d _ _

theorem filter_finRange_eq_singleton {n : Nat} {p : Fin n → Bool} {i : Fin n} (hi : p i = true)
    (ho : ∀ j, j ≠ i → p j = false) : (List.finRange n).filter p = [i] := by
  have hp : ∀ j ∈ List.finRange n, p j = (j == i) := fun j _ => by
    by_cases h : j = i
    · subst h; simp [hi]
    · simp [ho j h, h]
  rw [List.filter_congr hp, List.filter_beq, List.count_eq_one_of_mem (List.nodup_finRange n) (List.mem_finRange i)]
  rfl

/-! What a report without a restart changes -/

theorem kickTx_eq (s : State) : kickTx s = { s with
    keq := { s.keq with queue := (kickTx s).keq.queue }, slp := { s.slp with tx := (kickTx s).slp.tx } } := by
  rcases kickTx_cases s with h | ⟨-, f, -, h⟩ | ⟨-, -, -, e, rest, -, h⟩ <;> rw [h] <;> rfl

theorem offer_eq (e : Event) (s : State) : offer e s = { s with
    keq := { s.keq with queue := (offer e s).keq.queue }, slp := { s.slp with tx := (offer e s).slp.tx } } := by
  unfold offer
  split
  · conv_lhs => rw [kickTx_eq]
    rfl
  all_goals rfl

/-- R155, R160. A recorded occurrence changes the records, the event queue and the transmitter. -/
theorem recordOccurrence_eq (k : FaultKind) (d : Nat) (s : State) : recordOccurrence k d s = { s with
    fcl := (recordOccurrence k d s).fcl
    keq := { s.keq with queue := (recordOccurrence k d s).keq.queue }
    slp := { s.slp with tx := (recordOccurrence k d s).slp.tx } } := by
  dsimp only [recordOccurrence]
  split
  · conv_lhs => rw [offer_eq]
    rw [(offer_keeps _ _).2.2.2.2.2.2.2.2.2.1]
    rfl
  · rfl

/-- What the pins show afterwards is a further change that `OnlyReported` allows. -/
theorem OnlyReported.of_eq {s u : State} (h : u = { s with
    fcl := u.fcl, keq := { s.keq with queue := u.keq.queue }, slp := { s.slp with tx := u.slp.tx } }) :
    OnlyReported s (drivePins u) := by
  have hp : drivePins u = { u with pog := { u.pog with applied := (drivePins u).pog.applied } } := rfl
  unfold OnlyReported
  simp only [drivePins_keeps]
  rw [hp]
  generalize (drivePins u).pog.applied = a
  generalize u.fcl = f, u.keq.queue = q, u.slp.tx = x at h
  subst h
  rfl

/-- R160. A report without a restart changes the records, the event queue, the transmitter and the pins. -/
theorem onlyReported_report {k : FaultKind} {s : State} (h : (reactionInForce s.tbs.tables k).restart = false) (d : Nat) :
    OnlyReported s (drivePins (report k d s)) := by
  rw [report_eq_record k d s (.inr h)]
  exact .of_eq (recordOccurrence_eq k d s)

end Sys2Proof.Machine
end

section
/-! The suspect timer (R4, R5, R12). -/

namespace Sys2Proof.Machine

/-! One conversion of a SUSPECT channel -/

/-- R5. A channel that is not GOOD and does not recover counts its suspect timer. -/
theorem convertChannel_timed {code : Nat} {c : TmuChannel} (hg : c.health ≠ .good)
    (hr : ¬(16 ≤ code ∧ code ≤ 4079 ∧ 7 ≤ c.runCount)) :
    ∃ d : TmuChannel, convertChannel code c = countSuspect d ∧ d.health = c.health ∧ d.suspect = c.suspect := by
  by_cases hc : codeInRange code = true
  · obtain ⟨h16, h4079⟩ := (codeInRange_iff code).1 hc
    exact ⟨_, convertChannel_run hg hc (by omega), rfl, rfl⟩
  · exact ⟨_, convertChannel_broken hg hc, rfl, rfl⟩

/-- R4, R5. A SUSPECT channel recovers, counts on or fails. -/
theorem convertChannel_suspect {code n : Nat} {c : TmuChannel} (hs : c.health = .suspect) (hn : c.suspect = some n) :
    let d := convertChannel code c
    let recovers := 16 ≤ code ∧ code ≤ 4079 ∧ 7 ≤ c.runCount
    (recovers → d.health = .good ∧ d.suspect = none) ∧
    (¬recovers → n < 79 → d.health = .suspect ∧ d.suspect = some (n + 1)) ∧
    (¬recovers → 79 ≤ n → d.health = .failed ∧ d.suspect = none) := by
  have hg : c.health ≠ .good := by simp [hs]
  refine ⟨fun ⟨h16, h4079, h7⟩ => ?_, fun hr h => ?_, fun hr h => ?_⟩
  · rw [convertChannel_recovers hg ((codeInRange_iff code).2 ⟨h16, h4079⟩) h7]
    exact ⟨rfl, rfl⟩
  · obtain ⟨d, hd, hh, ht⟩ := convertChannel_timed hg hr
    obtain ⟨-, -, hbelow, -⟩ := countSuspect_eq d
    rw [hd, ← hs, ← hh]
    exact hbelow n (ht.trans hn) h
  · obtain ⟨d, hd, -, ht⟩ := convertChannel_timed hg hr
    obtain ⟨-, -, -, hend⟩ := countSuspect_eq d
    rw [hd]
    exact hend n (ht.trans hn) h

/-! The F5 record over an instant -/

section
variable (codes : Vector (BitVec 12) 4) (s : State)

/-- R2. A boundary changes no health and no timer, and no channel that is not GOOD. -/
theorem conversionInstant_channel_health (i : Fin 4) :
    ((conversionInstant codes s).tmu.channels[i]).health = (convertChannel (codes[i]).toNat s.tmu.channels[i]).health ∧
    ((conversionInstant codes s).tmu.channels[i]).suspect =
      (convertChannel (codes[i]).toNat s.tmu.channels[i]).suspect := by
  rw [conversionInstant_channel]
  split
  · rw [formChannel_eq]; exact ⟨rfl, rfl⟩
  · exact ⟨rfl, rfl⟩

theorem conversionInstant_channel_not_good {i : Fin 4}
    (h : (convertChannel (codes[i]).toNat s.tmu.channels[i]).health ≠ .good) :
    (conversionInstant codes s).tmu.channels[i] = convertChannel (codes[i]).toNat s.tmu.channels[i] := by
  rw [conversionInstant_channel]
  split
  · exact formChannel_stays _ fun hf => h ((formsTemperature_iff _ _).1 hf).1
  · rfl

/-- R4. The channels whose F5 occurrences an instant reports, read off the state it leaves. -/
theorem newlyFailed_eq : newlyFailed s.tmu (s.tmu.convert codes) = ((List.finRange 4).filter fun j : Fin 4 =>
    (s.tmu.channels[j]).health != .failed &&
      ((conversionInstant codes s).tmu.channels[j]).health == .failed).map Fin.val := by
  unfold newlyFailed indexesWhere
  simp only [convert_channel, (conversionInstant_channel_health codes s _).1]

/-- R12. While a channel has just FAILED the F5 condition is present, so it does not end. -/
theorem faultCondition_of_newlyFailed (l : List Nat) (h : newlyFailed s.tmu (s.tmu.convert codes) ≠ []) :
    faultCondition (reportAll 5 l (s.setTmu (s.tmu.convert codes))) 5 = true := by
  obtain ⟨x, hx⟩ := List.exists_mem_of_ne_nil _ h
  obtain ⟨i, hi, -⟩ := List.mem_map.1 hx
  have hf : ((s.tmu.convert codes).channels[i]).health = .failed := by
    simpa using (Bool.and_eq_true_iff.1 (List.mem_filter.1 hi).2).2
  have hc : sensorCondition (reportAll 5 l (s.setTmu (s.tmu.convert codes))).tmu = true := by
    rw [(reportAll_keeps 5 l _).2.2.1, setTmu_tmu, sensorCondition, Bool.or_eq_true]
    exact .inr (List.any_eq_true.2 ⟨(s.tmu.convert codes).channels[i], by simp, by simpa using hf⟩)
  exact hc

/-- R44. A second boundary reports F8, F10 and F15 alone. -/
theorem secondBoundary_record_f5 : (secondBoundary s).fcl.records[(5 : FaultKind)] =
    s.fcl.records[(5 : FaultKind)] := by
  have hr : ∀ (l : Option Nat) (u : State),
      (reportFilter l u).fcl.records[(5 : FaultKind)] = u.fcl.records[(5 : FaultKind)] := fun l u => by
    cases l with
    | none => rfl
    | some d => exact report_record_ne (by decide) (by decide) d u
  have hc : ∀ u : State, (countFilterSet u).fcl.records[(5 : FaultKind)] = u.fcl.records[(5 : FaultKind)] := fun u => by
    unfold countFilterSet
    split
    · rfl
    · dsimp only
      split
      · rw [endFilterWindow, hr]; rfl
      · rfl
  unfold secondBoundary
  dsimp only
  rw [handRelease, (judgeRelease_keeps _).2.2.2.2.2.1]
  simp only [setZnc_fcl]
  rw [conditionChanged_record_ne (by decide), reportAll_record_ne (by decide) (by decide), hc]
  simp [measureSpeed, zoneComputation, computeTimers, computeCutOuts]

theorem conversionInstant_record_f5 : (conversionInstant codes s).fcl.records[(5 : FaultKind)] =
    (conditionChanged 5 (reportAll 5 (newlyFailed s.tmu (s.tmu.convert codes))
      (s.setTmu (s.tmu.convert codes)))).fcl.records[(5 : FaultKind)] := by
  unfold conversionInstant
  dsimp only
  split
  · exact secondBoundary_record_f5 _
  · rfl

/-- R12, R155. An instant counts one F5 occurrence for each channel that becomes FAILED. -/
theorem conversionInstant_counted : CountedEach s (drivePins (conversionInstant codes s)) 5 fun j : Fin 4 =>
    (s.tmu.channels[j]).health != .failed &&
      ((drivePins (conversionInstant codes s)).tmu.channels[j]).health == .failed := by
  have hnew := newlyFailed_eq codes s
  have hrec := conversionInstant_record_f5 codes s
  have hall := reportAll_record_same (k := 5) (by decide) (newlyFailed s.tmu (s.tmu.convert codes))
    (s.setTmu (s.tmu.convert codes))
  refine ⟨?_, fun i hi => ?_⟩
  · rw [(drivePins_keeps _).2.2.1, ← List.length_map (f := Fin.val), ← hnew]
    refine .of_reported (by simp) ?_
    rw [conditionChanged_record_same, hall] at hrec
    simp only [drivePins_keeps]
    rw [hrec]
    rfl
  · rw [(drivePins_keeps _).2.2.1] at hi
    rw [hi] at hnew
    rw [conditionChanged_present (faultCondition_of_newlyFailed codes s _ (by simp [hnew])), hall, hnew] at hrec
    refine .of_occur (by simp) ?_
    simp only [drivePins_keeps]
    exact hrec

/-- R4. Where one channel alone becomes FAILED between boundaries, the report of its occurrence is all that follows. -/
theorem conversionInstant_one_failed {i : Fin 4} (h8 : (s.tmu.instants + 1) % 8 ≠ 0)
    (hnew : newlyFailed s.tmu (s.tmu.convert codes) = [i.val]) :
    conversionInstant codes s = report 5 i.val { s with tmu := (conversionInstant codes s).tmu } := by
  rw [conversionInstant_tmu, if_neg h8, conversionInstant]
  rw [convert_instants, if_neg h8, conditionChanged_present (faultCondition_of_newlyFailed codes s _ (by simp [hnew])),
    hnew]
  rfl

end

/-- R4, R5, R10. What an instant makes of a SUSPECT channel: it forms no temperature unless it recovers. -/
theorem conversionInstant_suspect (codes : Vector (BitVec 12) 4) (s : State) {i : Fin 4} {n : Nat}
    (hs : (s.tmu.channels[i]).health = .suspect) (hn : (s.tmu.channels[i]).suspect = some n) :
    let c := s.tmu.channels[i]
    let d := (conversionInstant codes s).tmu.channels[i]
    let recovers := 16 ≤ (codes[i]).toNat ∧ (codes[i]).toNat ≤ 4079 ∧ 7 ≤ c.runCount
    (recovers → d.health = .good ∧ d.suspect = none) ∧
    (¬recovers → n < 79 → d.health = .suspect ∧ d.suspect = some (n + 1) ∧ d.held = c.held) ∧
    (¬recovers → 79 ≤ n → d.health = .failed ∧ d.suspect = none ∧ d.held = c.held ∧ d.outOfTable = c.outOfTable) := by
  obtain ⟨hgood, hcounts, hfails⟩ := convertChannel_suspect (code := (codes[i]).toNat) hs hn
  obtain ⟨hheld, hout⟩ := convertChannel_held (codes[i]).toNat s.tmu.channels[i]
  refine ⟨fun hr => ?_, fun hr h => ?_, fun hr h => ?_⟩
  · rw [(conversionInstant_channel_health codes s i).1, (conversionInstant_channel_health codes s i).2]
    exact hgood hr
  · obtain ⟨hh, ht⟩ := hcounts hr h
    rw [conversionInstant_channel_not_good codes s (by rw [hh]; decide)]
    exact ⟨hh, ht, hheld⟩
  · obtain ⟨hh, ht⟩ := hfails hr h
    rw [conversionInstant_channel_not_good codes s (by rw [hh]; decide)]
    exact ⟨hh, ht, hheld, hout⟩

/-- R4. Where channel `i` alone becomes FAILED, its occurrence alone is reported. -/
theorem failed_alone {u v : Tmu} {i : Fin 4} (hi : (u.channels[i]).health = .suspect)
    (hf : (v.channels[i]).health = .failed)
    (ho : ∀ j : Fin 4, j ≠ i → (v.channels[j]).health = .failed → (u.channels[j]).health = .failed) :
    ((List.finRange 4).filter fun j : Fin 4 =>
      (u.channels[j]).health != .failed && (v.channels[j]).health == .failed) = [i] := by
  refine filter_finRange_eq_singleton (by rw [hi, hf]; rfl) fun j hj => ?_
  by_cases hv : (v.channels[j]).health = .failed
  · rw [ho j hj hv]; rfl
  · rw [beq_eq_false_iff_ne.2 hv, Bool.and_false]

/-! The expiry as a command -/

theorem suspectEnds_iff (c : TmuChannel) :
    suspectEnds c = true ↔ c.health = .suspect ∧ ∃ n, c.suspect = some n ∧ 79 ≤ n := by
  have h80 : ∀ n, Config.suspectInstants ≤ n + 1 ↔ 79 ≤ n := fun n => by unfold Config.suspectInstants; omega
  simp only [suspectEnds, Bool.and_eq_true, beq_iff_eq, Option.any_eq_true, decide_eq_true_eq, h80]

theorem exec_suspectTimerExpiry (i : Fin 4) {s : State} (hp : s.powered = true) :
    exec (.suspectTimerExpiry i) s = .next (drivePins (suspectExpiry i s)) := whenPowered_on s _ hp

/-- Log entry 37. The codes last converted, handed over one by one, are those held. -/
theorem codes_eq (codes : Vector (BitVec 12) 4) : #v[codes[0], codes[1], codes[2], codes[3]] = codes := by
  ext i hi
  have h : i = 0 ∨ i = 1 ∨ i = 2 ∨ i = 3 := by omega
  rcases h with rfl | rfl | rfl | rfl <;> rfl

/-- Settles O20: by what one conversion makes of the SUSPECT channel and what the instant reports. -/
theorem suspectTimerExpiryFailsTheSensor : Obligations.SuspectTimerExpiryFailsTheSensor := by
  refine ⟨fun c0 c1 c2 c3 i n s hp hs hn => ?_, fun i s hp => ⟨fun n hs hn h79 => ?_, fun h => ?_⟩⟩
  · obtain ⟨hgood, hcounts, hfails⟩ := conversionInstant_suspect #v[c0, c1, c2, c3] s hs hn
    refine ⟨_, exec_conversionInstant c0 c1 c2 c3 hp, by simp, by simp, conversionInstant_counted _ s, ?_⟩
    rw [(drivePins_keeps _).2.2.1]
    refine ⟨hgood, hcounts, hfails, fun h8 => ?_⟩
    have hu : (conversionInstant #v[c0, c1, c2, c3] s).tmu = s.tmu.convert #v[c0, c1, c2, c3] := by
      rw [conversionInstant_tmu, if_neg h8]
    refine ⟨fun j => by rw [conversionInstant_channel, if_neg h8], ?_, fun hr h ho => ?_⟩
    · rw [hu]
      conv_lhs => rw [convert_eq]
      conv_rhs => rw [convert_eq]
    have hf := (hfails hr h).1
    have hone := failed_alone hs hf ho
    have he := conversionInstant_one_failed _ s h8 (by rw [newlyFailed_eq, hone]; rfl)
    refine ⟨(conversionInstant_counted _ s).2 i hone, congrArg drivePins he, fun hq => ?_⟩
    have hrep := onlyReported_report (k := 5)
      (s := { s with tmu := (conversionInstant #v[c0, c1, c2, c3] s).tmu }) hq i.val
    rw [← he] at hrep
    exact hrep
  · obtain ⟨hgood, -, hfails⟩ := conversionInstant_suspect s.tmu.codes s hs hn
    have he : suspectExpiry i s = conversionInstant s.tmu.codes s :=
      if_pos ((suspectEnds_iff _).2 ⟨hs, n, hn, h79⟩)
    refine ⟨_, exec_suspectTimerExpiry i hp, ?_⟩
    rw [exec_conversionInstant _ _ _ _ hp, codes_eq, he]
    refine ⟨rfl, by simp, conversionInstant_counted _ s, ?_⟩
    rw [(drivePins_keeps _).2.2.1]
    exact ⟨fun hr => hfails hr h79, hgood⟩
  · have he : suspectExpiry i s = s := if_neg fun he => by
      obtain ⟨hs, n, hn, h79⟩ := (suspectEnds_iff _).1 he
      rcases h with h | h
      · exact h hs
      · exact absurd (h n hn) (by omega)
    exact ⟨_, exec_suspectTimerExpiry i hp, by rw [he]; rfl⟩

end Sys2Proof.Machine
end

section
/-! SUPPORT. A request that meets a free reply buffer (R172 to R174), and the reply that stands in the buffer while what
follows it sends at most (R175). -/

namespace Sys2Proof.Machine

/-! The answer to a request -/

section
variable {s : State}

theorem request_free (hp : s.powered = true) (hr : s.slp.reply = none) (serve : State → State) :
    request s serve = .next (drivePins (serve (rxTaken s))) := by
  rw [request, whenPowered_on _ _ hp, takeRequest_free _ _ hr]

variable (s)

/-- R174, R175. A taken request that is answered changes the link alone. -/
theorem reply_rxTaken (kind tag : Byte) (status : Status) (items : List Byte) :
    reply kind tag status items (rxTaken s) =
      { s with slp := s.slp.answered (replyFrame (replyKind kind) tag status.code items) } := by
  rw [reply_eq, reply_slp]
  unfold rxTaken Slp.answered replyFrame
  cases h : s.slp.tx <;> simp [h, State.setSlp]

theorem onlyAnswered_reply (kind tag : Byte) (status : Status) (items : List Byte) :
    OnlyAnswered s (drivePins (reply kind tag status items (rxTaken s)))
      (replyFrame (replyKind kind) tag status.code items) := by
  rw [reply_rxTaken]; rfl

theorem onlyAnswered_refuse (kind tag : Byte) (status : Status) :
    OnlyAnswered s (drivePins (refuse kind tag status (rxTaken s))) (replyFrame (replyKind kind) tag status.code []) :=
  onlyAnswered_reply s kind tag status []

end

/-! The reply in the buffer, which no shared operation but `reply` and the end of a frame moves -/

section
variable (s : State)

@[simp] theorem kickTx_reply : (kickTx s).slp.reply = s.slp.reply := by rw [kickTx_eq]

@[simp] theorem offer_reply (e : Event) : (offer e s).slp.reply = s.slp.reply := by rw [offer_eq]

@[simp] theorem offerKeyUp_reply (c : Fin 20) (cause : Cause) : (offerKeyUp c cause s).slp.reply = s.slp.reply := by
  unfold offerKeyUp
  split <;> simp [updKey]

@[simp] theorem releaseTransition_reply (c : Fin 20) (cause : Cause) :
    (releaseTransition c cause s).slp.reply = s.slp.reply := by
  unfold releaseTransition
  split <;> simp

@[simp] theorem releaseAll_reply (cs : List (Fin 20)) (cause : Cause) :
    (releaseAll cs cause s).slp.reply = s.slp.reply := by
  unfold releaseAll
  induction cs generalizing s with
  | nil => rfl
  | cons c cs ih => rw [List.foldl_cons, ih, releaseTransition_reply]

@[simp] theorem rescan_reply (mode : ScanMode) : (rescan mode s).slp.reply = s.slp.reply := by simp [rescan]

@[simp] theorem railMoved_reply : (railMoved s).slp.reply = s.slp.reply := by simp [railMoved]

@[simp] theorem switchOn_reply : (switchOn s).slp.reply = s.slp.reply := by simp [switchOn]

@[simp] theorem judgeRelease_reply : (judgeRelease s).slp.reply = s.slp.reply := by
  unfold judgeRelease
  split <;> simp

@[simp] theorem rejudgeRelease_reply : (rejudgeRelease s).slp.reply = s.slp.reply := by
  unfold rejudgeRelease
  split <;> simp

@[simp] theorem conditionChanged_reply (k : FaultKind) : (conditionChanged k s).slp.reply = s.slp.reply := by
  unfold conditionChanged
  dsimp only
  split <;> simp [setRecord]

@[simp] theorem depart_reply (cause : Cause) (d : Nat) (stage : Stage) :
    (depart cause d stage s).slp.reply = s.slp.reply := by
  unfold depart
  dsimp only
  split <;> simp [switchOff]

@[simp] theorem recordOccurrence_reply (k : FaultKind) (d : Nat) :
    (recordOccurrence k d s).slp.reply = s.slp.reply := by rw [recordOccurrence_eq]

@[simp] theorem restartDecision_reply (cause : Cause) (d : Nat) :
    (restartDecision cause d s).slp.reply = s.slp.reply := by
  unfold restartDecision
  dsimp only
  (repeat' split) <;> simp

@[simp] theorem report_reply (k : FaultKind) (d : Nat) : (report k d s).slp.reply = s.slp.reply := by
  unfold report
  dsimp only
  split <;> simp

@[simp] theorem reportAll_reply (k : FaultKind) (l : List Nat) : (reportAll k l s).slp.reply = s.slp.reply := by
  unfold reportAll
  induction l generalizing s with
  | nil => rfl
  | cons d l ih => rw [List.foldl_cons, ih, report_reply]

end

/-! What a change notice leaves alone -/

section
variable (s : State)

@[simp] theorem keymapChanged_keeps (old : Tables) (c : Fin 20) :
    (keymapChanged old c s).tick = s.tick ∧ (keymapChanged old c s).tmu = s.tmu ∧
    (keymapChanged old c s).rhs = s.rhs ∧ (keymapChanged old c s).slp.reply = s.slp.reply := by
  unfold keymapChanged
  dsimp only
  (repeat' split) <;> simp [unmapKey, mapKey, remapKey]

@[simp] theorem touchTablesChanged_keeps :
    (touchTablesChanged s).tick = s.tick ∧ (touchTablesChanged s).tmu = s.tmu ∧
    (touchTablesChanged s).rhs = s.rhs ∧ (touchTablesChanged s).slp.reply = s.slp.reply := by
  simp [touchTablesChanged]

@[simp] theorem noticeKeymap_keeps (old : Tables) (l : List (Fin 20)) :
    (noticeKeymap old l s).tick = s.tick ∧ (noticeKeymap old l s).tmu = s.tmu ∧
    (noticeKeymap old l s).rhs = s.rhs ∧ (noticeKeymap old l s).slp.reply = s.slp.reply := by
  unfold noticeKeymap
  simp only [touchTablesChanged_keeps]
  induction l generalizing s with
  | nil => exact ⟨rfl, rfl, rfl, rfl⟩
  | cons c l ih => simpa using ih (keymapChanged old c s)

/-- A change notice takes no time and no reply. -/
@[simp] theorem notice_keeps (t : Nat) (old : Tables) (named : List Nat) :
    (notice t old named s).tick = s.tick ∧ (notice t old named s).slp.reply = s.slp.reply := by
  unfold notice
  (repeat' split) <;>
    simp [noticeChords, noticeHeat, zonesChanged, noticeGate, noticeCurve, noticePolicy, noticeReactions]

/-- R181. A change of T4 alone reaches the Temperature Unit. -/
theorem notice_tmu {t : Nat} (ht : t ≠ 4) (old : Tables) (named : List Nat) : (notice t old named s).tmu = s.tmu := by
  unfold notice
  (repeat' split) <;>
    simp [noticeChords, noticeHeat, zonesChanged, noticeGate, noticePolicy, noticeReactions] at ht ⊢

/-- R181. A change of T2 or T4 alone, by the restart it may decide, reaches the history. -/
theorem notice_rhs {t : Nat} (h2 : t ≠ 2) (h4 : t ≠ 4) (old : Tables) (named : List Nat) :
    (notice t old named s).rhs = s.rhs := by
  unfold notice
  (repeat' split) <;> simp [noticeChords, noticeGate, noticePolicy, noticeReactions] at h2 h4 ⊢

end

end Sys2Proof.Machine
end

section
/-! A TABLE WRITE (R173, R181, R183, R184, R188). -/

namespace Sys2Proof.Machine

/-! Serving the request -/

section
variable (tag first count : Byte) (entries : List Byte) (s : State)

theorem serveTableWrite_eq (table : Byte) (hl : entries.length ≤ 60)
    (hw : 6 < table.toNat ∨ entries.length = count.toNat * entrySize table.toNat) :
    serveTableWrite tag (table :: first :: count :: entries) s =
      writeTable tag table.toNat first.toNat count.toNat entries s := by
  have hf : framable (table :: first :: count :: entries) = true := by
    simp [framable, Config.maxPayload]; omega
  have hk : writeLengthOk table.toNat count.toNat entries = true := by simpa [writeLengthOk] using hw
  simp only [serveTableWrite, hf, hk, Bool.and_self, if_true]

theorem writeTable_badTable {table : Nat} (first count : Nat) (h : 6 < table) :
    writeTable tag table first count entries s = refuse 0x11 tag .badTable s := dif_neg (by omega)

/-- R173. The lock is judged before the entries. -/
theorem writeTable_eq (i : Fin 7) (first count : Nat) : writeTable tag i.val first count entries s =
    if s.tbs.locks[i] then refuse 0x11 tag .locked s else writeUnlocked tag i first count entries s := dif_pos i.isLt

theorem writeUnlocked_refused {i : Fin 7} {first count : Nat}
    (h : writtenTables s.tbs.tables i.val first count entries = none) :
    writeUnlocked tag i first count entries s = refuse 0x11 tag .badArg s := by simp only [writeUnlocked, h]

@[simp] theorem writeTable_tick (table first count : Nat) :
    (writeTable tag table first count entries s).tick = s.tick := by
  unfold writeTable writeUnlocked refuse
  (repeat' split) <;> simp [changeTables]

/-- R184, R188. An accepted write replaces the tables, sets the change flag and hands the notice. -/
theorem writeUnlocked_accepted {i : Fin 7} {first count : Nat} {T : Tables}
    (h : writtenTables s.tbs.tables i.val first count entries = some T) :
    writeUnlocked tag i first count entries (rxTaken s) =
      notice i.val s.tbs.tables (List.range' first count) { s with
        tbs := { s.tbs with tables := T, changed := s.tbs.changed.set i true }
        slp := s.slp.answered (replyFrame 0x91 tag 0 []) } := by
  have h' : writtenTables (rxTaken s).tbs.tables i.val first count entries = some T := h
  simp only [writeUnlocked, h', reply_rxTaken]
  rfl

end

/-! What the notices of T3 and T5 change -/

theorem namedBelow_range'_contains {n : Nat} (first count : Nat) (o : Fin n) :
    (namedBelow n (List.range' first count)).contains o = true ↔ first ≤ o.val ∧ o.val < first + count := by
  have hm : ∀ x : Nat, x ∈ List.range' first count ↔ first ≤ x ∧ x < first + count := fun x => List.mem_range'_1
  rw [List.contains_iff_mem, namedBelow, List.mem_filterMap]
  constructor
  · rintro ⟨x, hx, hxo⟩
    split at hxo
    · cases hxo; exact (hm _).1 hx
    · cases hxo
  · exact fun h => ⟨o.val, (hm _).2 h, by simp⟩

/-- R149. -/
theorem noticeGate_requested (first count : Nat) (s : State) (o : Fin 6) :
    (noticeGate (namedBelow 6 (List.range' first count)) s).pog.requested[o] =
      if first ≤ o.val ∧ o.val < first + count ∧ (s.tbs.tables.gate[o]).valid = false then 0
      else s.pog.requested[o] := by
  have hc := namedBelow_range'_contains first count o
  simp only [noticeGate, setPog_pog, Fin.getElem_fin, Vector.getElem_ofFn, Bool.and_eq_true, hc, Bool.not_eq_true',
    and_assoc]

/-- R181. The notice of a write that names an entry is handed to the consumers of its table. -/
theorem notice_of_pos {count : Nat} (hc : 0 < count) (first : Nat) (old : Tables) (s : State) :
    notice 3 old (List.range' first count) s = noticeGate (namedBelow 6 (List.range' first count)) s ∧
    notice 4 old (List.range' first count) s = noticeCurve s ∧
    notice 5 old (List.range' first count) s = noticePolicy s := by
  have hne : ¬(List.range' first count).isEmpty = true := by simp; omega
  exact ⟨if_neg hne, if_neg hne, if_neg hne⟩

/-- R149. A T3 write changes the panel outputs alone. -/
theorem notice_gate_write {first count : Nat} (hc : 0 < count) (old : Tables) (u : State) :
    let t := drivePins (notice 3 old (List.range' first count) u)
    t = { u with tbs := t.tbs, pog := t.pog } ∧ ∀ o : Fin 6, t.pog.requested[o] =
      if first ≤ o.val ∧ o.val < first + count ∧ (u.tbs.tables.gate[o]).valid = false then 0
      else u.pog.requested[o] := by
  obtain ⟨hgate, -, -⟩ := notice_of_pos hc first old u
  rw [hgate]
  exact ⟨rfl, fun o => by rw [drivePins_requested]; exact noticeGate_requested first count u o⟩

/-- R63. A T5 write bounds the consecutive count. -/
theorem notice_policy_write {first count : Nat} (hc : 0 < count) (old : Tables) (u : State) :
    let t := drivePins (notice 5 old (List.range' first count) u)
    t = { u with tbs := t.tbs, mbs := { u.mbs with count := t.mbs.count }, pog := { u.pog with applied := t.pog.applied } } ∧
    t.mbs.count =
      if u.mbs.state = .lockout then u.tbs.tables.policy.nReset + u.tbs.tables.policy.nCycle + 1
      else min u.mbs.count (u.tbs.tables.policy.nReset + u.tbs.tables.policy.nCycle) := by
  obtain ⟨-, -, hpolicy⟩ := notice_of_pos hc first old u
  rw [hpolicy]
  exact ⟨rfl, rfl⟩

/-- R13, R16. A T4 write judges the short curve afresh and empties the ring. -/
theorem notice_curve_write {first count : Nat} (hc : 0 < count) (old : Tables) (u : State) :
    let t := drivePins (notice 4 old (List.range' first count) u)
    t.tmu.ring = [] ∧ t.tmu.drift = 1 ∧ t.tmu.short = curveShort u.tbs.tables.curve := by
  obtain ⟨-, hcurve, -⟩ := notice_of_pos hc first old u
  dsimp only
  rw [hcurve, (drivePins_keeps _).2.2.1, noticeCurve_tmu]
  exact ⟨rfl, rfl, rfl⟩

/-- Settles O57: by the judgement of the entries, the order of the checks, and what each notice leaves alone. -/
theorem tableWriteIsAppliedWholeOrRefused : Obligations.TableWriteIsAppliedWholeOrRefused := by
  refine ⟨writtenTables_eq_some_iff, fun tag table first count entries s hp hr ht hl => ?_,
    fun tag i first count entries s hp hr hw hl => ?_⟩
  · refine ⟨_, request_free hp hr _, ?_⟩
    rw [serveTableWrite_eq _ _ _ _ _ _ hl (.inl ht), writeTable_badTable _ _ _ _ _ ht]
    exact onlyAnswered_refuse s _ _ _
  · have hi : (byteOf i.val).toNat = i.val := by rw [byteOf_toNat]; omega
    have hserve := serveTableWrite_eq tag first count entries (rxTaken s) (byteOf i.val) hl (.inr (by rw [hi]; exact hw))
    rw [hi] at hserve
    refine ⟨_, request_free hp hr _, ?_⟩
    rw [hserve]
    have hlock : (rxTaken s).tbs = s.tbs := rfl
    refine ⟨by simp [rxTaken], fun hlk => ?_, fun hlk hn => ?_, fun T hlk hT => ?_⟩
    · rw [writeTable_eq, hlock, if_pos hlk]
      exact onlyAnswered_refuse s _ _ _
    · rw [writeTable_eq, hlock, if_neg (by rw [hlk]; decide), writeUnlocked_refused tag entries (rxTaken s) hn]
      exact onlyAnswered_refuse s _ _ _
    · rw [writeTable_eq, hlock, if_neg (by rw [hlk]; decide), writeUnlocked_accepted tag entries s hT]
      obtain ⟨-, -, hc, -⟩ := (writtenTables_eq_some_iff _ _ _ _ _ _).1 hT
      have hg := fun u => notice_gate_write (first := first.toNat) hc s.tbs.tables u
      have hpol := fun u => notice_policy_write (first := first.toNat) hc s.tbs.tables u
      have hcur := fun u => notice_curve_write (first := first.toNat) hc s.tbs.tables u
      refine ⟨by simp [Slp.answered], by simp, by simp, fun h2 h4 => ?_, fun h4 => ?_, fun h3 => ?_, fun h5 => ?_,
        fun h4 => ?_, fun h5 => ?_⟩
      · rw [(drivePins_keeps _).2.2.2.2.2.2.1, notice_rhs _ (fun h => h2 (Fin.ext h)) fun h => h4 (Fin.ext h)]
      · rw [(drivePins_keeps _).2.2.1, notice_tmu _ fun h => h4 (Fin.ext h)]
      · subst h3
        exact hg _
      · subst h5
        exact (hpol _).1
      · subst h4
        exact hcur _
      · subst h5
        exact (hpol _).2

end Sys2Proof.Machine
end

section
/-! SUPPORT. The fields of an item list (R195): what stands at an offset, most significant byte first. -/

namespace Sys2Proof.Machine

/-! Where a field stands -/

theorem itemField_append_left {l : List Byte} {offset width : Nat} (h : offset + width ≤ l.length) (rest : List Byte) :
    itemField (l ++ rest) offset width = itemField l offset width := by
  unfold itemField
  rw [List.drop_append_of_le_length (by omega), List.take_append_of_le_length (by rw [List.length_drop]; omega)]

theorem itemField_append_right (l rest : List Byte) (offset width : Nat) :
    itemField (l ++ rest) (l.length + offset) width = itemField rest offset width := by
  unfold itemField
  rw [List.drop_append, List.drop_eq_nil_of_le (by omega), Nat.add_sub_cancel_left]
  rfl

theorem length_flatMap_finRange {n size : Nat} {f : Fin n → List Byte} (hf : ∀ i, (f i).length = size) :
    ((List.finRange n).flatMap f).length = n * size := by
  simp [List.length_flatMap, hf]

/-- The blocks of a list of equal blocks stand one after the other. -/
theorem itemField_flatMap {n size : Nat} {f : Fin n → List Byte} (hf : ∀ i, (f i).length = size) (rest : List Byte)
    (i : Fin n) {offset width : Nat} (h : offset + width ≤ size) :
    itemField ((List.finRange n).flatMap f ++ rest) (size * i.val + offset) width = itemField (f i) offset width := by
  induction n generalizing rest with
  | zero => exact i.elim0
  | succ n ih =>
    rw [List.finRange_succ, List.flatMap_cons, List.append_assoc, List.flatMap_map]
    refine Fin.cases ?_ (fun j => ?_) i
    · rw [Fin.val_zero, Nat.mul_zero, Nat.zero_add]
      exact itemField_append_left (by rw [hf]; exact h) _
    · rw [Fin.val_succ, Nat.mul_succ, show size * j.val + size + offset = (f 0).length + (size * j.val + offset) by
        rw [hf]; omega, itemField_append_right]
      exact ih (f := fun j => f j.succ) (fun j => hf j.succ) rest j

/-- The fields after equal blocks. -/
theorem itemField_after_flatMap {n size : Nat} {f : Fin n → List Byte} (hf : ∀ i, (f i).length = size)
    (rest : List Byte) (offset width : Nat) :
    itemField ((List.finRange n).flatMap f ++ rest) (n * size + offset) width = itemField rest offset width := by
  rw [← length_flatMap_finRange hf, itemField_append_right]

theorem itemField_cons_succ (b : Byte) (l : List Byte) (offset width : Nat) :
    itemField (b :: l) (offset + 1) width = itemField l offset width := rfl

theorem itemField_be16_skip (n : Nat) (rest : List Byte) (offset width : Nat) :
    itemField (be16 n ++ rest) (offset + 2) width = itemField rest offset width := rfl

theorem itemField_be24_skip (n : Nat) (rest : List Byte) (offset width : Nat) :
    itemField (be24 n ++ rest) (offset + 3) width = itemField rest offset width := rfl

theorem itemField_beInt16_skip (x : Int) (rest : List Byte) (offset width : Nat) :
    itemField (beInt16 x ++ rest) (offset + 2) width = itemField rest offset width := rfl

theorem itemField_beInt24_skip (x : Int) (rest : List Byte) (offset width : Nat) :
    itemField (beInt24 x ++ rest) (offset + 3) width = itemField rest offset width := rfl

theorem itemField_channelMask_skip (p : Fin 20 → Bool) (rest : List Byte) (offset width : Nat) :
    itemField (channelMask p ++ rest) (offset + 3) width = itemField rest offset width := rfl

/-! What a field holds -/

theorem itemField_byte (b : Byte) (rest : List Byte) : itemField (b :: rest) 0 1 = b.toNat := by simp [itemField]

theorem itemField_be16 (n : Nat) (rest : List Byte) : itemField (be16 n ++ rest) 0 2 = n % 65536 := by
  simp only [itemField, be16, List.cons_append, List.nil_append, List.drop_zero, List.take_succ_cons, List.take_zero,
    List.foldl_cons, List.foldl_nil, byteOf_toNat]
  omega

theorem itemField_be24 (n : Nat) (rest : List Byte) : itemField (be24 n ++ rest) 0 3 = n % 16777216 := by
  simp only [itemField, be24, List.cons_append, List.nil_append, List.drop_zero, List.take_succ_cons, List.take_zero,
    List.foldl_cons, List.foldl_nil, byteOf_toNat]
  omega

theorem itemField_beInt16 (x : Int) (rest : List Byte) : itemField (beInt16 x ++ rest) 0 2 = signedField 16 x := by
  unfold beInt16 signedField
  rw [itemField_be16]
  omega

theorem itemField_beInt24 (x : Int) (rest : List Byte) : itemField (beInt24 x ++ rest) 0 3 = signedField 24 x := by
  unfold beInt24 signedField
  rw [itemField_be24]
  omega

/-- R195. Bit `c` of a channel mask is that of key channel `c`. -/
theorem testBit_channelMask (p : Fin 20 → Bool) (rest : List Byte) (c : Fin 20) :
    (itemField (channelMask p ++ rest) 0 3).testBit c.val = p c := by
  unfold channelMask
  rw [itemField_be24, show (16777216 : Nat) = 2 ^ 24 from rfl, Nat.testBit_mod_two_pow, testBit_packFlags]
  simp [show c.val < 24 by omega]

/-- R195. Bit `i` of a table mask is that of table `i`. -/
theorem testBit_tableMask (v : Vector Bool 7) (i : Fin 7) : (tableMask v).toNat.testBit i.val = v[i] := by
  unfold tableMask
  rw [byteOf_toNat, show (256 : Nat) = 2 ^ 8 from rfl, Nat.testBit_mod_two_pow, testBit_packFlags]
  simp [show i.val < 8 by omega, List.getD_eq_getElem?_getD]

/-- Bit `i` of a byte of flags is the `i`-th flag. -/
theorem testBit_packFlags_byte (l : List Bool) {i : Nat} (hi : i < 8) :
    (packFlags l % 256).testBit i = l.getD i false := by
  rw [show (256 : Nat) = 2 ^ 8 from rfl, Nat.testBit_mod_two_pow, testBit_packFlags]
  simp [hi]

@[simp] theorem flag_mod (b : Bool) : flag b % 256 = b.toNat := by cases b <;> rfl

/-! A code fits its byte (R195) -/

@[simp] theorem MbsState.code_mod (x : MbsState) : x.code % 256 = x.code := by cases x <;> rfl

@[simp] theorem Cause.code_mod (x : Cause) : x.code % 256 = x.code := by cases x <;> rfl

@[simp] theorem Stage.code_mod (x : Stage) : x.code % 256 = x.code := by cases x <;> rfl

@[simp] theorem LoadResult.code_mod (x : LoadResult) : x.code % 256 = x.code := by cases x <;> rfl

@[simp] theorem Health.code_mod (x : Health) : x.code % 256 = x.code := by cases x <;> rfl

@[simp] theorem HeaterState.code_mod (x : HeaterState) : x.code % 256 = x.code := by cases x <;> rfl

@[simp] theorem FanState.code_mod (x : FanState) : x.code % 256 = x.code := by cases x <;> rfl

@[simp] theorem KeyState.code_mod (x : KeyState) : x.code % 256 = x.code := by cases x <;> rfl

@[simp] theorem ScanMode.code_mod (x : ScanMode) : x.code % 256 = x.code := by cases x <;> rfl

@[simp] theorem RecordState.code_mod (x : RecordState) : x.code % 256 = x.code := by cases x <;> rfl

@[simp] theorem FaultClass.code_mod (x : FaultClass) : x.code % 256 = x.code := by cases x <;> rfl

@[simp] theorem Store.code_mod (x : Store) : x.code % 256 = x.code := by cases x <;> rfl

@[simp] theorem SaveResult.code_mod (x : SaveResult) : x.code % 256 = x.code := by cases x <;> rfl

end Sys2Proof.Machine
end

section
/-! SUPPORT. What stands at each offset of the items of STATUS READ, FAULT READ, TOUCH READ and HISTORY READ (R198,
R199). -/

namespace Sys2Proof.Machine

/-! STATUS READ -/

section
variable (s : State)

theorem mbsItems_fields :
    itemField (mbsItems s) 0 1 = s.mbs.state.code ∧ itemField (mbsItems s) 1 1 = s.mbs.count % 256 ∧
    itemField (mbsItems s) 2 1 = (s.mbs.shutdown.getD 0 + 99) / 100 % 256 ∧
    itemField (mbsItems s) 3 2 = min 65535 ((decidingTimer s.mbs + 9) / 10) := by
  have hmin : ∀ n, min 65535 n % 65536 = min 65535 n := fun n => by omega
  have hb := itemField_be16 (min 65535 (tenths (decidingTimer s.mbs))) []
  rw [List.append_nil, hmin, tenths] at hb
  simp [mbsItems, itemField_cons_succ, itemField_byte, shutdownSeconds, hb, tenths]

theorem sensorItems_fields (i : Fin 4) :
    itemField (sensorItems s i) 0 2 = signedField 16 ((s.tmu.channels[i]).held.getD (-32768)) ∧
    itemField (sensorItems s i) 2 1 = (if s.tmu.short then 2 else (s.tmu.channels[i]).health.code) ∧
    itemField (sensorItems s i) 3 1 = (s.tmu.channels[i]).outOfTable.toNat := by
  refine ⟨itemField_beInt16 _ _, ?_, ?_⟩
  · simp only [sensorItems, itemField_beInt16_skip (offset := 0), itemField_byte, byteOf_toNat, Health.code_mod,
      reportedHealth]
    split <;> rfl
  · simp [sensorItems, itemField_beInt16_skip (offset := 1), itemField_cons_succ, itemField_byte]

theorem tmuItems_fields :
    (∀ i : Fin 4,
      itemField (tmuItems s) (4 * i.val) 2 = signedField 16 ((s.tmu.channels[i]).held.getD (-32768)) ∧
      itemField (tmuItems s) (4 * i.val + 2) 1 = (if s.tmu.short then 2 else (s.tmu.channels[i]).health.code) ∧
      itemField (tmuItems s) (4 * i.val + 3) 1 = (s.tmu.channels[i]).outOfTable.toNat) ∧
    itemField (tmuItems s) 16 1 = s.tmu.drift.val := by
  have hlen : ∀ i, (sensorItems s i).length = 4 := fun i => rfl
  have hf := fun (i : Fin 4) (offset width : Nat) =>
    itemField_flatMap hlen [byteOf s.tmu.drift.val] i (offset := offset) (width := width)
  refine ⟨fun i => ?_, ?_⟩
  · obtain ⟨hheld, hhealth, hout⟩ := sensorItems_fields s i
    exact ⟨(hf i 0 2 (by decide)).trans hheld, (hf i 2 1 (by decide)).trans hhealth,
      (hf i 3 1 (by decide)).trans hout⟩
  · rw [tmuItems, itemField_after_flatMap hlen _ 0, itemField_byte, byteOf_toNat]
    omega

theorem heaterItems_fields (v : HeaterChannel) :
    itemField (heaterItems v) 0 2 = v.applied % 65536 ∧ itemField (heaterItems v) 2 2 = v.demand % 65536 ∧
    itemField (heaterItems v) 4 1 = v.state.code ∧ itemField (heaterItems v) 5 1 = v.openLoad.toNat := by
  simp [heaterItems, itemField_be16_skip, itemField_be16, itemField_cons_succ, itemField_byte]

theorem hfdItems_fields :
    (∀ i : Fin 3, let v := s.hfd.channels[i]
      itemField (hfdItems s) (6 * i.val) 2 = v.applied % 65536 ∧
      itemField (hfdItems s) (6 * i.val + 2) 2 = v.demand % 65536 ∧
      itemField (hfdItems s) (6 * i.val + 4) 1 = v.state.code ∧
      itemField (hfdItems s) (6 * i.val + 5) 1 = v.openLoad.toNat) ∧
    itemField (hfdItems s) 18 2 = s.hfd.fanDuty % 65536 ∧ itemField (hfdItems s) 20 2 = s.hfd.speed % 65536 ∧
    itemField (hfdItems s) 22 1 = s.hfd.fanState.code := by
  have hlen : ∀ i : Fin 3, (heaterItems s.hfd.channels[i]).length = 6 := fun i => rfl
  have hassoc : hfdItems s = ((List.finRange 3).flatMap fun i => heaterItems s.hfd.channels[i]) ++
      (be16 s.hfd.fanDuty ++ (be16 s.hfd.speed ++ [byteOf s.hfd.fanState.code])) := by simp [hfdItems]
  have hf := fun (i : Fin 3) (offset width : Nat) =>
    itemField_flatMap hlen (be16 s.hfd.fanDuty ++ (be16 s.hfd.speed ++ [byteOf s.hfd.fanState.code])) i
      (offset := offset) (width := width)
  rw [hassoc]
  refine ⟨fun i => ?_, ?_, ?_, ?_⟩
  · obtain ⟨happ, hdem, hst, hol⟩ := heaterItems_fields s.hfd.channels[i]
    exact ⟨(hf i 0 2 (by decide)).trans happ, (hf i 2 2 (by decide)).trans hdem, (hf i 4 1 (by decide)).trans hst,
      (hf i 5 1 (by decide)).trans hol⟩
  · rw [itemField_after_flatMap hlen _ 0, itemField_be16]
  · rw [itemField_after_flatMap hlen _ 2, itemField_be16_skip (offset := 0), itemField_be16]
  · rw [itemField_after_flatMap hlen _ 4, itemField_be16_skip (offset := 2), itemField_be16_skip (offset := 0),
      itemField_byte, byteOf_toNat, FanState.code_mod]

theorem keyStatusItems_fields :
    itemField (keyStatusItems s) 0 1 = s.tsu.mode.code ∧ itemField (keyStatusItems s) 1 1 = s.tsu.guarded.toNat ∧
    itemField (keyStatusItems s) 2 1 = s.keq.queue.length % 256 ∧
    ∀ c : Fin 20,
      (itemField (keyStatusItems s) 3 3).testBit c.val = (s.keq.keys[c]).reported.isSome ∧
      (itemField (keyStatusItems s) 6 3).testBit c.val = (s.keq.keys[c]).unreported ∧
      (itemField (keyStatusItems s) 9 3).testBit c.val = (s.keq.keys[c]).suppressed := by
  have hsup := fun c => testBit_channelMask (fun c => (s.keq.keys[c]).suppressed) [] c
  rw [List.append_nil] at hsup
  refine ⟨?_, ?_, ?_, fun c => ?_⟩
  · simp [keyStatusItems, itemField_byte]
  · simp [keyStatusItems, itemField_cons_succ, itemField_byte]
  · simp [keyStatusItems, itemField_cons_succ, itemField_byte]
  · simp only [keyStatusItems, List.append_assoc, List.cons_append, List.nil_append, itemField_cons_succ,
      itemField_channelMask_skip, testBit_channelMask, hsup, and_self]

theorem panelItems_fields (i : Fin 6) :
    itemField (panelItems s) (4 * i.val) 2 =
      (if (s.tbs.tables.gate[i]).valid then s.pog.requested[i] % 65536 else 0) ∧
    (PinsOk s → itemField (panelItems s) (4 * i.val + 2) 2 = s.pog.applied[i] % 65536) := by
  have hlen : ∀ i : Fin 6, (be16 (reportedRequest s i) ++ be16 (appliedLevel s i)).length = 4 := fun i => rfl
  have hf := fun (offset width : Nat) => itemField_flatMap hlen [] i (offset := offset) (width := width)
  rw [List.append_nil] at hf
  have happ := itemField_be16 (appliedLevel s i) []
  rw [List.append_nil] at happ
  refine ⟨(hf 0 2 (by decide)).trans ?_, fun hpins => (hf 2 2 (by decide)).trans ?_⟩
  · rw [itemField_be16, reportedRequest]
    split <;> rfl
  · rw [itemField_be16_skip (offset := 0), happ, hpins i]

theorem storeItems_fields :
    itemField (storeItems s) 0 1 = s.tbs.store.code ∧ itemField (storeItems s) 1 1 = s.tbs.result.code ∧
    ∀ i : Fin 7, (itemField (storeItems s) 2 1).testBit i.val = s.tbs.locks[i] ∧
      (itemField (storeItems s) 3 1).testBit i.val = s.tbs.changed[i] := by
  simp only [storeItems, itemField_cons_succ, itemField_byte, byteOf_toNat, Store.code_mod, SaveResult.code_mod,
    testBit_tableMask, and_self, implies_true]

theorem statusItems_length :
    (List.range 6).map (fun n => (statusItems s n).length) = [5, 17, 23, 12, 24, 4] := by
  rfl

end

end Sys2Proof.Machine
end

section
/-! The requests that read (R95, R119, R163, R177, R178, R182, R195, R198, R199). -/

namespace Sys2Proof.Machine

/-! FAULT READ and TOUCH READ -/

theorem recordItems_fields (s : State) (k : Fin 16) :
    let r := s.fcl.records[k]
    let e := reactionInForce s.tbs.tables k
    let at? := itemField (recordItems s k)
    (recordItems s k).length = 11 ∧ at? 0 1 = r.state.code ∧ at? 1 1 = r.cls.code ∧ at? 2 1 = r.occurrences % 256 ∧
      at? 3 1 = r.firstDetail % 256 ∧ at? 4 2 = r.firstStamp % 65536 ∧ at? 6 2 = r.lastStamp % 65536 ∧
      at? 8 1 = (faultCondition s k).toNat ∧ at? 9 1 = (s.tbs.tables.reactions[k]).valid.toNat ∧
      (at? 10 1).testBit 0 = e.report ∧ (at? 10 1).testBit 1 = e.indicate ∧ (at? 10 1).testBit 2 = e.hold ∧
      (at? 10 1).testBit 3 = e.restart := by
  intro r e at?
  refine ⟨rfl, ?_⟩
  simp [at?, r, e, recordItems, itemField_cons_succ, itemField_be16_skip, itemField_byte, itemField_be16,
    ReactionEntry.reactionBits, testBit_packFlags_byte, -Nat.testBit_zero]

/-- R119. The fields of a touch channel: what both layouts of TOUCH READ carry. -/
def touchBytes (raw corrected baseline : Nat) (delta : Int) (state : KeyState) (faulted disabled : Bool)
    (on off : Nat) : List Byte :=
  be16 raw ++ be16 corrected ++ be24 baseline ++ beInt24 delta ++ [byteOf state.code, touchFlags faulted disabled] ++
    (be16 on ++ be16 off)

theorem touchBytes_fields (raw corrected baseline : Nat) (delta : Int) (state : KeyState) (faulted disabled : Bool)
    (on off : Nat) :
    let bs := touchBytes raw corrected baseline delta state faulted disabled on off
    bs.length = 16 ∧
      itemField bs 0 2 = raw % 65536 ∧ itemField bs 2 2 = corrected % 65536 ∧ itemField bs 4 3 = baseline % 16777216 ∧
      itemField bs 7 3 = signedField 24 delta ∧ itemField bs 10 1 = state.code ∧
      (itemField bs 11 1).testBit 0 = faulted ∧ (itemField bs 11 1).testBit 1 = disabled ∧
      itemField bs 12 2 = on % 65536 ∧ itemField bs 14 2 = off % 65536 := by
  have hoff := itemField_be16 off []
  rw [List.append_nil] at hoff
  refine ⟨rfl, ?_⟩
  simp [touchBytes, itemField_cons_succ, itemField_be16_skip, itemField_be24_skip, itemField_beInt24_skip,
    itemField_byte, itemField_be16, itemField_be24, itemField_beInt24, hoff, touchFlags, testBit_packFlags_byte, -Nat.testBit_zero]

theorem keyItems_eq (s : State) (c : Fin 20) :
    let t := s.tsu.keys[c]
    let m := s.tbs.tables.keymap[c]
    let on := if s.tsu.guarded then 2 * m.sensitivity else m.sensitivity
    keyItems s c = touchBytes t.raw t.corrected t.baseline t.delta t.state t.faulted (!m.valid)
      (if m.valid then on else 0) (if m.valid then on * 3 / 4 else 0) := by
  simp only [keyItems, touchBytes, onThreshold, offThreshold]
  cases (s.tbs.tables.keymap[c]).valid <;> rfl

theorem refItems_eq (s : State) (i : Fin 2) :
    let f := s.tsu.refs[i]
    refItems s i = touchBytes f.raw f.raw f.baseline f.delta .idle f.faulted false 0 0 := by
  simp [refItems, touchBytes]

/-! HISTORY READ -/

theorem tempBytes_fields (v : Vector Int 4) :
    (tempBytes v).length = 8 ∧ ∀ i : Fin 4, itemField (tempBytes v) (2 * i.val) 2 = signedField 16 v[i] := by
  have hlen : ∀ i : Fin 4, (beInt16 v[i]).length = 2 := fun i => rfl
  refine ⟨rfl, fun i => ?_⟩
  have hf := itemField_flatMap hlen [] i (offset := 0) (width := 2) (by decide)
  have hv := itemField_beInt16 v[i] []
  rw [List.append_nil] at hf hv
  exact hf.trans hv

/-- R199. What the summary of a departure or a wake carries. -/
theorem summary_fields (stamp detail count : Nat) (cause : Cause) (stage : Stage) (m : MbsState) :
    let g := be16 stamp ++ [byteOf cause.code, byteOf detail, byteOf stage.code, byteOf m.code, byteOf count]
    g.length = 7 ∧ itemField g 0 2 = stamp % 65536 ∧ itemField g 2 1 = cause.code ∧ itemField g 3 1 = detail % 256 ∧
      itemField g 4 1 = stage.code ∧ itemField g 5 1 = m.code ∧ itemField g 6 1 = count % 256 := by
  refine ⟨rfl, ?_⟩
  simp [itemField_cons_succ, itemField_be16_skip, itemField_byte, itemField_be16]

theorem group_powerOn {e : HistoryEntry} {load : LoadResult} (h : e.body = .powerOn load) :
    e.body.code = 0 ∧ (∃ g, e.group 0 = some g ∧ g.length = 3 ∧ itemField g 0 2 = e.stamp % 65536 ∧
      itemField g 2 1 = load.code) ∧ ∀ n, n ≠ 0 → e.group n = none := by
  refine ⟨by rw [h]; rfl, ⟨_, rfl, ?_⟩, fun n hn => ?_⟩
  · rw [h]
    refine ⟨rfl, ?_⟩
    simp [HistoryBody.summary, itemField_be16_skip, itemField_byte, itemField_be16]
  · unfold HistoryEntry.group
    rw [h]
    split <;> simp_all

theorem group_restart {e : HistoryEntry} {r : RestartInfo} (h : e.body = .restart r) :
    e.body.code = 1 ∧
    e.group 0 = some (be16 e.stamp ++
      [byteOf r.cause.code, byteOf r.detail, byteOf r.stage.code, byteOf r.fromState.code, byteOf r.count]) ∧
    e.group 1 = some (tempBytes r.temps) ∧
    e.group 2 = some (be16 r.seconds ++ be16 r.runTime ++ [r.token, byteOf (flag r.noToken)]) ∧
    ∀ n, 2 < n → e.group n = none := by
  unfold HistoryEntry.group
  rw [h]
  refine ⟨rfl, rfl, rfl, rfl, fun n hn => ?_⟩
  split <;> simp_all

theorem group_wake {e : HistoryEntry} {w : WakeInfo} (h : e.body = .wake w) :
    e.body.code = 2 ∧
    e.group 0 = some (be16 e.stamp ++
      [byteOf w.cause.code, byteOf w.detail, byteOf w.stage.code, byteOf w.fromState.code, byteOf w.count]) ∧
    e.group 1 = some (tempBytes w.temps) ∧ ∀ n, 1 < n → e.group n = none := by
  unfold HistoryEntry.group
  rw [h]
  refine ⟨rfl, rfl, rfl, fun n hn => ?_⟩
  split <;> simp_all

theorem group_mark {e : HistoryEntry} {bytes : List Byte} (h : e.body = .mark bytes) :
    e.body.code = 3 ∧ e.group 0 = some (be16 e.stamp) ∧ e.group 3 = some bytes ∧
    ∀ n, n ≠ 0 → n ≠ 3 → e.group n = none := by
  unfold HistoryEntry.group
  rw [h]
  refine ⟨rfl, rfl, rfl, fun n h0 h3 => ?_⟩
  split <;> simp_all

/-! The six requests -/

/-- R173. A single check. -/
theorem checkedRequest_one (kind tag : Byte) (b : Bool) (st : Status) (f : State → State) (s : State) :
    checkedRequest kind tag [(b, st)] f s = if b then f s else refuse kind tag st s := by cases b <;> rfl

/-- R173. Two checks, in their order. -/
theorem checkedRequest_two (kind tag : Byte) (b c : Bool) (st su : Status) (f : State → State) (s : State) :
    checkedRequest kind tag [(b, st), (c, su)] f s =
      if b then (if c then f s else refuse kind tag su s) else refuse kind tag st s := by cases b <;> cases c <;> rfl

theorem touchItems_key (s : State) (c : Fin 20) : touchItems s c.val = keyItems s c := dif_pos c.isLt

theorem touchItems_ref (s : State) (i : Fin 2) : touchItems s (i.val + 20) = refItems s i := by
  rw [touchItems, dif_neg (by omega)]
  exact Fin.cases rfl (fun j => Fin.cases rfl (fun k => k.elim0) j) i

section
variable {s : State} (hp : s.powered = true) (hr : s.slp.reply = none) (tag a b d : Byte)
include hp hr

theorem exec_ident_free : ∃ t, exec (.ident tag []) s = .next t ∧ OnlyAnswered s t (replyFrame 0x81 tag 0
    [0x43, 0x03, 0x20, 2, 20, 8, 4, 6, 16, 1, 16, if s.slp.rate then 1 else 0]) := by
  have hi : identItems (rxTaken s) = [0x43, 0x03, 0x20, 2, 20, 8, 4, 6, 16, 1, 16, if s.slp.rate then 1 else 0] := by
    have hrate : (rxTaken s).slp.rate = s.slp.rate := rfl
    rw [identItems, hrate]
    cases s.slp.rate <;> rfl
  have h := onlyAnswered_reply s 0x01 tag .ok (identItems (rxTaken s))
  rw [hi] at h
  exact ⟨_, request_free hp hr _, hi ▸ h⟩

theorem exec_statusRead_free : ∃ t, exec (.statusRead tag [a]) s = .next t ∧
    (a.toNat ≤ 5 → OnlyAnswered s t (replyFrame 0x83 tag 0 (statusItems s a.toNat))) ∧
    (5 < a.toNat → OnlyAnswered s t (replyFrame 0x83 tag 0x13 [])) := by
  refine ⟨_, request_free hp hr _, ?_⟩
  rw [show serveStatusRead tag [a] = readStatus tag a.toNat from rfl, readStatus, checkedRequest_one]
  simp only [decide_eq_true_eq]
  refine ⟨fun h => ?_, fun h => ?_⟩
  · rw [if_pos h]
    exact onlyAnswered_reply s 0x03 tag .ok (statusItems s a.toNat)
  · rw [if_neg (by omega)]
    exact onlyAnswered_refuse s 0x03 tag .badArg

theorem exec_tableRead_free : ∃ t, exec (.tableRead tag [a, b, d]) s = .next t ∧
    (6 < a.toNat → OnlyAnswered s t (replyFrame 0x90 tag 0x12 [])) ∧
    (a.toNat ≤ 6 → b.toNat < tableSize a.toNat → 1 ≤ d.toNat → b.toNat + d.toNat ≤ tableSize a.toNat →
      d.toNat * entrySize a.toNat ≤ 62 →
      OnlyAnswered s t (replyFrame 0x90 tag 0 (readEntries s.tbs.tables a.toNat b.toNat d.toNat))) ∧
    (a.toNat ≤ 6 → d = 0 ∨ tableSize a.toNat < b.toNat + d.toNat ∨ 62 < d.toNat * entrySize a.toNat →
      OnlyAnswered s t (replyFrame 0x90 tag 0x13 [])) := by
  refine ⟨_, request_free hp hr _, ?_⟩
  rw [show serveTableRead tag [a, b, d] = readTable tag a.toNat b.toNat d.toNat from rfl, readTable,
    checkedRequest_two]
  simp only [decide_eq_true_eq]
  refine ⟨fun h => ?_, fun h hb hd1 hbd hd => ?_, fun h hbad => ?_⟩
  · rw [if_neg (by omega)]
    exact onlyAnswered_refuse s 0x10 tag .badTable
  · rw [if_pos h, if_pos (by simp [readInRange, hb, hd1, hbd, hd])]
    exact onlyAnswered_reply s 0x10 tag .ok _
  · have hd0 : d = 0 → d.toNat = 0 := fun h => by rw [h]; rfl
    rw [if_pos h, if_neg]
    · exact onlyAnswered_refuse s 0x10 tag .badArg
    · simp only [readInRange, Bool.and_eq_true, decide_eq_true_eq]
      rcases hbad with h0 | h1 | h2
      · have := hd0 h0; omega
      · omega
      · omega

theorem exec_historyRead_free : ∃ t, exec (.historyRead tag [a, b]) s = .next t ∧
    (15 < a.toNat ∨ 3 < b.toNat → OnlyAnswered s t (replyFrame 0xB0 tag 0x13 [])) ∧
    (a.toNat ≤ 15 → b.toNat ≤ 3 → s.rhs.entries.length ≤ a.toNat →
      OnlyAnswered s t (replyFrame 0xB0 tag 0x16 [])) ∧
    (∀ e, a.toNat ≤ 15 → b.toNat ≤ 3 → s.rhs.entries[a.toNat]? = some e →
      (∀ group, e.group b.toNat = some group → OnlyAnswered s t (replyFrame 0xB0 tag 0
        ([byteOf e.body.code] ++ be16 e.ordinal.toNat ++ [byteOf s.rhs.entries.length] ++ group))) ∧
      (e.group b.toNat = none → OnlyAnswered s t (replyFrame 0xB0 tag 0x13 [byteOf e.body.code]))) := by
  refine ⟨_, request_free hp hr _, ?_⟩
  rw [show serveHistoryRead tag [a, b] = readHistory tag a.toNat b.toNat from rfl, readHistory, checkedRequest_one]
  simp only [Bool.and_eq_true, decide_eq_true_eq]
  have hent : (rxTaken s).rhs = s.rhs := rfl
  refine ⟨fun h => ?_, fun ha hb h => ?_, fun e ha hb he => ?_⟩
  · rw [if_neg (by omega)]
    exact onlyAnswered_refuse s 0x30 tag .badArg
  · rw [if_pos ⟨ha, hb⟩, readDepth, hent, List.getElem?_eq_none h]
    exact onlyAnswered_refuse s 0x30 tag .empty
  · rw [if_pos ⟨ha, hb⟩, readDepth, hent, he]
    refine ⟨fun group hg => ?_, fun hg => ?_⟩
    · dsimp only
      rw [hg]
      exact onlyAnswered_reply s 0x30 tag .ok _
    · dsimp only
      rw [hg]
      exact onlyAnswered_reply s 0x30 tag .badArg _

theorem exec_faultRead_free : ∃ t, exec (.faultRead tag [a]) s = .next t ∧
    (∀ k : Fin 16, a.toNat = k.val → OnlyAnswered s t (replyFrame 0xD0 tag 0 (recordItems s k))) ∧
    (15 < a.toNat → OnlyAnswered s t (replyFrame 0xD0 tag 0x13 [])) := by
  refine ⟨_, request_free hp hr _, ?_⟩
  rw [show serveFaultRead tag [a] = readFault tag a.toNat from rfl]
  refine ⟨fun k h => ?_, fun h => ?_⟩
  · rw [h, readFault, dif_pos k.isLt]
    exact onlyAnswered_reply s 0x50 tag .ok (recordItems s k)
  · rw [readFault, dif_neg (by omega)]
    exact onlyAnswered_refuse s 0x50 tag .badArg

theorem exec_touchRead_free : ∃ t, exec (.touchRead tag [a]) s = .next t ∧
    (∀ c : Fin 20, a.toNat = c.val → OnlyAnswered s t (replyFrame 0xE0 tag 0 (keyItems s c))) ∧
    (∀ i : Fin 2, a.toNat = i.val + 20 → OnlyAnswered s t (replyFrame 0xE0 tag 0 (refItems s i))) ∧
    (21 < a.toNat → OnlyAnswered s t (replyFrame 0xE0 tag 0x13 [])) := by
  refine ⟨_, request_free hp hr _, ?_⟩
  rw [show serveTouchRead tag [a] = readTouch tag a.toNat from rfl, readTouch, checkedRequest_one]
  simp only [decide_eq_true_eq]
  refine ⟨fun c h => ?_, fun i h => ?_, fun h => ?_⟩
  · rw [if_pos (by omega), h, touchItems_key]
    exact onlyAnswered_reply s 0x60 tag .ok (keyItems s c)
  · rw [if_pos (by omega), h, touchItems_ref]
    exact onlyAnswered_reply s 0x60 tag .ok (refItems s i)
  · rw [if_neg (by omega)]
    exact onlyAnswered_refuse s 0x60 tag .badArg

end

/-- Settles O41: by the fields of each item list, and by what each of the six requests answers. -/
theorem readRequestsChangeOnlyTheLink : Obligations.ReadRequestsChangeOnlyTheLink := by
  refine ⟨fun s => ?_, fun s k c i => ?_, fun e load r w bytes => ?_, by decide, fun tag a b d s hp hr => ?_⟩
  · obtain ⟨hch, hdrift⟩ := tmuItems_fields s
    obtain ⟨hheat, hfan, hspeed, hstate⟩ := hfdItems_fields s
    obtain ⟨hmode, hguard, hqueue, hmasks⟩ := keyStatusItems_fields s
    obtain ⟨hstore, hresult, htables⟩ := storeItems_fields s
    exact ⟨statusItems_length s, mbsItems_fields s, hch, hdrift, hheat, hfan, hspeed, hstate, hmode, hguard, hqueue,
      hmasks, panelItems_fields s, hstore, hresult, htables⟩
  · refine ⟨recordItems_fields s k, ?_, ?_⟩
    · rw [keyItems_eq]
      exact touchBytes_fields _ _ _ _ _ _ _ _ _
    · rw [refItems_eq]
      exact touchBytes_fields _ _ _ _ _ _ _ _ _
  · refine ⟨fun h => group_powerOn h, fun h => ?_, fun h => ?_, fun h => ?_⟩
    · obtain ⟨hcode, h0, h1, h2, hno⟩ := group_restart h
      refine ⟨hcode, ⟨_, h0, summary_fields _ _ _ _ _ _⟩, ⟨_, h1, tempBytes_fields _⟩, ⟨_, h2, rfl, ?_⟩, hno⟩
      simp [itemField_cons_succ, itemField_be16_skip, itemField_byte, itemField_be16]
    · obtain ⟨hcode, h0, h1, hno⟩ := group_wake h
      exact ⟨hcode, ⟨_, h0, summary_fields _ _ _ _ _ _⟩, ⟨_, h1, tempBytes_fields _⟩, hno⟩
    · obtain ⟨hcode, h0, h3, hno⟩ := group_mark h
      have hs := itemField_be16 e.stamp []
      rw [List.append_nil] at hs
      exact ⟨hcode, ⟨_, h0, rfl, hs⟩, ⟨_, h3, rfl⟩, hno⟩
  · exact ⟨exec_ident_free hp hr tag, exec_statusRead_free hp hr tag a, exec_tableRead_free hp hr tag a b d,
      exec_historyRead_free hp hr tag a b, exec_faultRead_free hp hr tag a, exec_touchRead_free hp hr tag a⟩

end Sys2Proof.Machine
end

section
/-! Scaled duties and the fan's table (R29, R30, R34 to R37). -/

namespace Sys2Proof.Machine

/-! Duties within the allotment -/

/-- R29. Outside a rail change a channel is gated by its zone, its latch and the supervisory state. -/
theorem effectiveDemand_eq (s : State) (i : Fin 3) (hr : s.hfd.railChange = .none) :
    effectiveDemand s i =
      if (s.tbs.tables.zones[i]).valid = false ∨ (s.hfd.channels[i]).state = .latchedOff ∨
        (s.znc.zones[i]).cutOut = true ∨ s.mbs.state = .off ∨ s.mbs.state = .lockout then 0
      else min (s.hfd.channels[i]).demand (s.tbs.tables.zones[i]).dmax := by
  have hg : heatGated s = true ↔ s.mbs.state = .off ∨ s.mbs.state = .lockout := by
    unfold heatGated MbsState.unheated
    rw [hr]
    cases s.mbs.state <;> simp
  unfold effectiveDemand
  dsimp only
  refine if_congr ?_ rfl rfl
  simp only [Bool.or_eq_true, Bool.not_eq_true', beq_iff_eq, hg, or_assoc]

theorem effectiveDemand_le_dmax (s : State) (i : Fin 3) :
    effectiveDemand s i ≤ (s.tbs.tables.zones[i]).dmax := by
  unfold effectiveDemand
  dsimp only
  split
  · exact Nat.zero_le _
  · exact Nat.min_le_right _ _

section
variable (T : Tables) (e : Fin 3 → Nat) (watts : Nat)

theorem scaledDuty_fits (h : wattSum T e ≤ watts * 1000) (i : Fin 3) : scaledDuty T e watts i = e i := if_pos h

theorem scaledDuty_lowered (h : watts * 1000 < wattSum T e) (i : Fin 3) :
    scaledDuty T e watts i = e i * (watts * 1000) / wattSum T e := if_neg (by omega)

theorem scaledDuty_le (i : Fin 3) : scaledDuty T e watts i ≤ e i := by
  by_cases h : wattSum T e ≤ watts * 1000
  · exact (scaledDuty_fits T e watts h i).le
  · rw [scaledDuty_lowered T e watts (by omega)]
    exact Nat.div_le_of_le_mul (by rw [Nat.mul_comm (wattSum T e)]; exact Nat.mul_le_mul_left _ (by omega))

/-- R30. The truncated duties weigh at most the allotment, since `e i / S` of it goes to each channel. -/
theorem wattSum_scaledDuty_le : wattSum T (scaledDuty T e watts) ≤ watts * 1000 := by
  by_cases h : wattSum T e ≤ watts * 1000
  · rw [funext (scaledDuty_fits T e watts h)]
    exact h
  · have hS : 0 < wattSum T e := by omega
    refine Nat.le_of_mul_le_mul_left ?_ hS
    have hd : ∀ i w, wattSum T e * (scaledDuty T e watts i * w) ≤ e i * w * (watts * 1000) := fun i w => by
      rw [scaledDuty_lowered T e watts (by omega)]
      calc wattSum T e * (e i * (watts * 1000) / wattSum T e * w)
          = wattSum T e * (e i * (watts * 1000) / wattSum T e) * w := (Nat.mul_assoc _ _ _).symm
        _ ≤ e i * (watts * 1000) * w := Nat.mul_le_mul_right _ (Nat.mul_div_le _ _)
        _ = e i * w * (watts * 1000) := Nat.mul_right_comm _ _ _
    calc wattSum T e * wattSum T (scaledDuty T e watts)
        ≤ e 0 * (T.zones[0]).weight * (watts * 1000) + e 1 * (T.zones[1]).weight * (watts * 1000) +
            e 2 * (T.zones[2]).weight * (watts * 1000) := by
          rw [wattSum.eq_def T (scaledDuty T e watts), Nat.mul_add, Nat.mul_add]
          exact Nat.add_le_add (Nat.add_le_add (hd 0 _) (hd 1 _)) (hd 2 _)
      _ = wattSum T e * (watts * 1000) := by rw [wattSum, Nat.add_mul, Nat.add_mul]

end

/-- R31. With no rail change pending a recomputation scales the effective demands to the allotment in force. -/
theorem newDuty_eq (s : State) (hr : s.hfd.railChange = .none) (i : Fin 3) :
    newDuty s i = scaledDuty s.tbs.tables (effectiveDemand s) (allotment s) i := by
  unfold newDuty
  rw [hr]
  rfl

/-- Settles O25: by the weight of the truncated duties, and by the recomputation the heaters' invariant names. -/
theorem scaledDutiesFitTheAllotment : Obligations.ScaledDutiesFitTheAllotment := by
  refine ⟨effectiveDemand_eq, fun T e watts => ⟨scaledDuty_fits T e watts, scaledDuty_lowered T e watts,
    wattSum_scaledDuty_le T e watts⟩, fun s ⟨hr, hc⟩ => ?_⟩
  have happ : ∀ i : Fin 3, (s.hfd.channels[i]).applied =
      scaledDuty s.tbs.tables (effectiveDemand s) (allotment s) i := fun i => by rw [(hc i).1, newDuty_eq s hr]
  refine ⟨?_, fun i => ⟨happ i, ?_, fun hg => ?_⟩⟩
  · have h := wattSum_scaledDuty_le s.tbs.tables (effectiveDemand s) (allotment s)
    unfold wattSum at h
    rwa [← happ 0, ← happ 1, ← happ 2] at h
  · exact (happ i).le.trans ((scaledDuty_le _ _ _ i).trans (effectiveDemand_le_dmax s i))
  · have h0 : effectiveDemand s i = 0 := by rw [effectiveDemand_eq s i hr, if_pos hg]
    have hle := scaledDuty_le s.tbs.tables (effectiveDemand s) (allotment s) i
    rw [happ i]
    omega

/-! The fan's table -/

theorem zoneBelowRelease_iff (s : State) : zoneBelowRelease s = true ↔
    ∃ i : Fin 3, (s.tbs.tables.zones[i]).valid = true ∧
    (lastReading s (zoneSensor i)).health ≠ .failed ∧
      ∃ x, (lastReading s (zoneSensor i)).temp = some x ∧ x < (s.tbs.tables.zones[i]).release := by
  simp only [zoneBelowRelease, List.any_eq_true, List.mem_finRange, true_and, Bool.and_eq_true, bne_iff_ne]
  refine exists_congr fun i => ?_
  rw [and_assoc]
  cases (lastReading s (zoneSensor i)).temp <;> simp

/-- R34, row 4. Between its two temperatures the interpolated duty is not negative, whatever the minimum. -/
theorem interpolated_nonneg {lo hi x : Int} (m : Nat) (h0 : lo < x) (h1 : x < hi) :
    0 ≤ (m : Int) + ((x - lo) * (1000 - (m : Int))).tdiv (hi - lo) := by
  by_cases hm : (m : Int) ≤ 1000
  · have := Int.tdiv_nonneg (a := (x - lo) * (1000 - (m : Int))) (b := hi - lo)
      (Int.mul_nonneg (by omega) (by omega)) (by omega)
    omega
  · have hneg : (x - lo) * (1000 - (m : Int)) = -((x - lo) * ((m : Int) - 1000)) := by
      rw [← Int.mul_neg, Int.neg_sub]
    have hle : ((x - lo) * ((m : Int) - 1000)).tdiv (hi - lo) ≤ (m : Int) - 1000 := by
      rw [Int.tdiv_eq_ediv_of_nonneg (Int.mul_nonneg (by omega) (by omega))]
      refine Int.ediv_le_of_le_mul (by omega) ?_
      rw [Int.mul_comm ((m : Int) - 1000)]
      exact Int.mul_le_mul_of_nonneg_right (by omega) (by omega)
    rw [hneg, Int.neg_tdiv]
    omega

/-- R34. The rows of the fan's table. -/
theorem fanDutyNow_rows (s : State) :
    let g := s.tbs.tables.glob
    let r := lastReading s 3
    (s.mbs.pwrEn = false ∨ zoneBelowRelease s = true → fanDutyNow s = 0) ∧
    (s.mbs.pwrEn = true → ¬zoneBelowRelease s = true → r.health = .failed ∨ r.temp = none → fanDutyNow s = 1000) ∧
    ∀ x, s.mbs.pwrEn = true → ¬zoneBelowRelease s = true → r.health ≠ .failed → r.temp = some x →
      (x ≤ g.fanStart → fanDutyNow s = 0) ∧
      (g.fanStart < x → g.fanFull ≤ x → fanDutyNow s = 1000) ∧
      (g.fanStart < x → x < g.fanFull → (fanDutyNow s : Int) =
        g.fanMin + ((x - g.fanStart) * (1000 - (g.fanMin : Int))).tdiv (g.fanFull - g.fanStart)) := by
  refine ⟨fun h => ?_, fun hp hb h => ?_, fun x hp hb hh ht => ?_⟩
  · rcases h with h | h
    · simp [fanDutyNow, h]
    · simp [fanDutyNow, h]
  · rcases h with h | h
    · unfold fanDutyNow
      cases ht : (lastReading s 3).temp <;> simp [hp, hb, h, ht]
    · simp [fanDutyNow, hp, hb, h]
  · refine ⟨fun h => ?_, fun h0 h1 => ?_, fun h0 h1 => ?_⟩
    · simp [fanDutyNow, hp, hb, hh, ht, h]
    · simp [fanDutyNow, hp, hb, hh, ht, h1, Int.not_le.2 h0]
    · have hn := interpolated_nonneg s.tbs.tables.glob.fanMin h0 h1
      simp only [fanDutyNow, hp, hb, hh, ht, Int.not_le.2 h0, Int.not_le.2 h1, Bool.not_true, if_false,
        Bool.false_eq_true, Int.toNat_of_nonneg hn]

/-- R36, R37. What a duty in force does to the fan state, the stall timer and the full-duty mark. -/
theorem setFanDuty_effect (d : Nat) (s : State) :
    let t := setFanDuty d s
    t = { s with hfd := { s.hfd with
      fanDuty := d, fanState := t.hfd.fanState, stall := t.hfd.stall, filter := t.hfd.filter } } ∧
    (s.hfd.fanState = .stalled → t.hfd.fanState = .stalled ∧ t.hfd.stall = none) ∧
    (s.hfd.fanState ≠ .stalled → t.hfd.fanState = if d = 0 then .stopped else .running) ∧
    (d < 200 → t.hfd.stall = none) ∧
    (s.hfd.fanState ≠ .stalled → 200 ≤ d → t.hfd.stall = some (s.hfd.stall.getD 0)) ∧
    (∀ w, s.hfd.filter = some w → t.hfd.filter = some ⟨w.sets, w.fullDuty && decide (1000 ≤ d)⟩) := by
  refine ⟨rfl, fun h => ?_, fun h => ?_, fun h => ?_, fun h hd => ?_, fun w hw => ?_⟩
  · simp [setFanDuty, fanStateAt, stallTimerAt, h]
  · simp [setFanDuty, fanStateAt, h]
  · simp [setFanDuty, stallTimerAt, h]
  · have : ¬d < 200 := by omega
    cases hs : s.hfd.stall <;> simp [setFanDuty, stallTimerAt, h, this, hs]
  · simp [setFanDuty, hw]

end Sys2Proof.Machine
end

section
/-! SUPPORT. What keeps the heaters' duties and the fan's duty up to date (R20, R23, R29 to R35), operation by
operation. -/

namespace Sys2Proof.Machine

/-! What the drivers lean on -/

/-- R61, R66, R79, R80, R84. What the drivers lean on in the supervisor: MAIN_PWR_EN agrees with the state, and the
timers whose end changes the heated or the rail-on states run in their own states alone. -/
def Mbs.drivesOk (m : Mbs) : Prop :=
  m.pwrEn = m.state.railOn ∧ (m.resetTimer.isSome = true → m.state = .powering ∨ m.state = .resetting) ∧
  (m.cycleTimer.isSome = true → m.state = .cycling) ∧ (m.lockoutTimer.isSome = true → m.state = .lockout)

theorem SupervisorOk.drivesOk {s : State} (h : SupervisorOk s) : s.mbs.drivesOk := by
  obtain ⟨⟨hp, -, -⟩, ⟨hreset, -, -, -, hcycle, hlock, -⟩, -⟩ := h
  exact ⟨hp, hreset, hcycle, hlock⟩

/-- The driver's invariant: of the heaters where `heaters`, of the fan where `fan`, over a supervisor it can lean on.
The two are kept by the same operations, so each is proved of both at once. -/
structure DriverOk (heaters fan : Prop) (s : State) : Prop where
  board : s.mbs.drivesOk
  heat : heaters → HeatersOk s
  air : fan → FanOk s

/-- R20. A LATCHED_OFF channel's output is off. -/
def OutputsOk (s : State) : Prop :=
  ∀ i : Fin 3, (s.hfd.channels[i]).state = .latchedOff → (s.hfd.channels[i]).output = false

theorem HeatersOk.outputs {s : State} (h : HeatersOk s) : OutputsOk s := fun i => (h.2 i).2

/-- An operation that moves demands and applied duties alone moves no output. -/
theorem OutputsOk.of_channels {s t : State} (h : OutputsOk s) (hc : ∀ i : Fin 3, t.hfd.channels[i] =
    { s.hfd.channels[i] with demand := (t.hfd.channels[i]).demand, applied := (t.hfd.channels[i]).applied }) :
    OutputsOk t := fun i => by rw [hc i]; exact h i

/-- R29 to R33. What a duty is computed from. -/
theorem newDuty_eq_of {s t : State} (hz : t.tbs.tables.zones = s.tbs.tables.zones)
    (hg : t.tbs.tables.glob = s.tbs.tables.glob) (hp : t.mbs.pwrEn = s.mbs.pwrEn)
    (hu : t.mbs.state.unheated = s.mbs.state.unheated) (hr : t.hfd.railChange = s.hfd.railChange)
    (hc : ∀ i : Fin 3, ((t.hfd.channels[i]).state = .latchedOff ↔ (s.hfd.channels[i]).state = .latchedOff) ∧
      (t.hfd.channels[i]).demand = (s.hfd.channels[i]).demand)
    (hcut : ∀ i : Fin 3, (t.znc.zones[i]).cutOut = (s.znc.zones[i]).cutOut) (i : Fin 3) :
    newDuty t i = newDuty s i := by
  have he : effectiveDemand t = effectiveDemand s := by
    funext k
    have hl : ((t.hfd.channels[k]).state == HeaterState.latchedOff) = ((s.hfd.channels[k]).state == .latchedOff) :=
      Bool.eq_iff_iff.2 (by simpa using (hc k).1)
    unfold effectiveDemand heatGated
    dsimp only
    rw [hz, hu, hr, hl, (hc k).2, hcut k]
  unfold newDuty scaledDuty wattSum
  dsimp only
  rw [he, hr, hp, hz, hg]

/-- R34. What the fan's duty is computed from. -/
theorem fanDutyNow_eq_of {s t : State} (hz : t.tbs.tables.zones = s.tbs.tables.zones)
    (hg : t.tbs.tables.glob = s.tbs.tables.glob) (hp : t.mbs.pwrEn = s.mbs.pwrEn)
    (hs : t.tmu.lastSet = s.tmu.lastSet) : fanDutyNow t = fanDutyNow s := by
  unfold fanDutyNow zoneBelowRelease lastReading
  rw [hz, hg, hp, hs]

/-- R20, R31. Channel `d` takes part in the duties as `c` does, and a latched one that did not drive does not drive. -/
def SameDrive (c d : HeaterChannel) : Prop :=
  d.applied = c.applied ∧ d.demand = c.demand ∧ (d.state = .latchedOff ↔ c.state = .latchedOff) ∧
  (c.output = false → c.state = .latchedOff → d.output = false)

theorem SameDrive.refl (c : HeaterChannel) : SameDrive c c := ⟨rfl, rfl, Iff.rfl, fun h _ => h⟩

section
variable {H F : Prop} {s t : State}

/-- The invariant speaks of these parts of the state. -/
theorem DriverOk.of_parts (ok : DriverOk H F s) (hb : t.mbs.drivesOk)
    (hz : t.tbs.tables.zones = s.tbs.tables.zones) (hg : t.tbs.tables.glob = s.tbs.tables.glob)
    (hp : t.mbs.pwrEn = s.mbs.pwrEn) (hu : t.mbs.state.unheated = s.mbs.state.unheated)
    (hr : t.hfd.railChange = s.hfd.railChange)
    (hc : H → ∀ i : Fin 3, SameDrive s.hfd.channels[i] t.hfd.channels[i])
    (hcut : ∀ i : Fin 3, (t.znc.zones[i]).cutOut = (s.znc.zones[i]).cutOut)
    (hf : F → t.hfd.fanDuty = s.hfd.fanDuty ∧ t.tmu.lastSet = s.tmu.lastSet) : DriverOk H F t := by
  refine ⟨hb, fun h => ?_, fun h => ?_⟩
  · obtain ⟨hnone, hok⟩ := ok.heat h
    refine ⟨hr.trans hnone, fun i => ?_⟩
    have hsame : ∀ k : Fin 3, ((t.hfd.channels[k]).state = .latchedOff ↔ (s.hfd.channels[k]).state = .latchedOff) ∧
        (t.hfd.channels[k]).demand = (s.hfd.channels[k]).demand := fun k => by
      obtain ⟨-, hdem, hl, -⟩ := hc h k
      exact ⟨hl, hdem⟩
    obtain ⟨happ, -, hl, hout⟩ := hc h i
    rw [newDuty_eq_of hz hg hp hu hr hsame hcut, happ, hl]
    exact ⟨(hok i).1, fun h => hout ((hok i).2 h) h⟩
  · unfold FanOk
    rw [(hf h).1, fanDutyNow_eq_of hz hg hp (hf h).2]
    exact ok.air h

/-- The blocks that the invariant speaks of. -/
def driveView (s : State) : Mbs × Hfd × Znc × Tmu × Tbs := (s.mbs, s.hfd, s.znc, s.tmu, s.tbs)

/-- An operation that reaches none of these blocks keeps the invariant. -/
theorem DriverOk.of_view (ok : DriverOk H F s) (h : driveView t = driveView s) : DriverOk H F t := by
  simp only [driveView, Prod.mk.injEq] at h
  obtain ⟨hm, hh, hz, ht, hb⟩ := h
  refine ok.of_parts (hm ▸ ok.board) ?_ ?_ ?_ ?_ ?_ (fun _ i => ?_) (fun i => ?_) fun _ => ?_ <;>
    simp only [hm, hh, hz, ht, hb]
  exacts [.refl _, ⟨trivial, trivial⟩]

/-- A change of the supervisor's own state, MAIN_PWR_EN and the heated states apart. -/
theorem DriverOk.setMbs (ok : DriverOk H F s) {m : Mbs} (hb : m.drivesOk) (hp : m.pwrEn = s.mbs.pwrEn)
    (hu : m.state.unheated = s.mbs.state.unheated) : DriverOk H F (s.setMbs m) :=
  ok.of_parts hb rfl rfl hp hu rfl (fun _ _ => .refl _) (fun _ => rfl) fun _ => ⟨rfl, rfl⟩

/-- R31. A recomputation brings the duties up to date. -/
theorem heatersOk_recomputeDuties (hr : s.hfd.railChange = .none) (ho : OutputsOk s) :
    HeatersOk (recomputeDuties s) := by
  refine ⟨hr, fun i => ?_⟩
  rw [newDuty_recomputeDuties, recomputeDuties_channel]
  exact ⟨rfl, ho i⟩

/-- R35. A recomputation brings the fan up to date. -/
theorem fanOk_recomputeFan (s : State) : FanOk (recomputeFan s) :=
  show fanDutyNow s = fanDutyNow (recomputeFan s) from (fanDutyNow_eq_of rfl rfl rfl rfl).symm

/-- R35. The fan reads no heater channel, and the heaters do not read the fan. -/
theorem driverOk_recomputeFan (ok : DriverOk H False s) : DriverOk H F (recomputeFan s) :=
  have hheat : DriverOk H False (recomputeFan s) := ok.of_parts ok.board rfl rfl rfl rfl rfl
    (fun _ _ => .refl _) (fun _ => rfl) False.elim
  ⟨hheat.board, hheat.heat, fun _ => fanOk_recomputeFan s⟩

/-- R31. A recomputation of the duties leaves the fan as it was. -/
theorem driverOk_recomputeDuties (hb : s.mbs.drivesOk) (hr : H → s.hfd.railChange = .none) (ho : H → OutputsOk s)
    (hf : F → FanOk s) : DriverOk H F (recomputeDuties s) :=
  ⟨hb, fun h => heatersOk_recomputeDuties (hr h) (ho h), fun h => (hf h).trans (fanDutyNow_eq_of rfl rfl rfl rfl).symm⟩

/-! Rail changes -/

/-- R32, R33. A rail that has moved leaves both up to date. -/
theorem driverOk_railMoved (hb : s.mbs.drivesOk) (ho : H → OutputsOk s) : DriverOk H F (railMoved s) :=
  have h : DriverOk H F (recomputeFan (recomputeDuties (setRailChange .none s))) :=
    driverOk_recomputeFan (driverOk_recomputeDuties hb (fun _ => rfl) ho False.elim)
  h.of_view (by simp [railMoved, driveView])

theorem driverOk_switchOn (ok : DriverOk H F s) : DriverOk H F (switchOn s) := by
  refine driverOk_railMoved ⟨rfl, ?_, ?_, ?_⟩ fun h => (ok.heat h).outputs.of_channels fun i => ?_
  · exact fun _ => .inl rfl
  · exact fun hc => absurd hc (by simp [Mbs.leave])
  · exact fun hc => absurd hc (by simp [Mbs.leave])
  · simp [recomputeDuties, handDemands]

theorem driverOk_judgeRelease (ok : DriverOk H F s) : DriverOk H F (judgeRelease s) := by
  unfold judgeRelease
  split
  · exact driverOk_switchOn ok
  · exact ok

theorem driverOk_rejudgeRelease (ok : DriverOk H F s) : DriverOk H F (rejudgeRelease s) := by
  have hj : DriverOk H F (rejudge s) := ok.of_view (by simp [driveView])
  unfold rejudgeRelease
  split
  · exact driverOk_judgeRelease hj
  · exact hj

theorem driverOk_conditionChanged (k : FaultKind) (ok : DriverOk H F s) : DriverOk H F (conditionChanged k s) := by
  unfold conditionChanged
  dsimp only
  split
  · exact driverOk_rejudgeRelease (ok.of_view (by simp [driveView]))
  · exact ok

/-! Departures -/

theorem railOn_heated {m : MbsState} (h : m.railOn = true) : m.unheated = false := by
  cases m <;> first | rfl | exact absurd h (by decide)

/-- A departure abandons the filter window and stops timers; no duty is computed from those. -/
theorem driverOk_departCommon (cause : Cause) (d : Nat) (stage : Stage) (ok : DriverOk H F s) :
    DriverOk H F (departCommon cause d stage s) := by
  have hleave : (departCommon cause d stage s).mbs = { s.mbs.leave with
      shutdown := none, runTicks := none, stable := none, rstN := false } := by simp [departCommon]
  refine ok.of_parts ?_ ?_ ?_ ?_ ?_ ?_ (fun _ i => ?_) (fun i => ?_) fun _ => ?_
  · rw [hleave]
    exact ⟨ok.board.1, fun h => absurd h (by simp [Mbs.leave]), fun h => absurd h (by simp [Mbs.leave]),
      fun h => absurd h (by simp [Mbs.leave])⟩
  case refine_7 => exact .refl _
  all_goals simp [departCommon, Mbs.leave]

/-- R78, R79. A departure from a rail-on state. -/
theorem driverOk_depart (cause : Cause) (d : Nat) (stage : Stage) (hs : s.mbs.state.railOn = true)
    (ok : DriverOk H F s) : DriverOk H F (depart cause d stage s) := by
  have hc := driverOk_departCommon cause d stage ok
  have hm : (departCommon cause d stage s).mbs = { s.mbs.leave with
      shutdown := none, runTicks := none, stable := none, rstN := false } := by simp [departCommon]
  unfold depart
  dsimp only
  split
  · refine hc.setMbs ⟨?_, fun _ => .inr rfl, ?_, ?_⟩ rfl ?_
    · exact hc.board.1.trans (by rw [hm]; exact hs)
    · exact fun h => absurd h (by simp [hm, Mbs.leave])
    · exact fun h => absurd h (by simp [hm, Mbs.leave])
    · rw [hm]
      exact (railOn_heated hs).symm
  · refine driverOk_railMoved ⟨?_, ?_, ?_, ?_⟩ fun h => (hc.heat h).outputs.of_channels fun i => ?_
    · cases stage <;> simp_all [Stage.target, MbsState.railOn]
    · exact fun h => absurd h (by simp [hm, Mbs.leave])
    · cases stage <;> simp [Stage.target]
    · cases stage <;> simp [Stage.target]
    · simp [recomputeDuties]

theorem takesRestart_railOn {m : MbsState} (h : m.takesRestart = true) : m.railOn = true := by
  cases m <;> first | rfl | exact absurd h (by decide)

theorem driverOk_restartDecision (cause : Cause) (d : Nat) (ok : DriverOk H F s) :
    DriverOk H F (restartDecision cause d s) := by
  unfold restartDecision
  split
  next hs =>
    have hd : ∀ u : State, DriverOk H F u → u.mbs.state = s.mbs.state →
        ∀ stage, DriverOk H F (depart cause d stage (u.setMbs { u.mbs with bootCause := cause })) :=
      fun u hu hm stage => driverOk_depart cause d stage (takesRestart_railOn (hm ▸ hs)) (hu.setMbs hu.board rfl rfl)
    have hcount : DriverOk H F (s.setMbs { s.mbs with count := s.mbs.count + 1 }) := ok.setMbs ok.board rfl rfl
    dsimp only
    split
    · exact hd _ (hcount.of_view (by simp [driveView])) (by simp) _
    · exact hd _ hcount rfl _
  next => exact ok

end

end Sys2Proof.Machine
end

section
/-! SUPPORT. The supervisor's events, keys and the once-a-second computation keep the driver's invariant. -/

namespace Sys2Proof.Machine

section
variable {H F : Prop} {s : State}

/-! Records and reports -/

theorem driverOk_offer (e : Event) (ok : DriverOk H F s) : DriverOk H F (offer e s) := ok.of_view (by simp [driveView])

theorem driverOk_kickTx (ok : DriverOk H F s) : DriverOk H F (kickTx s) := ok.of_view (by simp [driveView])

theorem driverOk_recordOccurrence (k : FaultKind) (d : Nat) (ok : DriverOk H F s) :
    DriverOk H F (recordOccurrence k d s) := ok.of_view (by simp [driveView])

theorem driverOk_report (k : FaultKind) (d : Nat) (ok : DriverOk H F s) : DriverOk H F (report k d s) := by
  have hr := driverOk_recordOccurrence k d ok
  unfold report
  dsimp only
  split
  · exact driverOk_restartDecision _ _ hr
  · exact hr

theorem driverOk_reportAll (k : FaultKind) (l : List Nat) (ok : DriverOk H F s) : DriverOk H F (reportAll k l s) := by
  unfold reportAll
  induction l generalizing s with
  | nil => exact ok
  | cons d l ih => exact ih (driverOk_report k d ok)

/-! HEAT_HOLD, OFF and wakes -/

theorem unheated_railOff {m : MbsState} (h : m.unheated = true) : m.railOn = false := by
  cases m <;> first | rfl | exact absurd h (by decide)

/-- R59, R64. Entry into HEAT_HOLD from a rail-off state. -/
theorem driverOk_enterHeatHold (fresh : Bool) (hp : s.mbs.pwrEn = false) (ok : DriverOk H F s) :
    DriverOk H F (enterHeatHold fresh s) := by
  refine driverOk_judgeRelease (driverOk_recomputeDuties ⟨rfl, ?_, ?_, ?_⟩ (fun h => (ok.heat h).1)
    (fun h => (ok.heat h).outputs) fun h => ?_)
  iterate 3 exact fun h => absurd h (by simp [Mbs.leave])
  refine (ok.air h).trans (fanDutyNow_eq_of ?_ ?_ ?_ ?_).symm
  exacts [rfl, rfl, hp.symm, rfl]

theorem driverOk_pushHistory (body : HistoryBody) (ok : DriverOk H F s) : DriverOk H F (pushHistory body s) :=
  ok.of_view (by simp [driveView])

/-- R83, R84. A wake from a rail-off state. -/
theorem driverOk_wake (cause : Cause) (d : Nat) (hp : s.mbs.pwrEn = false) (ok : DriverOk H F s) :
    DriverOk H F (wake cause d s) :=
  driverOk_enterHeatHold true (by simpa using hp) (driverOk_pushHistory _ (ok.setMbs ok.board rfl rfl))

theorem driverOk_wakeKey (c : Fin 20) (ok : DriverOk H F s) : DriverOk H F (wakeKey c s) := by
  unfold wakeKey
  split
  next h => exact driverOk_wake _ _ (by rw [ok.board.1, h]; rfl) ok
  next => exact ok

theorem driverOk_powerOnChord (i : Fin 8) (ok : DriverOk H F s) : DriverOk H F (powerOnChord i s) := by
  unfold powerOnChord
  split
  next h => exact driverOk_wake _ _ (by rw [ok.board.1, unheated_railOff h]) ok
  next => exact ok

/-- R83. Entry into OFF from a rail-off state. -/
theorem driverOk_enterOff (hs : s.mbs.state.railOn = false) (ok : DriverOk H F s) : DriverOk H F (enterOff s) := by
  refine driverOk_recomputeDuties ⟨?_, ?_, ?_, ?_⟩ (fun h => (ok.heat h).1) (fun h => (ok.heat h).outputs) fun h => ?_
  · exact ok.board.1.trans hs
  iterate 3 exact fun h => absurd h (by simp [Mbs.leave])
  exact (ok.air h).trans (fanDutyNow_eq_of rfl rfl rfl rfl).symm

theorem driverOk_powerOffChord (i : Fin 8) (ok : DriverOk H F s) : DriverOk H F (powerOffChord i s) := by
  unfold powerOffChord
  split
  case h_1 => exact ok
  case h_2 h | h_3 h => exact driverOk_enterOff (by rw [h]; rfl) ok
  case h_4 h =>
    refine driverOk_enterOff ?_ (driverOk_pushHistory _ (ok.setMbs (m := { s.mbs with count := 0 }) ok.board rfl rfl))
    exact congrArg MbsState.railOn h
  all_goals exact driverOk_depart _ _ _ (by simp_all [MbsState.railOn]) ok

theorem driverOk_requestedRestart (cause : Cause) (d : Nat) (stage : Stage) (ok : DriverOk H F s) :
    DriverOk H F (requestedRestart cause d stage s) := by
  unfold requestedRestart
  split
  next h => exact driverOk_depart _ _ _ (takesRestart_railOn h) (ok.setMbs ok.board rfl rfl)
  next => exact ok

/-! BOOT, RUN and WARN -/

/-- R67. BOOT follows the reset pulse, which runs in POWERING and RESETTING alone. -/
theorem driverOk_enterBoot (hs : s.mbs.state = .powering ∨ s.mbs.state = .resetting) (ok : DriverOk H F s) :
    DriverOk H F (enterBoot s) := by
  have hp : s.mbs.pwrEn = true := by rw [ok.board.1]; rcases hs with h | h <;> rw [h] <;> rfl
  have hu : s.mbs.state.unheated = false := by rcases hs with h | h <;> rw [h] <;> rfl
  refine driverOk_offer _ (ok.of_parts ⟨hp, ?_, ?_, ?_⟩ rfl rfl rfl hu.symm rfl
    (fun _ _ => .refl _) (fun _ => rfl) fun _ => ⟨rfl, rfl⟩)
  all_goals exact fun h => absurd h (by simp [Mbs.leave, loadRestartDefaults])

theorem driverOk_enterRun (hs : s.mbs.state = .boot) (ok : DriverOk H F s) : DriverOk H F (enterRun s) := by
  refine driverOk_kickTx (ok.of_parts ⟨ok.board.1.trans (by rw [hs]; rfl), ?_, ?_, ?_⟩ rfl rfl rfl (by rw [hs]; rfl) rfl
    (fun _ _ => .refl _) (fun _ => rfl) fun _ => ⟨rfl, rfl⟩)
  all_goals exact fun h => absurd h (by simp [Mbs.leave])

theorem admits_drives {x : MbsState} (h : x.admits = true) : x.railOn = true ∧ x.unheated = false ∧
    ¬(x = .powering ∨ x = .resetting) ∧ x ≠ .cycling ∧ x ≠ .lockout := by
  cases x <;> first | exact absurd h (by decide) | decide

/-- A move between BOOT, RUN and WARN. -/
theorem drivesOk_of_admits {m n : Mbs} (h : m.drivesOk) (hm : m.state.admits = true) (hn : n.state.admits = true)
    (hp : n.pwrEn = m.pwrEn) (hr : n.resetTimer = m.resetTimer) (hc : n.cycleTimer = m.cycleTimer)
    (hl : n.lockoutTimer = m.lockoutTimer) : n.drivesOk ∧ n.state.unheated = m.state.unheated := by
  obtain ⟨hpwr, hreset, hcycle, hlock⟩ := h
  obtain ⟨hon, hheated, hr0, hc0, hl0⟩ := admits_drives hm
  obtain ⟨hon', hheated', -⟩ := admits_drives hn
  refine ⟨⟨by rw [hp, hpwr, hon, hon'], fun h => ?_, fun h => ?_, fun h => ?_⟩, by rw [hheated, hheated']⟩
  · rw [hr] at h; exact absurd (hreset h) hr0
  · rw [hc] at h; exact absurd (hcycle h) hc0
  · rw [hl] at h; exact absurd (hlock h) hl0

theorem driverOk_enterWarn (hs : s.mbs.state = .run) (ok : DriverOk H F s) : DriverOk H F (enterWarn s) := by
  obtain ⟨hb, hu⟩ := drivesOk_of_admits (n := { s.mbs with
    state := .warn, heartbeatTimer := some (heartbeatTicks s.tbs.tables.policy) }) ok.board (by rw [hs]; rfl) rfl rfl
    rfl rfl rfl
  exact driverOk_offer _ (ok.setMbs hb rfl hu)

theorem driverOk_heartbeatExpired (ok : DriverOk H F s) : DriverOk H F (heartbeatExpired s) := by
  unfold heartbeatExpired
  split
  next h =>
    split
    · exact driverOk_enterWarn h ok
    · exact driverOk_restartDecision _ _ (driverOk_report _ _ ok)
  next => exact driverOk_restartDecision _ _ (driverOk_report _ _ ok)
  next => exact ok

theorem driverOk_acceptHeartbeat (token : Byte) (hs : s.mbs.state.admits = true) (ok : DriverOk H F s) :
    DriverOk H F (acceptHeartbeat token s) := by
  have h1 : DriverOk H F (s.setMbs { s.mbs with token := some token }) := ok.setMbs ok.board rfl rfl
  unfold acceptHeartbeat
  dsimp only
  split
  next h => exact driverOk_enterRun h h1
  next =>
    obtain ⟨hb, hu⟩ := drivesOk_of_admits (n := { s.mbs with
      token := some token, state := .run, heartbeatTimer := some (heartbeatTicks s.tbs.tables.policy) }) ok.board hs rfl
      rfl rfl rfl rfl
    exact driverOk_kickTx (h1.setMbs hb rfl hu)

theorem driverOk_shutdownExpired (ok : DriverOk H F s) : DriverOk H F (shutdownExpired s) := by
  unfold shutdownExpired
  split
  next h => exact driverOk_depart _ _ _ h ok
  next => exact ok

theorem driverOk_pgHigh (ok : DriverOk H F s) : DriverOk H F (pgHigh s) := by
  unfold pgHigh
  dsimp only
  split
  next h => exact ok.setMbs ⟨ok.board.1, fun _ => .inl h.1, ok.board.2.2⟩ rfl rfl
  next => exact ok.setMbs ok.board rfl rfl

theorem driverOk_pgLow (ok : DriverOk H F s) : DriverOk H F (pgLow s) := by
  have h1 : DriverOk H F (s.setMbs { s.mbs with mainPg := false }) := ok.setMbs ok.board rfl rfl
  unfold pgLow
  dsimp only
  split
  · exact driverOk_restartDecision _ _ (driverOk_report _ _ h1)
  · split
    · exact h1.setMbs ⟨ok.board.1, fun h => absurd h (by simp), ok.board.2.2⟩ rfl rfl
    · exact h1

/-! Time and expiries -/

theorem driverOk_elapse (n : Nat) (ok : DriverOk H F s) : DriverOk H F (elapse n s) := by
  obtain ⟨hp, hr, hc, hl⟩ := ok.board
  have hh := elapse_hfd n s
  refine ok.of_parts ?_ ?_ ?_ ?_ ?_ ?_ (fun _ i => ?_) (fun i => ?_) fun _ => ?_
  · rw [elapse_mbs]
    exact ⟨hp, by simpa [Mbs.elapse] using hr, by simpa [Mbs.elapse] using hc, by simpa [Mbs.elapse] using hl⟩
  case refine_7 => rw [hh]; exact .refl _
  case refine_9 => rw [hh]; exact ⟨rfl, by simp⟩
  case refine_6 => rw [hh]
  all_goals simp [Mbs.elapse]

/-- R66 to R84. The end of a supervisor timer that runs. -/
theorem driverOk_boardExpiry {e : BoardExpiry} (he : e ∈ boardExpiries) (ok : DriverOk H F s)
    (hrun : (e.timer s.mbs).isSome = true) : DriverOk H F (e.act s) := by
  obtain ⟨hp, hr, hc, hl⟩ := ok.board
  simp only [boardExpiries, List.mem_cons, List.not_mem_nil, or_false] at he
  rcases he with rfl | rfl | rfl | rfl | rfl | rfl | rfl
  · exact driverOk_shutdownExpired ok
  · exact driverOk_restartDecision _ _ (driverOk_report _ _ ok)
  · exact driverOk_enterBoot (hr hrun) ok
  · exact driverOk_restartDecision _ _ (driverOk_report _ _ ok)
  · exact driverOk_heartbeatExpired ok
  · exact driverOk_enterHeatHold false (by rw [hp, hc hrun]; rfl) ok
  · exact driverOk_wake _ _ (by rw [hp, hl hrun]; rfl) ok

theorem driverOk_settle (c : Instr) (u : State) (ok : DriverOk H F s) : DriverOk H F (settle c u s) := by
  have : ∀ l : List BoardExpiry, (∀ e ∈ l, e ∈ boardExpiries) → ∀ {t}, DriverOk H F t →
      DriverOk H F (l.foldl (fun t e =>
        if e.cmd ≠ c ∧ e.timer u.mbs = some 0 ∧ e.timer t.mbs = some 0 then e.act t else t) t) := by
    intro l
    induction l with
    | nil => exact fun _ _ ht => ht
    | cons e l ih =>
      intro hl t ht
      rw [List.foldl_cons]
      refine ih (fun e he => hl e (by simp [he])) ?_
      split
      next h => exact driverOk_boardExpiry (hl e (by simp)) ht (by rw [h.2.2]; rfl)
      next => exact ht
  exact this _ (fun _ he => he) ok

theorem driverOk_expire (c : Instr) (left : Option Nat) {act : State → State} (ok : DriverOk H F s)
    (hact : ∀ n, left = some n → DriverOk H F (elapse n s) → DriverOk H F (act (elapse n s))) :
    DriverOk H F (expire c left act s) := by
  unfold expire
  split
  · split
    · exact driverOk_settle _ _ (hact _ rfl (driverOk_elapse _ ok))
    · exact ok
  · exact ok

/-- The expiry command of a supervisor timer: the timer still runs once its ticks have passed. -/
theorem driverOk_expire_board {e : BoardExpiry} (he : e ∈ boardExpiries) (ok : DriverOk H F s) :
    DriverOk H F (expire e.cmd (e.timer s.mbs) e.act s) :=
  driverOk_expire _ _ ok fun n hn hu => driverOk_boardExpiry he hu (by
    rw [elapse_mbs, boardExpiries_elapse he, hn]; rfl)

/-! Keys and chords -/

theorem driverOk_touchTransition (c : Fin 20) (ok : DriverOk H F s) : DriverOk H F (touchTransition c s) := by
  unfold touchTransition
  dsimp only
  split
  · have h1 : DriverOk H F (syncChords (updKey c (fun k => { k with down := true }) s)) :=
      ok.of_view (by simp [driveView])
    (repeat' split)
    · exact h1
    · exact driverOk_wakeKey c h1
    · exact h1
    · exact h1.of_view (by simp [driveView])
  · exact ok

theorem driverOk_handTransition (c : Fin 20) (t : KeyTransition) (ok : DriverOk H F s) :
    DriverOk H F (handTransition c t s) := by
  cases t with
  | none => exact ok
  | touch => exact driverOk_touchTransition c ok
  | release cause => exact ok.of_view (by simp [driveView, handTransition])

theorem driverOk_reportScan (before : Tsu) (stuck : List Nat) (ok : DriverOk H F s) :
    DriverOk H F (reportScan before stuck s) :=
  driverOk_conditionChanged _ (driverOk_conditionChanged _ (driverOk_reportAll _ _ (driverOk_reportAll _ _
    (driverOk_reportAll _ _ ok))))

theorem driverOk_scanInstant (raw : Vector (BitVec 16) 22) (ok : DriverOk H F s) :
    DriverOk H F (scanInstant raw s) := by
  have hf : ∀ (l : List (Fin 20)) {u : State}, DriverOk H F u →
      DriverOk H F (l.foldl (fun acc c => handTransition c (scanKey raw s c).2 acc) u) := fun l => by
    induction l with
    | nil => exact fun hu => hu
    | cons c l ih => exact fun hu => ih (driverOk_handTransition c _ hu)
  have h := driverOk_reportScan s.tsu (stuckKeys raw s)
    (hf (List.finRange 20) (ok.of_view (t := s.setTsu (scanned raw s)) rfl))
  exact h.of_view (by simp [driveView, scanInstant])

theorem driverOk_repeatFires (c : Fin 20) (ok : DriverOk H F s) : DriverOk H F (repeatFires c s) := by
  unfold repeatFires repeatKey
  dsimp only
  (repeat' split) <;> exact ok.of_view (by simp [driveView])

theorem driverOk_chordAction (i : Fin 8) (a : ChordAction) (ok : DriverOk H F s) :
    DriverOk H F (chordAction i a s) := by
  cases a with
  | restart | cycle => exact driverOk_requestedRestart _ _ _ ok
  | powerOff => exact driverOk_powerOffChord i ok
  | powerOn => exact driverOk_powerOnChord i ok
  | heatOverride =>
    show DriverOk H F (overrideHeat s)
    unfold overrideHeat
    split
    · exact ok.of_parts ok.board rfl rfl rfl rfl rfl (fun _ _ => .refl _) (fun _ => rfl)
        fun _ => ⟨rfl, rfl⟩
    · exact ok
  | report => exact ok

theorem driverOk_fireUpTo (i : Fin 8) (ok : DriverOk H F s) : DriverOk H F (fireUpTo i s) := by
  unfold fireUpTo
  generalize (List.finRange 8).filter (· ≤ i) = l
  induction l generalizing s with
  | nil => exact ok
  | cons j l ih =>
    refine ih ?_
    unfold fireIfDue
    split
    · exact driverOk_chordAction j _ (driverOk_offer _ (ok.of_view (t := markFired j s) rfl))
    · exact ok

/-! Conversions and the filter window -/

theorem driverOk_reportFilter (l : Option Nat) (ok : DriverOk H F s) : DriverOk H F (reportFilter l s) := by
  cases l with
  | none => exact ok
  | some d => exact driverOk_report _ _ ok

/-- A change of the fan's tachometer, stall and window fields alone. -/
theorem DriverOk.setHfd (ok : DriverOk H F s) {h : Hfd} (hc : h.channels = s.hfd.channels)
    (hr : h.railChange = s.hfd.railChange) (hf : h.fanDuty = s.hfd.fanDuty) : DriverOk H F (s.setHfd h) :=
  ok.of_parts ok.board rfl rfl rfl rfl hr
    (fun _ i => by rw [setHfd_hfd, hc]; exact .refl _) (fun _ => rfl) fun _ => ⟨hf, rfl⟩

theorem driverOk_filterEnd (ok : DriverOk H F s) : DriverOk H F (filterEnd s) :=
  driverOk_reportFilter _ (ok.setHfd rfl rfl rfl)

theorem driverOk_countFilterSet (ok : DriverOk H F s) : DriverOk H F (countFilterSet s) := by
  unfold countFilterSet
  split
  · exact ok
  · dsimp only
    split
    · exact driverOk_reportFilter _ (ok.setHfd rfl rfl rfl)
    · exact ok.setHfd rfl rfl rfl

/-- R44, R35. The computation at a second boundary brings the duties up to date with the new set, and then the fan. -/
theorem driverOk_computed {u : State} (hb : u.mbs.drivesOk) (hr : H → u.hfd.railChange = .none) (ho : H → OutputsOk u) :
    DriverOk H F (recomputeFan (measureSpeed (zoneComputation u))) := by
  have hd : DriverOk H False (handDemands u.mbs.state.railOn (computeTimers (computeCutOuts u))) :=
    driverOk_recomputeDuties hb hr (fun h => (ho h).of_channels fun i => by simp [computeTimers, computeCutOuts])
      False.elim
  have hz : DriverOk H False (zoneComputation u) := hd.of_parts hd.board rfl rfl rfl rfl rfl
    (fun _ _ => .refl _) (fun _ => rfl) fun _ => ⟨rfl, rfl⟩
  exact driverOk_recomputeFan (hz.setHfd rfl rfl rfl)

theorem driverOk_secondBoundary (ok : DriverOk H F s) : DriverOk H F (secondBoundary s) := by
  have h := driverOk_countFilterSet (driverOk_computed (F := F)
    (u := s.setTmu (s.tmu.boundary (validPoints s.tbs.tables.curve))) ok.board (fun h => (ok.heat h).1)
    fun h => (ok.heat h).outputs)
  have hc := driverOk_conditionChanged 8 (driverOk_reportAll 8
    (cutOutEntries (s.setTmu (s.tmu.boundary (validPoints s.tbs.tables.curve)))) h)
  exact driverOk_judgeRelease (hc.of_parts hc.board rfl rfl rfl rfl rfl (fun _ _ => .refl _)
    (fun _ => rfl) fun _ => ⟨rfl, rfl⟩)

/-- A change of the Temperature Unit that keeps the last set. -/
theorem DriverOk.setTmu (ok : DriverOk H F s) {t : Tmu} (ht : t.lastSet = s.tmu.lastSet) : DriverOk H F (s.setTmu t) :=
  ok.of_parts ok.board rfl rfl rfl rfl rfl (fun _ _ => .refl _) (fun _ => rfl) fun _ => ⟨rfl, ht⟩

theorem driverOk_conversionInstant (codes : Vector (BitVec 12) 4) (ok : DriverOk H F s) :
    DriverOk H F (conversionInstant codes s) := by
  have h := driverOk_conditionChanged 5 (driverOk_reportAll 5 (newlyFailed s.tmu (s.tmu.convert codes))
    (ok.setTmu (t := s.tmu.convert codes) (by simp)))
  unfold conversionInstant
  dsimp only
  split
  · exact driverOk_secondBoundary h
  · exact h

end

end Sys2Proof.Machine
end

section
/-! Every step keeps the heaters' duties and the fan's duty up to date (R20, R23, R29 to R35). -/

namespace Sys2Proof.Machine

section
variable {H F : Prop} {s : State}

/-! Periods, trips and the fan -/

/-- R19. A new period changes neither a latch nor a demand; a channel that stays latched does not drive. -/
theorem openPeriod_drive (z : ZoneRecord) (c : HeaterChannel) : SameDrive c (openPeriod z c) := by
  unfold openPeriod
  dsimp only
  split
  next h => exact ⟨rfl, rfl, Iff.rfl, fun _ _ => rfl⟩
  next h =>
    split
    · exact ⟨rfl, rfl, by simp [h], fun _ hl => absurd hl h⟩
    · exact ⟨rfl, rfl, by simp [h], fun _ hl => absurd hl h⟩

/-- R26. The judgements of an ended period change no state, output, demand or duty. -/
theorem closePeriod_drive (peak : Nat) (c : HeaterChannel) : SameDrive c (closePeriod peak c) := by
  unfold closePeriod judgeTrip judgeLoad
  dsimp only
  (repeat' split) <;> exact .refl c

theorem driverOk_openPeriods (ok : DriverOk H F s) : DriverOk H F (openPeriods s) :=
  ok.of_parts ok.board rfl rfl rfl rfl rfl
    (fun _ i => by simpa [openPeriods] using openPeriod_drive (s.tbs.tables.zones[i]) (s.hfd.channels[i]))
    (fun _ => rfl) fun _ => ⟨rfl, rfl⟩

theorem driverOk_closePeriods (peaks : Fin 3 → Nat) (ok : DriverOk H F s) : DriverOk H F (closePeriods peaks s) :=
  driverOk_conditionChanged _ (driverOk_conditionChanged _ (driverOk_reportAll _ _
    (ok.of_parts ok.board rfl rfl rfl rfl rfl
      (fun _ i => by simpa [closedChannels] using closePeriod_drive (peaks i) s.hfd.channels[i])
      (fun i => by simp [syncDegraded]) fun _ => ⟨rfl, rfl⟩)))

/-- One channel replaced. -/
theorem upd_channel (v : Vector HeaterChannel 3) (i j : Fin 3) (f : HeaterChannel → HeaterChannel) :
    (upd v i f)[j] = if i = j then f v[j] else v[j] := by
  by_cases hj : i = j
  · subst hj; simp [upd]
  · have hne : (i : Nat) ≠ j := fun h => hj (Fin.ext h)
    simp [upd, Vector.getElem_set_ne _ _ hne, hj]

theorem driverOk_onTimeEnd (i : Fin 3) (ok : DriverOk H F s) : DriverOk H F (onTimeEnd i s) := by
  unfold onTimeEnd
  dsimp only
  split
  · refine ok.of_parts ok.board rfl rfl rfl rfl rfl (fun _ j => ?_) (fun _ => rfl) fun _ => ⟨rfl, rfl⟩
    rw [setHfd_hfd, upd_channel]
    split
    · exact ⟨rfl, rfl, Iff.rfl, fun _ _ => rfl⟩
    · exact .refl _
  · exact ok

/-- R22, R23. A trip keeps demand and duty, and switches the output off unless it leaves the channel as it was. -/
theorem tripAction_drive (c : HeaterChannel) : (tripAction c).applied = c.applied ∧ (tripAction c).demand = c.demand ∧
    (tripAction c = c ∨ (tripAction c).output = false) := by
  unfold tripAction
  (repeat' split) <;> simp [chopChannel, latchChannel]

/-- R22, R23, R31. A trip of a channel that is not latched; where it latches the channel the duties are recomputed. -/
theorem driverOk_actOnTrip (i : Fin 3) (ok : DriverOk H F s) (hi : H → (s.hfd.channels[i]).state ≠ .latchedOff) :
    DriverOk H F (actOnTrip i s) := by
  have hc : ∀ j : Fin 3, (upd s.hfd.channels i tripAction)[j] =
      if i = j then tripAction s.hfd.channels[j] else s.hfd.channels[j] := fun j => upd_channel _ _ _ _
  unfold actOnTrip
  dsimp only
  split
  next hl =>
    refine driverOk_recomputeDuties ok.board (fun h => (ok.heat h).1) (fun h j => ?_) fun h => ok.air h
    have ho := (ok.heat h).outputs j
    obtain ⟨-, -, heq | hout⟩ := tripAction_drive s.hfd.channels[j]
    · rw [setHfd_hfd, hc, heq]
      split <;> exact ho
    · rw [setHfd_hfd, hc]
      split
      · exact fun _ => hout
      · exact ho
  next hl =>
    refine ok.of_parts ok.board rfl rfl rfl rfl rfl (fun h j => ?_) (fun _ => rfl) fun _ => ⟨rfl, rfl⟩
    rw [setHfd_hfd, hc] at *
    split
    next hj =>
      subst hj
      obtain ⟨happ, hdem, -⟩ := tripAction_drive s.hfd.channels[i]
      rw [if_pos rfl] at hl
      exact ⟨happ, hdem, iff_of_false hl (hi h), fun _ hlatched => absurd hlatched (hi h)⟩
    next => exact .refl _

/-- R21 to R23. A trip comes while the output is on, so of a channel that is not latched. -/
theorem driverOk_heaterTrip (i : Fin 3) (current : Nat) (ok : DriverOk H F s) :
    DriverOk H F (heaterTrip i current s) := by
  unfold heaterTrip
  split
  case isFalse => exact ok
  case isTrue htrip =>
    have hon : (s.hfd.channels[i]).output = true := by
      unfold isTrip at htrip
      simp only [Bool.and_eq_true] at htrip
      exact htrip.1.1
    have hchan : ∀ j : Fin 3, (noteTrip i s).hfd.channels[j] = if i = j then { s.hfd.channels[j] with
        tripped := true, tripCondition := true } else s.hfd.channels[j] := fun j => upd_channel _ _ _ _
    have hnote : DriverOk H F (noteTrip i s) := ok.of_parts ok.board rfl rfl rfl rfl rfl
      (fun _ j => by rw [hchan]; split <;> exact .refl _) (fun _ => rfl) fun _ => ⟨rfl, rfl⟩
    refine driverOk_actOnTrip i (driverOk_report 6 i.val hnote) fun h => ?_
    rw [report_channel, hchan, if_pos rfl]
    exact fun hl => absurd ((ok.heat h).outputs i hl) (by rw [hon]; decide)

/-- R24, R31. The heaters released are recomputed. -/
theorem driverOk_releaseHeaters (ok : DriverOk H F s) : DriverOk H F (releaseHeaters s) := by
  have h : DriverOk H F (recomputeDuties (s.setHfd { s.hfd with
      channels := tab fun i =>
        if (s.hfd.channels[i]).state = .latchedOff then { s.hfd.channels[i] with state := .idle, tripCount := 0 }
        else s.hfd.channels[i] })) := by
    refine driverOk_recomputeDuties ok.board (fun h => (ok.heat h).1) (fun h i => ?_) fun h => ok.air h
    have ho := (ok.heat h).outputs i
    simp only [setHfd_hfd, Fin.getElem_fin, Vector.getElem_ofFn] at *
    split
    · exact fun h => nomatch h
    · exact ho
  exact h.of_parts h.board rfl rfl rfl rfl rfl (fun _ _ => .refl _)
    (fun i => by simp [releaseHeaters, syncDegraded]) fun _ => ⟨rfl, rfl⟩

theorem driverOk_tachPulse (ok : DriverOk H F s) : DriverOk H F (tachPulse s) := by
  unfold tachPulse
  dsimp only
  split
  · exact ok.setHfd rfl rfl rfl
  · split
    · exact driverOk_conditionChanged 9 (ok.setHfd rfl rfl rfl)
    · exact ok.setHfd rfl rfl rfl

theorem driverOk_stallFan (ok : DriverOk H F s) : DriverOk H F (stallFan s) :=
  driverOk_report 9 0 (ok.setHfd rfl rfl rfl)

/-! Table changes -/

theorem driverOk_touchTablesChanged (ok : DriverOk H F s) : DriverOk H F (touchTablesChanged s) :=
  driverOk_conditionChanged 11 (ok.of_view (t := rescan s.tsu.mode s) (by simp [driveView]))

theorem driverOk_noticeKeymap (old : Tables) (l : List (Fin 20)) (ok : DriverOk H F s) :
    DriverOk H F (noticeKeymap old l s) := by
  have hk : ∀ (c : Fin 20) {u : State}, DriverOk H F u → DriverOk H F (keymapChanged old c u) := fun c u hu => by
    unfold keymapChanged
    dsimp only
    (repeat' split) <;> exact hu.of_view (by simp [driveView, unmapKey, mapKey, remapKey])
  refine driverOk_touchTablesChanged ?_
  induction l generalizing s with
  | nil => exact ok
  | cons c l ih => exact ih (hk c ok)

/-- R58, R31, R35. A change of T2 recomputes the duties and the fan. -/
theorem driverOk_noticeHeat (named : List (Fin 3)) (hb : s.mbs.drivesOk) (hr : H → s.hfd.railChange = .none)
    (ho : H → OutputsOk s) : DriverOk H F (noticeHeat named s) := by
  refine driverOk_conditionChanged 8 (driverOk_reportAll 8 _ (driverOk_recomputeFan (driverOk_recomputeDuties hb hr
    (fun h i => ?_) False.elim)))
  have hi := ho h i
  simp only [zonesChanged, setHfd_hfd, Fin.getElem_fin, Vector.getElem_ofFn] at *
  split <;> exact hi

theorem driverOk_noticeReactions (named : List FaultKind) (ok : DriverOk H F s) :
    DriverOk H F (noticeReactions named s) :=
  driverOk_rejudgeRelease (ok.of_view rfl)

/-- R181. A change notice, of T2 in whatever tables, of another table where the zone records stand. -/
theorem driverOk_changeTables (t : Fin 7) (T : Tables) (named : List Nat) (ok : DriverOk H F s)
    (hT : t.val ≠ 2 ∨ named = [] → T.zones = s.tbs.tables.zones ∧ T.glob = s.tbs.tables.glob) :
    DriverOk H F (changeTables t T named s) := by
  have hw : t.val ≠ 2 ∨ named = [] →
      DriverOk H F (s.setTbs { s.tbs with tables := T, changed := s.tbs.changed.set t true }) := fun h =>
    ok.of_parts ok.board (hT h).1 (hT h).2 rfl rfl rfl (fun _ _ => .refl _) (fun _ => rfl) fun _ => ⟨rfl, rfl⟩
  unfold changeTables notice
  split
  next hn => exact hw (.inr (List.isEmpty_iff.1 hn))
  next =>
    split
    case h_1 ht => exact driverOk_noticeKeymap _ _ (hw (.inl (by omega)))
    case h_2 ht => exact driverOk_touchTablesChanged ((hw (.inl (by omega))).of_view rfl)
    case h_3 => exact driverOk_noticeHeat _ ok.board (fun h => (ok.heat h).1) fun h => (ok.heat h).outputs
    case h_4 ht => exact (hw (.inl (by omega))).of_view rfl
    case h_5 ht => exact driverOk_conditionChanged 5 (driverOk_reportAll 5 _ ((hw (.inl (by omega))).setTmu rfl))
    case h_6 ht => exact (hw (.inl (by omega))).setMbs ok.board rfl rfl
    case h_7 ht => exact driverOk_noticeReactions _ (hw (.inl (by omega)))
    case h_8 h0 h1 h2 _ _ _ _ => exact hw (.inl h2)

/-- R184. A TABLE WRITE of another table than T2 leaves the zone records and the global record. -/
theorem writtenTables_zones {old T : Tables} {t first count : Nat} {bs : List Byte}
    (h : writtenTables old t first count bs = some T) (ht : t ≠ 2) : T.zones = old.zones ∧ T.glob = old.glob := by
  obtain ⟨⟨-, -, hz, ⟨-, hg⟩, -⟩, -⟩ := (writtenTables_eq_some_iff old T t first count bs).1 h
  exact ⟨vector_eq_iff.2 fun i => (hz i).2 fun hn => ht hn.1, hg fun hn => ht hn.1⟩

/-- R185. So does a TABLE INVALIDATE, and one that names no entry. -/
theorem invalidatedTables_zones (T : Tables) {t first extra : Nat} (h : t ≠ 2 ∨ invalidatedIndexes t first extra = []) :
    (invalidatedTables T t first extra).zones = T.zones ∧ (invalidatedTables T t first extra).glob = T.glob := by
  unfold invalidatedTables
  rcases h with ht | hn
  · generalize invalidatedIndexes t first extra = l
    induction l generalizing T with
    | nil => exact ⟨rfl, rfl⟩
    | cons i l ih =>
      rw [List.foldl_cons, (ih _).1, (ih _).2]
      unfold clearValid
      (repeat' split) <;> first | exact ⟨rfl, rfl⟩ | exact absurd rfl ht
  · rw [hn]; exact ⟨rfl, rfl⟩

/-! Requests -/

theorem driverOk_reply (kind tag : Byte) (st : Status) (items : List Byte) (ok : DriverOk H F s) :
    DriverOk H F (reply kind tag st items s) := ok.of_view (by simp [driveView])

theorem driverOk_refuse (kind tag : Byte) (ok : DriverOk H F s) (st : Status) : DriverOk H F (refuse kind tag st s) :=
  driverOk_reply _ _ _ _ ok

theorem driverOk_serveTableWrite (tag : Byte) (p : List Byte) (ok : DriverOk H F s) :
    DriverOk H F (serveTableWrite tag p s) := by
  unfold serveTableWrite writeTable writeUnlocked
  (repeat' split) <;> try exact driverOk_refuse _ _ ok _
  next first count entries _ _ _ T hT =>
    refine driverOk_changeTables _ _ _ (driverOk_reply _ _ _ _ ok) fun h => ?_
    simp only [reply_keeps]
    refine writtenTables_zones hT (h.resolve_right fun hn => ?_)
    obtain ⟨-, -, hc, -⟩ := (writtenTables_eq_some_iff _ _ _ _ _ _).1 hT
    simp at hn
    omega

theorem driverOk_serveTableInvalidate (tag : Byte) (p : List Byte) (ok : DriverOk H F s) :
    DriverOk H F (serveTableInvalidate tag p s) := by
  refine withThreeBytes_induction (DriverOk H F) (driverOk_refuse _ _ ok) fun t first extra => ?_
  unfold invalidateTable
  (repeat' split) <;> try exact driverOk_refuse _ _ ok _
  refine checkedRequest_induction (DriverOk H F) (driverOk_refuse _ _ ok)
    (driverOk_changeTables _ _ _ (driverOk_reply _ _ _ _ ok) fun h => ?_)
  simp only [reply_keeps]
  exact invalidatedTables_zones _ h

theorem driverOk_serveHeartbeat (tag : Byte) (p : List Byte) (ok : DriverOk H F s) :
    DriverOk H F (serveHeartbeat tag p s) := by
  refine withOneByte_induction (DriverOk H F) (driverOk_refuse _ _ ok) fun a => ?_
  unfold heartbeatToken
  dsimp only
  split
  next h =>
    split
    · exact driverOk_reply _ _ _ _ ok
    · exact driverOk_acceptHeartbeat _ (by simpa using h) (driverOk_reply _ _ _ _ ok)
  next => exact driverOk_refuse _ _ ok _

theorem driverOk_servePowerRequest (tag : Byte) (p : List Byte) (ok : DriverOk H F s) :
    DriverOk H F (servePowerRequest tag p s) := by
  refine withTwoBytes_induction (DriverOk H F) (driverOk_refuse _ _ ok) fun a b =>
    checkedRequest_induction (DriverOk H F) (driverOk_refuse _ _ ok) ?_
  have hr : DriverOk H F (reply 0x20 tag .ok [] s) := driverOk_reply _ _ _ _ ok
  unfold powerAction
  split
  · exact driverOk_requestedRestart _ _ _ hr
  · exact driverOk_requestedRestart _ _ _ hr
  · exact hr.setMbs hr.board rfl rfl

/-- R164. -/
theorem driverOk_clearFaults (kind : Nat) (ok : DriverOk H F s) : DriverOk H F (clearFaults kind s) := by
  have h := driverOk_rejudgeRelease (ok.of_view (t := clearRecords kind s) rfl)
  unfold clearFaults
  dsimp only
  split
  · exact driverOk_releaseHeaters h
  · exact h

theorem driverOk_serveFaultClear (tag : Byte) (p : List Byte) (ok : DriverOk H F s) :
    DriverOk H F (serveFaultClear tag p s) :=
  withOneByte_induction (DriverOk H F) (driverOk_refuse _ _ ok) fun _ =>
    checkedRequest_induction (DriverOk H F) (driverOk_refuse _ _ ok)
      (driverOk_clearFaults _ (driverOk_reply _ _ _ _ ok))

/-- A change of the Table Store that keeps the live tables. -/
theorem DriverOk.setTbs (ok : DriverOk H F s) {b : Tbs} (h : b.tables = s.tbs.tables) : DriverOk H F (s.setTbs b) :=
  ok.of_parts ok.board (congrArg Tables.zones h) (congrArg Tables.glob h) rfl rfl rfl (fun _ _ => .refl _) (fun _ => rfl)
    fun _ => ⟨rfl, rfl⟩

theorem driverOk_saveCompletion (verified : Bool) (ok : DriverOk H F s) : DriverOk H F (saveCompletion verified s) := by
  unfold saveCompletion
  (repeat' split)
  · exact driverOk_offer _ (ok.setTbs rfl)
  · exact driverOk_offer _ (driverOk_report 14 1 (ok.setTbs rfl))
  · exact ok

/-- R173. A request of whatever KIND. -/
theorem driverOk_serveKind (kind tag : Byte) (p : List Byte) (ok : DriverOk H F s) :
    DriverOk H F (serveKind kind tag p s) := by
  have hr := fun kind items => driverOk_reply kind tag .ok items ok
  have hn := fun kind => driverOk_refuse kind tag ok
  unfold serveKind
  split
  case h_1 => exact withNoPayload_induction (DriverOk H F) (hn _) (hr _ _)
  case h_2 => exact driverOk_serveHeartbeat tag p ok
  case h_3 => exact withOneByte_induction (DriverOk H F) (hn _) fun _ =>
    checkedRequest_induction (DriverOk H F) (hn _) (hr _ _)
  case h_4 => exact withThreeBytes_induction (DriverOk H F) (hn _) fun _ _ _ =>
    checkedRequest_induction (DriverOk H F) (hn _) (hr _ _)
  case h_5 => exact driverOk_serveTableWrite tag p ok
  case h_6 => exact driverOk_serveTableInvalidate tag p ok
  case h_7 => exact withTwoBytes_induction (DriverOk H F) (hn _) fun _ _ =>
    checkedRequest_induction (DriverOk H F) (hn _) ((hr _ _).setTbs rfl)
  case h_8 =>
    refine withNoPayload_induction (DriverOk H F) (hn _) ?_
    unfold saveStore
    split
    · exact hn _ _
    · exact (hr _ _).setTbs rfl
  case h_9 => exact driverOk_servePowerRequest tag p ok
  case h_10 =>
    refine withTwoBytes_induction (DriverOk H F) (hn _) fun _ _ => checkedRequest_induction (DriverOk H F) (hn _) ?_
    unfold readDepth
    (repeat' split) <;> exact driverOk_reply _ _ _ _ ok
  case h_11 => exact checkedRequest_induction (DriverOk H F) (hn _) (driverOk_pushHistory _ (hr _ _))
  case h_12 => exact withNoPayload_induction (DriverOk H F) (hn _) ((hr _ _).of_view rfl)
  case h_13 =>
    refine withThreeBytes_induction (DriverOk H F) (hn _) fun _ _ _ => ?_
    unfold panelLevel
    split
    · exact checkedRequest_induction (DriverOk H F) (hn _) (driverOk_reply _ _ _ _ (ok.of_view rfl))
    · exact hn _ _
  case h_14 =>
    refine withOneByte_induction (DriverOk H F) (hn _) fun _ => ?_
    unfold readFault
    split
    · exact hr _ _
    · exact hn _ _
  case h_15 => exact driverOk_serveFaultClear tag p ok
  case h_16 => exact withOneByte_induction (DriverOk H F) (hn _) fun _ =>
    checkedRequest_induction (DriverOk H F) (hn _) (hr _ _)
  case h_17 => exact hn _ _

/-! The link -/

theorem driverOk_takeRequest {serve : State → State} (hs : ∀ {u}, DriverOk H F u → DriverOk H F (serve u))
    (ok : DriverOk H F s) : DriverOk H F (takeRequest serve s) := by
  have hr : DriverOk H F (rxTaken s) := ok.of_view rfl
  unfold takeRequest
  split
  · exact driverOk_report 0 4 hr
  · exact hs hr

theorem driverOk_enterResync (d : Nat) (ok : DriverOk H F s) : DriverOk H F (enterResync d s) :=
  driverOk_report 0 d (ok.of_view rfl)

theorem driverOk_goodChar (b : Byte) (ok : DriverOk H F s) : DriverOk H F (goodChar b s) := by
  have hc : ∀ {u}, DriverOk H F u → DriverOk H F (checkFrame u) := fun hu => by
    unfold checkFrame
    split
    · split
      · exact driverOk_takeRequest (driverOk_serveKind _ _ _) hu
      · exact hu
    · exact driverOk_enterResync 3 hu
  have hb : DriverOk H F (lineBusy s) := ok.of_view rfl
  unfold goodChar
  dsimp only
  split
  · unfold takeHunt
    split
    · exact hb.of_view rfl
    · exact hb
  · unfold takeLength
    split
    · exact hb.of_view rfl
    · exact driverOk_enterResync 0 hb
  · unfold takeBody
    dsimp only
    split
    · exact hc (hb.of_view rfl)
    · exact hb.of_view rfl
  · exact hb
  · exact hb

/-! Power -/

/-- R40, R86. At power-on nothing is demanded and the rail is off. -/
theorem driverOk_atPowerOn (rate : Bool) (T : Tables) (load : LoadResult) (image : Image) (pending : List Instr) :
    DriverOk H F (State.atPowerOn rate T load image pending) := by
  have hd : ∀ i : Fin 3, effectiveDemand (State.atPowerOn rate T load image pending) i = 0 := fun i => by
    simp [effectiveDemand, State.atPowerOn, Hfd.powerOn, HeaterChannel.powerOn]
  refine ⟨⟨rfl, ?_, ?_, ?_⟩, fun _ => ⟨rfl, fun i => ?_⟩, fun _ => rfl⟩
  iterate 3 exact fun h => absurd h Bool.false_ne_true
  refine ⟨?_, fun h => ?_⟩
  · have h0 := scaledDuty_le T (effectiveDemand (State.atPowerOn rate T load image pending))
      (allotment (State.atPowerOn rate T load image pending)) i
    rw [hd i, Nat.le_zero] at h0
    rw [newDuty_eq _ rfl i]
    exact Eq.trans (by simp [State.atPowerOn, Hfd.powerOn, HeaterChannel.powerOn]) h0.symm
  · simp [State.atPowerOn, Hfd.powerOn, HeaterChannel.powerOn]

theorem driverOk_powerOn (rate : Bool) (image : Image) (pending : List Instr) :
    DriverOk H F (powerOn rate image pending) := by
  have h : ∀ T load, DriverOk H F (State.atPowerOn rate T load image pending) := fun T load => driverOk_atPowerOn ..
  unfold powerOn
  dsimp only
  split
  · split
    · exact driverOk_recordOccurrence _ _ (h _ _)
    · exact h _ _
  · split
    · exact driverOk_recordOccurrence _ _ (driverOk_recordOccurrence _ _ (h _ _))
    · exact driverOk_recordOccurrence _ _ (h _ _)

/-! Commands -/

theorem driverOk_commandEffect (c : Instr) (ok : DriverOk H F s) : DriverOk H F (commandEffect c s) := by
  have hboard := fun {e : BoardExpiry} (he : e ∈ boardExpiries) => driverOk_expire_board he ok
  have hrequest : ∀ kind tag p, DriverOk H F (takeRequest (serveKind kind tag p) s) := fun kind tag p =>
    driverOk_takeRequest (driverOk_serveKind kind tag p) ok
  cases c with
  | partPowerOn | partPowerOff => exact ok
  | conversionInstant => exact driverOk_conversionInstant _ ok
  | suspectTimerExpiry i =>
    rw [commandEffect, suspectExpiry]
    split
    · exact driverOk_conversionInstant _ ok
    · exact ok
  | filterWindowEnd => exact driverOk_filterEnd ok
  | periodStart => exact driverOk_openPeriods (driverOk_closePeriods _ ok)
  | heaterTrip => exact driverOk_heaterTrip _ _ ok
  | heaterOnTimeEnd => exact driverOk_onTimeEnd _ ok
  | fanTachPulse => exact driverOk_tachPulse ok
  | stallTimerExpiry => exact driverOk_expire _ _ ok fun _ _ => driverOk_stallFan
  | mainPgHigh => exact driverOk_pgHigh ok
  | powerGoodLoss => exact driverOk_pgLow ok
  | pendingShutdownExpiry => exact hboard (.head _)
  | pgTimeout => exact hboard (.tail _ (.head _))
  | resetPulseExpiry => exact hboard (.tail _ (.tail _ (.head _)))
  | bootTimeout => exact hboard (.tail _ (.tail _ (.tail _ (.head _))))
  | heartbeatExpiry => exact hboard (.tail _ (.tail _ (.tail _ (.tail _ (.head _)))))
  | cycleTimerExpiry => exact hboard (.tail _ (.tail _ (.tail _ (.tail _ (.tail _ (.head _))))))
  | lockoutRetryExpiry => exact hboard (.tail _ (.tail _ (.tail _ (.tail _ (.tail _ (.tail _ (.head _)))))))
  | stableTimeReached => exact driverOk_expire _ _ ok fun _ _ hu => hu.setMbs hu.board rfl rfl
  | scan raw =>
    rw [commandEffect]
    dsimp only
    split
    · exact driverOk_scanInstant raw ok
    · exact ok
  | stuckTimerExpiry => exact driverOk_expire _ _ ok fun _ _ => driverOk_scanInstant _
  | repeatDue => exact driverOk_expire _ _ ok fun _ _ => driverOk_repeatFires _
  | chordFire => exact driverOk_expire _ _ ok fun _ _ => driverOk_fireUpTo _
  | ident tag p => exact hrequest 0x01 tag p
  | heartbeat tag p => exact hrequest 0x02 tag p
  | statusRead tag p => exact hrequest 0x03 tag p
  | tableRead tag p => exact hrequest 0x10 tag p
  | tableWrite tag p => exact hrequest 0x11 tag p
  | tableInvalidate tag p => exact hrequest 0x12 tag p
  | tableLock tag p => exact hrequest 0x13 tag p
  | storeSave tag p => exact hrequest 0x14 tag p
  | powerRequest tag p => exact hrequest 0x20 tag p
  | historyRead tag p => exact hrequest 0x30 tag p
  | historyMark tag p => exact hrequest 0x31 tag p
  | historyClear tag p => exact hrequest 0x32 tag p
  | panelSet tag p => exact hrequest 0x40 tag p
  | faultRead tag p => exact hrequest 0x50 tag p
  | faultClear tag p => exact hrequest 0x51 tag p
  | touchRead tag p => exact hrequest 0x60 tag p
  | unknownKind kind tag =>
    rw [commandEffect]
    split
    · exact ok
    · exact driverOk_takeRequest (fun hu => driverOk_refuse _ _ hu _) ok
  | badLengthByte len =>
    rw [commandEffect, badLength]
    split
    · exact driverOk_enterResync 0 (ok.of_view rfl)
    · exact ok
  | badCharacter =>
    rw [commandEffect, badChar]
    split
    · exact driverOk_enterResync 2 (ok.of_view rfl)
    · exact ok.of_view rfl
  | gapTimeout =>
    rw [commandEffect, gapExpired]
    split
    · exact driverOk_enterResync 1 (ok.of_view rfl)
    · exact ok
  | crcMismatch => exact driverOk_enterResync 3 (ok.of_view rfl)
  | resyncIdle =>
    rw [commandEffect, idleLine]
    split
    · exact ok.of_view rfl
    · exact ok
  | overrun =>
    rw [commandEffect, overrun]
    split
    · exact driverOk_report 0 4 (ok.of_view rfl)
    · exact ok
  | txFrameEnd =>
    rw [commandEffect, txEnd]
    split
    · exact ok
    · exact driverOk_kickTx (ok.of_view rfl)
    · exact driverOk_kickTx (ok.of_view rfl)
  | saveCompletion verified => exact driverOk_saveCompletion verified ok
  | goodCharacter b => exact driverOk_goodChar b ok

theorem driverOk_exec (c : Instr) {t : State} (ok : DriverOk H F s) (ht : exec c s = .next t) : DriverOk H F t := by
  by_cases hon : ∃ r, c = .partPowerOn r
  · obtain ⟨rate, rfl⟩ := hon
    cases ht
    exact (driverOk_powerOn rate _ s.pending).of_view rfl
  by_cases hoff : c = .partPowerOff
  · subst hoff
    cases ht
    split
    · exact (driverOk_atPowerOn false defaultTables .defaults (imageAfterLoss s.tbs) s.pending).of_view rfl
    · exact ok
  rw [exec_eq_effect c s (fun r hr => hon ⟨r, hr⟩) hoff, whenPowered] at ht
  split at ht <;> cases ht
  · exact (driverOk_commandEffect c ok).of_view (by simp [driveView])
  · exact ok

/-- A step runs the front command, or idles, which moves timers at most. -/
theorem driverOk_step {t : State} (ok : DriverOk H F s) (ht : step s = .next t) : DriverOk H F t := by
  unfold step at ht
  split at ht
  next c rest _ => exact driverOk_exec c (ok.of_view (t := { s with pending := rest }) rfl) ht
  next =>
    cases ht
    unfold idle
    (repeat' split)
    · exact ok.of_view rfl
    · exact driverOk_elapse 1 ok
    · exact ok

end

/-- Settles O9: by the driver's invariant, of the heaters alone. -/
theorem everyStepKeepsTheDutiesUpToDate : Obligations.EveryStepKeepsTheDutiesUpToDate := fun _ _ hs hh ht =>
  (driverOk_step (H := True) (F := False) ⟨hs.drivesOk, fun _ => hh, False.elim⟩ ht).heat trivial

/-- Settles O29: by the rows of the fan's table, by what a duty does, and by the driver's invariant, of the fan
alone. -/
theorem theFanDutyFollowsItsTable : Obligations.TheFanDutyFollowsItsTable := by
  refine ⟨fun s => ?_, fun d s => setFanDuty_effect d s, fun _ _ hs hf ht =>
    (driverOk_step (H := False) (F := True) ⟨hs.drivesOk, False.elim, fun _ => hf⟩ ht).air trivial⟩
  have h := fanDutyNow_rows s
  simp only [zoneBelowRelease_iff] at h
  exact h

end Sys2Proof.Machine
end

section
/-! SUPPORT. What reports and changed conditions leave alone while nothing restarts and nothing is switched on (R155, R156,
R160, R161), and what a restart leaves of the fan (R36 to R38). -/

namespace Sys2Proof.Machine

/-! Records, queue and transmitter alone -/

/-- R155, R160, R175. From `s` to `t` the records, the event queue and what the transmitter sends have moved alone. -/
def RecordsMoved (s t : State) : Prop :=
  t = { s with fcl := t.fcl, keq := { s.keq with queue := t.keq.queue }, slp := { s.slp with tx := t.slp.tx } }

section
variable {s t u : State}

theorem RecordsMoved.refl (s : State) : RecordsMoved s s := rfl

theorem RecordsMoved.trans (h : RecordsMoved s t) (h' : RecordsMoved t u) : RecordsMoved s u := by
  unfold RecordsMoved at *
  rw [h] at h'
  exact h'

theorem RecordsMoved.tick (h : RecordsMoved s t) : t.tick = s.tick := (congrArg State.tick h :)
theorem RecordsMoved.tmu (h : RecordsMoved s t) : t.tmu = s.tmu := (congrArg State.tmu h :)
theorem RecordsMoved.hfd (h : RecordsMoved s t) : t.hfd = s.hfd := (congrArg State.hfd h :)
theorem RecordsMoved.znc (h : RecordsMoved s t) : t.znc = s.znc := (congrArg State.znc h :)
theorem RecordsMoved.mbs (h : RecordsMoved s t) : t.mbs = s.mbs := (congrArg State.mbs h :)
theorem RecordsMoved.tsu (h : RecordsMoved s t) : t.tsu = s.tsu := (congrArg State.tsu h :)
theorem RecordsMoved.tbs (h : RecordsMoved s t) : t.tbs = s.tbs := (congrArg State.tbs h :)
theorem RecordsMoved.keys (h : RecordsMoved s t) : t.keq.keys = s.keq.keys := (congrArg (·.keq.keys) h :)
theorem RecordsMoved.chords (h : RecordsMoved s t) : t.keq.chords = s.keq.chords := (congrArg (·.keq.chords) h :)

theorem recordsMoved_recordOccurrence (k : FaultKind) (d : Nat) (s : State) :
    RecordsMoved s (recordOccurrence k d s) := recordOccurrence_eq k d s

/-- R160. A report whose RESTART reaction is off. -/
theorem recordsMoved_report {k : FaultKind} (h : (reactionInForce s.tbs.tables k).restart = false) (d : Nat) :
    RecordsMoved s (report k d s) := by
  rw [report_eq_record k d s (.inr h)]
  exact recordsMoved_recordOccurrence k d s

theorem recordsMoved_reportAll {k : FaultKind} (h : (reactionInForce s.tbs.tables k).restart = false) (l : List Nat) :
    RecordsMoved s (reportAll k l s) := by
  unfold reportAll
  induction l generalizing s with
  | nil => exact .refl s
  | cons d l ih =>
    have hr := recordsMoved_report h d
    exact hr.trans (ih (by rw [hr.tbs]; exact h))

/-- R64. Nothing is switched on outside HEAT_HOLD or without the release condition. -/
theorem judgeRelease_stays (h : s.mbs.state ≠ .heatHold ∨ s.znc.release = false) : judgeRelease s = s :=
  if_neg fun ⟨hm, hr, _⟩ => h.elim (· hm) fun h => by simp [h] at hr

/-- R64, R161. A judgement that switches nothing on moves the two conditions alone. -/
theorem rejudgeRelease_stays (h : s.fcl.hold = false ∨ s.mbs.state ≠ .heatHold ∨ s.znc.release = false) :
    rejudgeRelease s = rejudge s := by
  unfold rejudgeRelease
  split
  next hc =>
    rcases h with h | h
    · rw [h] at hc; exact absurd hc.1 Bool.false_ne_true
    · exact judgeRelease_stays h
  next => rfl

/-- R156. The end of a condition that switches nothing on moves the Fault Collector alone. -/
theorem conditionChanged_stays (k : FaultKind)
    (h : s.fcl.hold = false ∨ s.mbs.state ≠ .heatHold ∨ s.znc.release = false) :
    conditionChanged k s = s.setFcl (conditionChanged k s).fcl := by
  unfold conditionChanged
  dsimp only
  split
  · rw [rejudgeRelease_stays (s := setRecord k _ s) h]; rfl
  · rfl

theorem recordsMoved_conditionChanged (k : FaultKind)
    (h : s.fcl.hold = false ∨ s.mbs.state ≠ .heatHold ∨ s.znc.release = false) :
    RecordsMoved s (conditionChanged k s) := by
  unfold RecordsMoved
  rw [conditionChanged_stays k h]
  rfl

/-- R155, R156. The reports of one kind and the end of its condition. -/
theorem recordsMoved_reported {k : FaultKind} (hr : (reactionInForce s.tbs.tables k).restart = false)
    (h : s.mbs.state ≠ .heatHold ∨ s.znc.release = false) (l : List Nat) :
    RecordsMoved s (conditionChanged k (reportAll k l s)) := by
  have hrep := recordsMoved_reportAll hr l
  exact hrep.trans (recordsMoved_conditionChanged k (.inr (by rw [hrep.mbs, hrep.znc]; exact h)))

/-- R155, R156. What has begun at one instant is counted, each index once; the condition does not end in the same
instant (log entry 29). -/
theorem CountedEach.of_changed {n : Nat} {k : FaultKind} (hk : k ≠ 15) {began : Fin n → Bool} {l : List Nat}
    (hlen : l.length = ((List.finRange n).filter began).length)
    (hone : ∀ i, (List.finRange n).filter began = [i] → l = [i.val]) (hfcl : u.fcl = s.fcl) (hu : u.tick = s.tick)
    (ht : t.tick = s.tick) (hcond : l ≠ [] → faultCondition (reportAll k l u) k = true)
    (hrec : t.fcl.records[k] = (conditionChanged k (reportAll k l u)).fcl.records[k]) : CountedEach s t k began := by
  have hall := reportAll_record_same hk l u
  rw [hfcl, hu] at hall
  refine ⟨?_, fun i hi => .of_occur ht ?_⟩
  · rw [← hlen]
    refine .of_reported ht ?_
    rw [conditionChanged_record_same, hall] at hrec
    rw [hrec]
  · have hl := hone i hi
    rw [conditionChanged_present (hcond (by simp [hl])), hall, hl] at hrec
    exact hrec

/-! The fan over a restart -/

/-- R36, R38. From `s` to `t` the F10 occurrence that is due stands, and a stalled fan stays so. -/
def FanKept (s t : State) : Prop :=
  t.hfd.loadedFilter = s.hfd.loadedFilter ∧
  (s.hfd.fanState = .stalled → s.hfd.stall = none → t.hfd.fanState = .stalled ∧ t.hfd.stall = none)

theorem FanKept.of_eq (hl : t.hfd.loadedFilter = s.hfd.loadedFilter) (hf : t.hfd.fanState = s.hfd.fanState)
    (hs : t.hfd.stall = s.hfd.stall) : FanKept s t := by
  unfold FanKept
  rw [hl, hf, hs]
  exact ⟨rfl, fun h hn => ⟨h, hn⟩⟩

theorem FanKept.of_hfd (h : t.hfd = s.hfd) : FanKept s t := .of_eq (by rw [h]) (by rw [h]) (by rw [h])

theorem FanKept.trans (a : FanKept s t) (b : FanKept t u) : FanKept s u :=
  ⟨b.1.trans a.1, fun hs hn => b.2 (a.2 hs hn).1 (a.2 hs hn).2⟩

theorem fanKept_recomputeFan (s : State) : FanKept s (recomputeFan s) :=
  ⟨rfl, fun hs _ => by simp [recomputeFan, setFanDuty, fanStateAt, stallTimerAt, hs]⟩

theorem fanKept_railMoved (s : State) : FanKept s (railMoved s) := by
  have hd : FanKept s (recomputeDuties (setRailChange .none s)) := .of_eq rfl rfl rfl
  exact (hd.trans (fanKept_recomputeFan _)).trans (.of_hfd (by simp [railMoved]))

theorem fanKept_switchOff (new : MbsState) (s : State) : FanKept s (switchOff new s) := by
  have hd : FanKept s (recomputeDuties (setRailChange (.switchOff new.unheated) s)) := .of_eq rfl rfl rfl
  exact (hd.trans (.of_hfd (setMbs_hfd _ _))).trans (fanKept_railMoved _)

theorem departCommon_hfd (cause : Cause) (d : Nat) (stage : Stage) (s : State) :
    (departCommon cause d stage s).hfd = { s.hfd with filter := none } := by simp [departCommon]

theorem fanKept_depart (cause : Cause) (d : Nat) (stage : Stage) (s : State) : FanKept s (depart cause d stage s) := by
  have hc : FanKept s (departCommon cause d stage s) := by
    refine .of_eq ?_ ?_ ?_ <;> rw [departCommon_hfd]
  unfold depart
  dsimp only
  split
  · exact hc.trans (.of_hfd (setMbs_hfd _ _))
  · exact hc.trans (fanKept_switchOff _ _)

theorem fanKept_restartDecision (cause : Cause) (d : Nat) (s : State) : FanKept s (restartDecision cause d s) := by
  unfold restartDecision
  split
  · refine FanKept.trans (.of_hfd ?_) (fanKept_depart _ _ _ _)
    split <;> simp
  · exact .of_hfd rfl

theorem fanKept_report (k : FaultKind) (d : Nat) (s : State) : FanKept s (report k d s) := by
  have hr : FanKept s (recordOccurrence k d s) := .of_hfd (by simp)
  unfold report
  dsimp only
  split
  · exact hr.trans (fanKept_restartDecision _ _ _)
  · exact hr

end

end Sys2Proof.Machine
end

section
/-! The filter window (R37, R38) and the fan's stall (R36). -/

namespace Sys2Proof.Machine

/-! Counting a set -/

/-- R38. A window with the full-duty mark is judged by the difference of two temperatures that can be read. -/
theorem filterVerdict_rows (s : State) (w : FilterWindow) :
    let r0 := lastReading s 0
    let r3 := lastReading s 3
    (∀ a b, r0.temp = some a → r3.temp = some b → r0.health ≠ .failed → r3.health ≠ .failed →
      (w.fullDuty = true → s.tbs.tables.glob.filterDelta ≤ a - b →
        filterVerdict s w = some (min 255 ((a - b).tdiv 10).toNat)) ∧
      (w.fullDuty = false ∨ a - b < s.tbs.tables.glob.filterDelta → filterVerdict s w = none)) ∧
    (r0.health = .failed ∨ r3.health = .failed ∨ r0.temp = none ∨ r3.temp = none → filterVerdict s w = none) := by
  refine ⟨fun a b ha hb h0 h3 => ?_, fun h => ?_⟩
  · have hd : filterDifference s = some (a - b) := by simp [filterDifference, ha, hb, h0, h3]
    refine ⟨fun hf hle => ?_, fun h => ?_⟩
    · simp [filterVerdict, hd, hf, hle]
    · have : ¬(w.fullDuty = true ∧ s.tbs.tables.glob.filterDelta ≤ a - b) := by
        rintro ⟨hf, hle⟩
        rcases h with h | h
        · exact absurd (h.symm.trans hf) Bool.false_ne_true
        · omega
      simp only [filterVerdict, hd, if_neg this]
  · have hd : filterDifference s = none := by
      unfold filterDifference
      dsimp only
      split
      next a b ha hb => exact if_pos (by simpa [ha, hb] using h)
      next => rfl
    simp [filterVerdict, hd]

/-- R37, R38. A set counted where no earlier report waits: the window goes on, or ends, is judged and the next
begins. -/
theorem countFilterSet_counts {s : State} {w : FilterWindow} (hw : s.hfd.filter = some w)
    (hn : s.hfd.loadedFilter = none) :
    (w.sets + 1 < 600 → countFilterSet s = s.setHfd { s.hfd with filter := some { w with sets := w.sets + 1 } }) ∧
    (600 ≤ w.sets + 1 → countFilterSet s = s.setHfd { s.hfd with
      filter := some (newFilterWindow s), loadedFilter := filterVerdict s { w with sets := w.sets + 1 } }) := by
  refine ⟨fun h => ?_, fun h => ?_⟩
  · have : ¬Config.filterSets ≤ w.sets + 1 := by unfold Config.filterSets; omega
    simp [countFilterSet, hw, this]
  · have : Config.filterSets ≤ w.sets + 1 := h
    simp [countFilterSet, hw, this, endFilterWindow, hn, reportFilter]

/-- The state in which a second boundary counts its set. -/
def boundaryComputed (s : State) : State :=
  recomputeFan (measureSpeed (zoneComputation (s.setTmu (s.tmu.boundary (validPoints s.tbs.tables.curve)))))

/-- R34 to R38. What stands of the window and of everything that is not computed. -/
theorem boundaryComputed_filter (s : State) :
    (boundaryComputed s).hfd.filter = s.hfd.filter.map (fun w =>
      { w with fullDuty := w.fullDuty && decide (1000 ≤ (boundaryComputed s).hfd.fanDuty) }) ∧
    (boundaryComputed s).hfd.loadedFilter = s.hfd.loadedFilter ∧ (boundaryComputed s).mbs = s.mbs ∧
    (boundaryComputed s).tbs = s.tbs ∧ (boundaryComputed s).fcl = s.fcl ∧
    (boundaryComputed s).tmu = s.tmu.boundary (validPoints s.tbs.tables.curve) := by
  have hr : ∀ u : State, (recomputeFan u).hfd.filter = u.hfd.filter.map fun w =>
      { w with fullDuty := w.fullDuty && decide (1000 ≤ (recomputeFan u).hfd.fanDuty) } := fun _ => rfl
  exact ⟨hr _, rfl, rfl, rfl, rfl, by simp [boundaryComputed, measureSpeed]⟩

/-- R44, R64. Outside HEAT_HOLD, and while F8 restarts nothing, the window is left as its set was counted. -/
theorem secondBoundary_filter {s : State} (hm : s.mbs.state ≠ .heatHold)
    (hr : (reactionInForce s.tbs.tables 8).restart = false) {w : FilterWindow} (hw : s.hfd.filter = some w)
    (hn : s.hfd.loadedFilter = none) :
    (secondBoundary s).hfd = (countFilterSet (boundaryComputed s)).hfd ∧
    (secondBoundary s).fcl.records[10] = s.fcl.records[10] := by
  obtain ⟨hfilter, hloaded, hmbs, htbs, hfcl, -⟩ := boundaryComputed_filter s
  have hset : ∃ h, countFilterSet (boundaryComputed s) = (boundaryComputed s).setHfd h := by
    rw [hw] at hfilter
    obtain ⟨hgoes, hends⟩ := countFilterSet_counts hfilter (hloaded.trans hn)
    by_cases h : w.sets + 1 < 600
    · exact ⟨_, hgoes h⟩
    · exact ⟨_, hends (Nat.le_of_not_lt h)⟩
  obtain ⟨h, hset⟩ := hset
  have hrep : RecordsMoved ((boundaryComputed s).setHfd h) (conditionChanged 8 (reportAll 8
      (cutOutEntries (s.setTmu (s.tmu.boundary (validPoints s.tbs.tables.curve)))) ((boundaryComputed s).setHfd h))) :=
    recordsMoved_reported (by rw [setHfd_tbs, htbs]; exact hr) (.inl (by rw [setHfd_mbs, hmbs]; exact hm)) _
  have hsb : secondBoundary s = handRelease _ (conditionChanged 8 (reportAll 8
      (cutOutEntries (s.setTmu (s.tmu.boundary (validPoints s.tbs.tables.curve))))
      (countFilterSet (boundaryComputed s)))) := rfl
  rw [hset] at hsb ⊢
  rw [hsb, handRelease, judgeRelease_stays (.inl (by rw [setZnc_mbs, hrep.mbs, setHfd_mbs, hmbs]; exact hm))]
  refine ⟨hrep.hfd, ?_⟩
  have h10 : (10 : FaultKind) ≠ 8 := by decide
  exact (conditionChanged_record_ne h10 _).trans ((reportAll_record_ne h10 (by decide) _ _).trans
    (congrArg (fun f : Fcl => f.records[10]) hfcl))

/-- R1, R44. Where F5 restarts nothing, a second boundary follows an instant that has moved the temperatures and the
records alone. -/
theorem conversionInstant_boundary {s : State} (codes : Vector (BitVec 12) 4) (h8 : (s.tmu.instants + 1) % 8 = 0)
    (hm : s.mbs.state ≠ .heatHold) (hr : (reactionInForce s.tbs.tables 5).restart = false) :
    ∃ u, conversionInstant codes s = secondBoundary u ∧ RecordsMoved (s.setTmu (s.tmu.convert codes)) u ∧
      u.fcl.records[10] = s.fcl.records[10] := by
  refine ⟨conditionChanged 5 (reportAll 5 (newlyFailed s.tmu (s.tmu.convert codes)) (s.setTmu (s.tmu.convert codes))),
    ?_, recordsMoved_reported (s := s.setTmu (s.tmu.convert codes)) hr (.inl hm) _, ?_⟩
  · rw [conversionInstant, convert_instants, if_pos h8]
  · have h10 : (10 : FaultKind) ≠ 5 := by decide
    exact (conditionChanged_record_ne h10 _).trans (reportAll_record_ne h10 (by decide) _ _)

/-- Settles O24: by what one counted set makes of the window, and by the report of the occurrence that is due. -/
theorem aFilterWindowEndIsJudged : Obligations.AFilterWindowEndIsJudged := by
  refine ⟨fun c0 c1 c2 c3 w s hp h8 hw hn hm hrestart => ?_, fun s hp => ⟨_, whenPowered_on s _ hp, fun hn => ?_,
    fun d hd => ?_⟩⟩
  · have hhold : s.mbs.state ≠ .heatHold := by rcases hm with h | h <;> rw [h] <;> decide
    obtain ⟨u, hu, hmoved, hrec⟩ := conversionInstant_boundary #v[c0, c1, c2, c3] h8 hhold (hrestart 5 (by simp))
    have huw : u.hfd.filter = some w := by rw [hmoved.hfd]; exact hw
    have hun : u.hfd.loadedFilter = none := by rw [hmoved.hfd]; exact hn
    obtain ⟨hhfd, hsrec⟩ := secondBoundary_filter (s := u) (by rw [hmoved.mbs]; exact hhold)
      (by rw [hmoved.tbs]; exact hrestart 8 (by simp)) huw hun
    obtain ⟨hfilter, hloaded, -, htbs, -, htmu⟩ := boundaryComputed_filter u
    rw [huw] at hfilter
    obtain ⟨hgoes, hends⟩ := countFilterSet_counts hfilter (hloaded.trans hun)
    have htables : u.tbs = s.tbs := hmoved.tbs
    have hset : (conversionInstant #v[c0, c1, c2, c3] s).tmu.lastSet =
        some (u.tmu.boundary (validPoints s.tbs.tables.curve)).handedSet := by
      rw [hu, secondBoundary_tmu, boundary_lastSet, htables]
    have hread : ∀ i : Fin 4, lastReading (boundaryComputed u) i =
        (u.tmu.boundary (validPoints s.tbs.tables.curve)).handedSet.readings[i] := fun i => by
      rw [lastReading, htmu, boundary_lastSet, htables]
    have hv := filterVerdict_rows (boundaryComputed u)
    simp only [hread, htbs, htables] at hv
    have hd : (drivePins (conversionInstant #v[c0, c1, c2, c3] s)).hfd =
        (countFilterSet (boundaryComputed u)).hfd := by
      simp only [drivePins_keeps, hu, hhfd]
    have hf : (drivePins (conversionInstant #v[c0, c1, c2, c3] s)).fcl.records[10] = s.fcl.records[10] := by
      simp only [drivePins_keeps]
      rw [hu, hsrec, hrec]
    refine ⟨_, _, exec_conversionInstant c0 c1 c2 c3 hp, hset, hf, ?_⟩
    dsimp only
    rw [hd]
    refine ⟨fun h => ?_, fun h => ?_⟩
    · rw [hgoes h, setHfd_hfd]
      exact ⟨rfl, hloaded.trans hun⟩
    · rw [hends h, setHfd_hfd]
      exact ⟨rfl, hv ⟨w.sets + 1, w.fullDuty && decide (1000 ≤ (boundaryComputed u).hfd.fanDuty)⟩⟩
  · rw [filterEnd_none s hn]
    rfl
  · rw [filterEnd_due s d hd]
    refine ⟨.of_occur ?_ ?_, ?_, rfl, fun hr =>
      onlyReported_report (s := s.setHfd { s.hfd with loadedFilter := none }) hr d⟩
    · simp
    · exact report_record_same (by decide) d _
    · exact (fanKept_report 10 d (s.setHfd { s.hfd with loadedFilter := none })).1

/-! The stall and its end -/

/-- R36. The state in which F9 is reported: the ticks left have passed and the fan is STALLED. -/
def stalledAfter (n : Nat) (s : State) : State :=
  { elapse n s with hfd := { s.hfd with fanState := .stalled, stall := none } }

theorem stallExpiry_eq {s : State} {n : Nat} (hn : s.hfd.stall = some n)
    (hd : onlyDue .stallTimerExpiry (200 - n) s = true) : stallExpiry s = report 9 0 (stalledAfter (200 - n) s) := by
  have hleft : stallLeft s.hfd = some (200 - n) := by rw [stallLeft, hn]; rfl
  have hown : ∀ e ∈ ownEvents s, e.1 = .stallTimerExpiry → e.2 = some (200 - n) := fun e he hc => by
    obtain ⟨-, -, -, -, -, -, -, -, h, -⟩ := ownEvents_left s e he
    rw [h hc, hleft]
  rw [stallExpiry, hleft, expire_alone _ _ _ _ hd hown, stallFan, elapse_hfd]
  rfl

/-- R36, R156. The end of a stall where it switches no main board on. -/
theorem conditionChanged_stall_ended {s : State} (hf : s.hfd.fanState = .running)
    (h : s.fcl.hold = false ∨ s.mbs.state ≠ .heatHold ∨ s.znc.release = false) :
    conditionChanged 9 s = { s with fcl := (conditionChanged 9 s).fcl } ∧
    ((s.fcl.records[(9 : FaultKind)]).cls = .hw → (s.fcl.records[(9 : FaultKind)]).state = .active →
      (conditionChanged 9 s).fcl.records[(9 : FaultKind)] = { s.fcl.records[(9 : FaultKind)] with state := .clear }) := by
  refine ⟨conditionChanged_stays 9 h, fun hc ha => ?_⟩
  have hend : faultCondition s 9 = false := by
    show (s.hfd.fanState == .stalled) = false
    rw [hf]
    rfl
  have he : conditionChanged 9 s =
      rejudgeRelease (setRecord 9 { s.fcl.records[(9 : FaultKind)] with state := .clear } s) := if_pos ⟨hc, ha, hend⟩
  rw [he, rejudgeRelease_stays (s := setRecord 9 _ s) h]
  simp [rejudge, setRecord]

/-- Settles O28: by the expiry of the stall timer alone, and by the three cases of a pulse. -/
theorem fanStallsAndRecovers : Obligations.FanStallsAndRecovers := by
  refine ⟨fun n s hp hn hd => ⟨_, whenPowered_on s _ hp, ?_⟩, fun s hp => ⟨_, whenPowered_on s _ hp, fun h => ?_,
    fun h hs => ?_, fun h hs hstays => ?_⟩⟩
  · rw [stallExpiry_eq hn hd]
    obtain ⟨-, hstalled⟩ := fanKept_report 9 0 (stalledAfter (200 - n) s)
    obtain ⟨hstate, hstall⟩ := hstalled rfl rfl
    have hcounted : Counted (stalledAfter (200 - n) s) (drivePins (report 9 0 (stalledAfter (200 - n) s))) 9 0 :=
      .of_occur (by simp) (report_record_same (by decide) 0 _)
    have hfcl : (stalledAfter (200 - n) s).fcl = s.fcl := by simp [stalledAfter]
    unfold Counted at hcounted
    rw [hfcl] at hcounted
    exact ⟨hstate, hstall, by simp [stalledAfter], hcounted, by simp [stalledAfter], by simp [stalledAfter], rfl,
      fun hr => onlyReported_report (s := stalledAfter (200 - n) s) (by simpa [stalledAfter] using hr) 0⟩
  · rw [tachPulse, if_pos h]
    rfl
  · rw [tachPulse, if_neg (by simpa using h), if_neg hs]
    rfl
  · rw [tachPulse, if_neg (by simpa using h), if_pos hs]
    obtain ⟨heq, hrec⟩ := conditionChanged_stall_ended
      (s := s.setHfd { s.hfd with pulses := s.hfd.pulses + 1, fanState := .running, stall := some 0 }) rfl hstays
    refine ⟨?_, hrec⟩
    generalize conditionChanged 9 _ = u at heq ⊢
    generalize u.fcl = f at heq
    subst heq
    rfl

end Sys2Proof.Machine
end

section
/-! Trips and periods (R19 to R28, R51, R52). -/

namespace Sys2Proof.Machine

/-! A trip -/

/-- What moves beside the records moves as it would without them. -/
theorem RecordsMoved.setHfd {s u : State} (h : RecordsMoved s u) (x : Hfd) :
    RecordsMoved (s.setHfd x) (u.setHfd x) := by
  unfold RecordsMoved at *
  rw [h]
  rfl

theorem RecordsMoved.setZnc {s u : State} (h : RecordsMoved s u) (x : Znc) :
    RecordsMoved (s.setZnc x) (u.setZnc x) := by
  unfold RecordsMoved at *
  rw [h]
  rfl

section
variable (c : HeaterChannel)

/-- R22, R23. A trip acts on state, output and count alone. -/
theorem tripAction_eq : tripAction c = { c with
    state := (tripAction c).state, output := (tripAction c).output, tripCount := (tripAction c).tripCount } := by
  unfold tripAction
  (repeat' split) <;> rfl

/-- R22, R23. What each trip mode does. -/
theorem tripAction_rows :
    (c.mode = .report → tripAction c = c) ∧ (c.mode = .chop → tripAction c = chopChannel c.tripCount c) ∧
    (c.mode = .chopTimed → c.tripCount + 1 < c.timeout.periods → tripAction c = chopChannel (c.tripCount + 1) c) ∧
    (c.mode = .chopTimed → c.timeout.periods ≤ c.tripCount + 1 → tripAction c = latchChannel c) ∧
    (c.mode = .latch → tripAction c = latchChannel c) := by
  refine ⟨fun h => ?_, fun h => ?_, fun h hn => ?_, fun h hn => ?_, fun h => ?_⟩ <;> simp only [tripAction, h]
  · rw [if_neg (by omega)]
  · rw [if_pos hn]

end

section
variable (i : Fin 3) (u : State)

theorem actOnTrip_eq : actOnTrip i u = u.setHfd { u.hfd with channels := (actOnTrip i u).hfd.channels } := by
  unfold actOnTrip
  dsimp only
  split <;> rfl

theorem actOnTrip_keeps :
    (actOnTrip i u).tick = u.tick ∧ (actOnTrip i u).tbs = u.tbs ∧ (actOnTrip i u).fcl = u.fcl := by
  rw [actOnTrip_eq]
  exact ⟨rfl, rfl, rfl⟩

/-- R22, R23, R31. A trip acts on its channel; on the others a recomputation may act. -/
theorem actOnTrip_channel (j : Fin 3) : (actOnTrip i u).hfd.channels[j] =
    { (if i = j then tripAction u.hfd.channels[j] else u.hfd.channels[j]) with
      applied := ((actOnTrip i u).hfd.channels[j]).applied } := by
  unfold actOnTrip
  dsimp only
  split
  · rw [recomputeDuties_channel, setHfd_hfd, upd_channel]
  · simp only [setHfd_hfd, upd_channel]

/-- R31. The duties are recomputed where the channel is then LATCHED_OFF, and stay elsewhere. -/
theorem actOnTrip_applied :
    (((actOnTrip i u).hfd.channels[i]).state = .latchedOff →
      ∀ j : Fin 3, ((actOnTrip i u).hfd.channels[j]).applied = newDuty (actOnTrip i u) j) ∧
    (((actOnTrip i u).hfd.channels[i]).state ≠ .latchedOff →
      ∀ j : Fin 3, ((actOnTrip i u).hfd.channels[j]).applied = (u.hfd.channels[j]).applied) := by
  unfold actOnTrip
  dsimp only
  split
  next hl =>
    refine ⟨fun _ j => ?_, fun h => absurd ?_ h⟩
    · rw [newDuty_recomputeDuties, recomputeDuties_channel]
    · rw [recomputeDuties_channel]; exact hl
  next hl =>
    refine ⟨fun h => absurd h hl, fun _ j => ?_⟩
    simp only [setHfd_hfd, upd_channel]
    split
    · exact (tripAction_drive _).1
    · rfl

theorem noteTrip_channel (j : Fin 3) : (noteTrip i u).hfd.channels[j] = if i = j then
    { u.hfd.channels[j] with tripped := true, tripCondition := true } else u.hfd.channels[j] := upd_channel _ _ _ _

end

/-- R21 to R23. The channel that has tripped: its trip noted, and acted on in the mode in force. -/
theorem tripped_channel (i : Fin 3) (s : State) :
    let u := report 6 i.val (noteTrip i s)
    (actOnTrip i u).hfd.channels[i] = { tripAction { s.hfd.channels[i] with
      tripped := true, tripCondition := true, applied := (u.hfd.channels[i]).applied } with
      applied := ((actOnTrip i u).hfd.channels[i]).applied } := by
  have hu : (report 6 i.val (noteTrip i s)).hfd.channels[i] = { s.hfd.channels[i] with
      tripped := true, tripCondition := true
      applied := ((report 6 i.val (noteTrip i s)).hfd.channels[i]).applied } := by
    conv_lhs => rw [report_channel, noteTrip_channel, if_pos rfl]
  dsimp only
  rw [← hu]
  conv_lhs => rw [actOnTrip_channel, if_pos rfl]

/-- R23. The other channels: a recomputation may act. -/
theorem untripped_channel (i j : Fin 3) (s : State) (h : j ≠ i) :
    (actOnTrip i (report 6 i.val (noteTrip i s))).hfd.channels[j] = { s.hfd.channels[j] with
      applied := ((actOnTrip i (report 6 i.val (noteTrip i s))).hfd.channels[j]).applied } := by
  conv_lhs => rw [actOnTrip_channel, if_neg h.symm, report_channel, noteTrip_channel, if_neg h.symm]

/-- R21 to R23. What a channel `d` that has tripped has of the channel `c` before, its duty aside. -/
theorem tripAction_parts {c d : HeaterChannel} {a b : Nat}
    (h : d = { tripAction { c with tripped := true, tripCondition := true, applied := a } with applied := b }) :
    d = { c with state := d.state, output := d.output, tripped := true, tripCondition := true,
                 tripCount := d.tripCount, applied := d.applied } ∧
    (c.mode = .report → d.state = c.state ∧ d.output = c.output ∧ d.tripCount = c.tripCount) ∧
    (c.mode = .chop → d.state = .chopped ∧ d.output = false ∧ d.tripCount = c.tripCount) ∧
    (c.mode = .chopTimed → c.tripCount + 1 < c.timeout.periods →
      d.state = .chopped ∧ d.output = false ∧ d.tripCount = c.tripCount + 1) ∧
    (c.mode = .chopTimed → c.timeout.periods ≤ c.tripCount + 1 →
      d.state = .latchedOff ∧ d.output = false ∧ d.tripCount = 0) ∧
    (c.mode = .latch → d.state = .latchedOff ∧ d.output = false ∧ d.tripCount = 0) := by
  obtain ⟨hreport, hchop, htimed, hlast, hlatch⟩ :=
    tripAction_rows { c with tripped := true, tripCondition := true, applied := a }
  have heq := tripAction_eq { c with tripped := true, tripCondition := true, applied := a }
  subst h
  refine ⟨?_, fun h => ?_, fun h => ?_, fun h hn => ?_, fun h hn => ?_, fun h => ?_⟩
  · conv_lhs => rw [heq]
  · rw [hreport h]; exact ⟨rfl, rfl, rfl⟩
  · rw [hchop h]; exact ⟨rfl, rfl, rfl⟩
  · rw [htimed h hn]; exact ⟨rfl, rfl, rfl⟩
  · rw [hlast h hn]; exact ⟨rfl, rfl, rfl⟩
  · rw [hlatch h]; exact ⟨rfl, rfl, rfl⟩

/-- R160. While F6 restarts nothing, a trip changes the channels and what the report changes. -/
theorem recordsMoved_tripped (i : Fin 3) (s : State) (hr : (reactionInForce s.tbs.tables 6).restart = false) :
    let t := actOnTrip i (report 6 i.val (noteTrip i s))
    RecordsMoved (s.setHfd { s.hfd with channels := t.hfd.channels }) t := by
  have hmoved := recordsMoved_report (s := noteTrip i s) hr i.val
  have hhfd : (report 6 i.val (noteTrip i s)).hfd = (noteTrip i s).hfd := hmoved.hfd
  have heq := actOnTrip_eq i (report 6 i.val (noteTrip i s))
  dsimp only
  generalize actOnTrip i (report 6 i.val (noteTrip i s)) = t at heq ⊢
  generalize report 6 i.val (noteTrip i s) = u at *
  rw [hhfd] at heq
  have hset := hmoved.setHfd { (noteTrip i s).hfd with channels := t.hfd.channels }
  rw [← heq] at hset
  exact hset

/-- R31. Without a latch and a restart every applied duty stays. -/
theorem tripped_applied (i : Fin 3) (s : State) (hr : (reactionInForce s.tbs.tables 6).restart = false)
    (hl : ((actOnTrip i (report 6 i.val (noteTrip i s))).hfd.channels[i]).state ≠ .latchedOff) (j : Fin 3) :
    ((actOnTrip i (report 6 i.val (noteTrip i s))).hfd.channels[j]).applied = (s.hfd.channels[j]).applied := by
  have hhfd : (report 6 i.val (noteTrip i s)).hfd = (noteTrip i s).hfd :=
    (recordsMoved_report (s := noteTrip i s) hr i.val).hfd
  rw [(actOnTrip_applied i _).2 hl, hhfd, noteTrip_channel]
  split <;> rfl

/-- Settles O27: by the report of the trip, by what each mode does, and by the recomputation of a latch. -/
theorem aTripActsByItsMode : Obligations.ATripActsByItsMode := by
  intro i current s hp hon htrip hcur
  have hex : heaterTrip i current s = actOnTrip i (report 6 i.val (noteTrip i s)) := by
    rw [heaterTrip, if_pos]
    unfold isTrip
    rw [hon, htrip, decide_eq_true hcur]
    rfl
  have heq := actOnTrip_eq i (report 6 i.val (noteTrip i s))
  have hlatched := (actOnTrip_applied i (report 6 i.val (noteTrip i s))).1
  have hfree := tripped_applied i s
  have hmoved := recordsMoved_tripped i s
  have hothers := fun j => untripped_channel i j s
  obtain ⟨hd, hreport, hmodes⟩ := tripAction_parts (tripped_channel i s)
  rw [hon] at hreport
  obtain ⟨htick, htbs, hfcl⟩ := actOnTrip_keeps i (report 6 i.val (noteTrip i s))
  obtain ⟨-, hutick, -, -, -, hutbs, -⟩ := report_keeps 6 i.val (noteTrip i s)
  replace htick := htick.trans (hutick.trans (show (noteTrip i s).tick = s.tick from rfl))
  replace htbs := htbs.trans (hutbs.trans (show (noteTrip i s).tbs = s.tbs from rfl))
  have hrecord : (actOnTrip i (report 6 i.val (noteTrip i s))).fcl.records[(6 : FaultKind)] =
      (s.fcl.records[(6 : FaultKind)]).occur 6 i.val (s.tick % 65536) :=
    (congrArg (fun f : Fcl => f.records[(6 : FaultKind)]) hfcl).trans
      (report_record_same (by decide) i.val (noteTrip i s))
  refine ⟨_, whenPowered_on s _ hp, ?_⟩
  rw [hex]
  change _ ∧ _ ∧ _ ∧ _ ∧ _ ∧ drivePins _ = drivePins ((report 6 i.val (noteTrip i s)).setHfd
    { (report 6 i.val (noteTrip i s)).hfd with channels := _ }) ∧ _
  generalize actOnTrip i (report 6 i.val (noteTrip i s)) = t at *
  generalize report 6 i.val (noteTrip i s) = u at *
  simp only [drivePins_keeps, newDuty_drivePins]
  exact ⟨.of_occur (t := drivePins t) htick hrecord, htick, htbs, hothers, fun hr => .of_eq (hmoved hr),
    congrArg drivePins heq, hd, fun hl => ⟨(hlatched hl i).trans (newDuty_latched t i hl), hlatched hl⟩, fun hl hr => hfree hr hl, hreport, hmodes⟩

end Sys2Proof.Machine
end

section
/-! Period starts and on-time ends (R19, R20, R22, R25 to R28, R51). -/

namespace Sys2Proof.Machine

/-! One channel -/

section
variable (z : ZoneRecord) (peak : Nat) (c : HeaterChannel)

/-- R19, R22, R25. What opens a period takes the trip fields of the zone record and runs the applied duty. -/
theorem openPeriod_eq : openPeriod z c = { c with
    level := z.tripLevel, mode := z.tripMode, timeout := z.tripTimeout, tripped := false
    state := (openPeriod z c).state, periodDuty := (openPeriod z c).periodDuty, output := (openPeriod z c).output } := by
  unfold openPeriod
  dsimp only
  (repeat' split) <;> rfl

/-- R20, R23. A LATCHED_OFF channel does not drive; another drives its applied duty. -/
theorem openPeriod_drives :
    (c.state = .latchedOff → (openPeriod z c).state = .latchedOff ∧ (openPeriod z c).periodDuty = 0 ∧
      (openPeriod z c).output = false) ∧
    (c.state ≠ .latchedOff → (openPeriod z c).periodDuty = c.applied ∧
      (openPeriod z c).output = decide (0 < c.applied) ∧
      (openPeriod z c).state = if c.applied = 0 then .idle else .driving) := by
  refine ⟨fun h => ?_, fun h => ?_⟩
  · rw [openPeriod, if_pos h]; exact ⟨h, rfl, rfl⟩
  · rw [openPeriod, if_neg h]
    by_cases ha : c.applied = 0
    · rw [if_pos ha, if_pos ha, ha]; exact ⟨rfl, rfl, rfl⟩
    · rw [if_neg ha, if_neg ha]; exact ⟨rfl, (decide_eq_true (by omega)).symm, rfl⟩

theorem openPeriod_latched : (openPeriod z c).state = .latchedOff ↔ c.state = .latchedOff :=
  (openPeriod_drive z c).2.2.1

theorem judgeLoad_eq : judgeLoad peak c = { c with
    lowCount := (judgeLoad peak c).lowCount, loadedCount := (judgeLoad peak c).loadedCount
    openLoad := (judgeLoad peak c).openLoad } := by
  unfold judgeLoad
  dsimp only
  (repeat' split) <;> rfl

/-- R21, R23, R26. What closes a period judges its trip and its load. -/
theorem closePeriod_eq : closePeriod peak c = { c with
    tripCondition := c.tripCondition && c.tripped, tripCount := if c.tripped then c.tripCount else 0
    lowCount := (judgeLoad peak c).lowCount, loadedCount := (judgeLoad peak c).loadedCount
    openLoad := (judgeLoad peak c).openLoad } := by
  unfold closePeriod
  rw [judgeLoad_eq]
  generalize (judgeLoad peak c).lowCount = a, (judgeLoad peak c).loadedCount = b, (judgeLoad peak c).openLoad = o
  unfold judgeTrip
  by_cases ht : c.tripped = true
  · rw [if_pos ht, ht, Bool.and_true, if_pos rfl]
  · rw [if_neg ht, Bool.eq_false_iff.2 ht, Bool.and_false, if_neg Bool.false_ne_true]

/-- R26, R27. The load judgement of one period. -/
theorem judgeLoad_rows : let d := judgeLoad peak c
    let loaded := c.tripped = true ∨ c.level * 100 ≤ peak * 8
    (c.periodDuty ≠ 0 → ¬loaded → d.lowCount = min 10 (c.lowCount + 1) ∧ d.loadedCount = 0 ∧
      d.openLoad = (c.openLoad || decide (9 ≤ c.lowCount))) ∧
    (c.periodDuty ≠ 0 → loaded → d.loadedCount = min 10 (c.loadedCount + 1) ∧ d.lowCount = 0 ∧
      d.openLoad = (c.openLoad && decide (c.loadedCount < 9))) ∧
    (c.periodDuty = 0 → d.openLoad = c.openLoad ∧ d.lowCount = c.lowCount ∧ d.loadedCount = c.loadedCount) := by
  have hl : periodLoaded peak c = true ↔ c.tripped = true ∨ c.level * 100 ≤ peak * 8 := by simp [periodLoaded]
  refine ⟨fun hd h => ?_, fun hd h => ?_, fun hd => ?_⟩
  · rw [judgeLoad_low peak c hd (Bool.eq_false_iff.2 (mt hl.1 h))]; exact ⟨rfl, rfl, rfl⟩
  · rw [judgeLoad_loaded peak c hd (hl.2 h)]; exact ⟨rfl, rfl, rfl⟩
  · rw [judgeLoad_undriven peak c hd]; exact ⟨rfl, rfl, rfl⟩

/-- R19 to R27. What a channel `d` holds after a period start: the ended period closed, a demand `m` and an applied
duty `a` from what the reports bring about, the new period opened. -/
theorem periodStart_rows {d : HeaterChannel} {m a : Nat}
    (h : d = openPeriod z { closePeriod peak c with demand := m, applied := a }) :
    let loaded := c.tripped = true ∨ c.level * 100 ≤ peak * 8
    d.level = z.tripLevel ∧ d.mode = z.tripMode ∧ d.timeout = z.tripTimeout ∧ d.tripped = false ∧
    d.tripCondition = (c.tripCondition && c.tripped) ∧ d.tripCount = (if c.tripped then c.tripCount else 0) ∧
    (c.state = .latchedOff → d.state = .latchedOff ∧ d.periodDuty = 0 ∧ d.output = false) ∧
    (c.state ≠ .latchedOff → d.periodDuty = d.applied ∧ d.output = decide (0 < d.applied) ∧
      d.state = (if d.applied = 0 then .idle else .driving)) ∧
    (c.periodDuty ≠ 0 → ¬loaded → d.lowCount = min 10 (c.lowCount + 1) ∧ d.loadedCount = 0 ∧
      d.openLoad = (c.openLoad || decide (9 ≤ c.lowCount))) ∧
    (c.periodDuty ≠ 0 → loaded → d.loadedCount = min 10 (c.loadedCount + 1) ∧ d.lowCount = 0 ∧
      d.openLoad = (c.openLoad && decide (c.loadedCount < 9))) ∧
    (c.periodDuty = 0 → d.openLoad = c.openLoad ∧ d.lowCount = c.lowCount ∧ d.loadedCount = c.loadedCount) := by
  obtain ⟨hlatched, hdrives⟩ := openPeriod_drives z { closePeriod peak c with demand := m, applied := a }
  obtain ⟨hlow, hloaded, hundriven⟩ := judgeLoad_rows peak c
  have heq := openPeriod_eq z { closePeriod peak c with demand := m, applied := a }
  rw [← h] at hlatched hdrives heq
  rw [closePeriod_eq] at hlatched hdrives heq
  dsimp only at hlatched hdrives heq
  generalize judgeLoad peak c = j at hlatched hdrives heq hlow hloaded hundriven ⊢
  have happlied : d.applied = a := (congrArg HeaterChannel.applied heq :)
  have hlc : d.lowCount = j.lowCount := (congrArg HeaterChannel.lowCount heq :)
  have hdc : d.loadedCount = j.loadedCount := (congrArg HeaterChannel.loadedCount heq :)
  have hol : d.openLoad = j.openLoad := (congrArg HeaterChannel.openLoad heq :)
  rw [happlied, hlc, hdc, hol]
  exact ⟨(congrArg HeaterChannel.level heq :), (congrArg HeaterChannel.mode heq :),
    (congrArg HeaterChannel.timeout heq :), (congrArg HeaterChannel.tripped heq :), (congrArg HeaterChannel.tripCondition heq :),
    (congrArg HeaterChannel.tripCount heq :), hlatched, hdrives, hlow, hloaded, hundriven⟩

end

/-! All channels -/

section
variable (peaks : Fin 3 → Nat) (s : State)

/-- R19, R51. The periods closed and the degraded timers told, before anything is reported. -/
def periodsClosed : State := syncDegraded (s.setHfd { s.hfd with channels := closedChannels peaks s.hfd })

/-- R26. The channels that go open-load as the periods close. -/
def periodEntries : List Nat := openLoadEntries s.hfd.channels (closedChannels peaks s.hfd)

theorem closePeriods_eq : closePeriods peaks s =
    conditionChanged 6 (conditionChanged 7 (reportAll 7 (periodEntries peaks s) (periodsClosed peaks s))) := rfl

theorem closePeriods_channel (i : Fin 3) : (closePeriods peaks s).hfd.channels[i] =
    { closePeriod (peaks i) s.hfd.channels[i] with
      demand := ((closePeriods peaks s).hfd.channels[i]).demand
      applied := ((closePeriods peaks s).hfd.channels[i]).applied } := by
  have hclosed : (periodsClosed peaks s).hfd.channels[i] = closePeriod (peaks i) s.hfd.channels[i] := by
    simp [periodsClosed, closedChannels]
  rw [closePeriods_eq]
  conv_lhs => rw [conditionChanged_channel, conditionChanged_channel, reportAll_channel, hclosed]

theorem closePeriods_keeps : (closePeriods peaks s).tick = s.tick ∧ (closePeriods peaks s).tbs = s.tbs ∧
    (closePeriods peaks s).tmu = s.tmu := by
  simp [closePeriods]

theorem closePeriods_zones : (closePeriods peaks s).znc.zones = (periodsClosed peaks s).znc.zones := by
  rw [closePeriods_eq, conditionChanged_zones, conditionChanged_zones]
  simp only [reportAll_keeps]

/-- R155, R160. Where F7 restarts nothing and no end of a HOLD inhibit switches on, the reports move the records, the
queue and the transmitter alone. -/
theorem recordsMoved_closePeriods (hr : (reactionInForce s.tbs.tables 7).restart = false)
    (h : s.mbs.state ≠ .heatHold ∨ s.znc.release = false) :
    RecordsMoved (periodsClosed peaks s) (closePeriods peaks s) := by
  have h7 := recordsMoved_reported (s := periodsClosed peaks s) hr h (periodEntries peaks s)
  exact h7.trans (recordsMoved_conditionChanged 6 (.inr (by rw [h7.mbs, h7.znc]; exact h)))

theorem periodsClosed_degraded (i : Fin 3) : ((periodsClosed peaks s).znc.zones[i]).degraded =
    if zoneDegraded (s.setHfd { s.hfd with channels := closedChannels peaks s.hfd }) i
      then (s.znc.zones[i]).degraded else 0 :=
  congrArg Zone.degraded (Vector.getElem_ofFn i.isLt)

/-- R51. Of the zones, the degraded timers alone are told that the periods have closed. -/
theorem periodsClosed_eq : periodsClosed peaks s = { s with
    hfd := { s.hfd with channels := closedChannels peaks s.hfd }
    znc := { s.znc with zones := tab fun i =>
      { s.znc.zones[i] with degraded := ((periodsClosed peaks s).znc.zones[i]).degraded } } } := by
  simp only [periodsClosed_degraded]
  rfl

variable {peaks s} in
/-- R160. While the reports move the records, the queue and the transmitter alone, a period start changes besides them
the channels and the degraded timers. -/
theorem openPeriods_moved {u : State} (h : RecordsMoved (periodsClosed peaks s) u)
    (hzones : u.znc.zones = (periodsClosed peaks s).znc.zones) :
    RecordsMoved { s with
      hfd := { s.hfd with channels := (openPeriods u).hfd.channels }
      znc := { s.znc with zones := tab fun i =>
        { s.znc.zones[i] with degraded := (u.znc.zones[i]).degraded } } } (openPeriods u) := by
  have hhfd : u.hfd = { s.hfd with channels := closedChannels peaks s.hfd } := h.hfd
  have hopened : (openPeriods u).hfd = { s.hfd with channels := (openPeriods u).hfd.channels } :=
    congrArg (fun h : Hfd => { h with channels := (openPeriods u).hfd.channels }) hhfd
  have hset : RecordsMoved _ (openPeriods u) := h.setHfd (openPeriods u).hfd
  rw [hopened, periodsClosed_eq, ← hzones] at hset
  exact hset

/-- R51. Whether a zone is degraded depends on its channel's open load and latch alone, the tables and the set given. -/
theorem zoneDegraded_congr {s t : State} {i : Fin 3} (htbs : t.tbs = s.tbs) (htmu : t.tmu = s.tmu)
    (hopen : (t.hfd.channels[i]).openLoad = (s.hfd.channels[i]).openLoad)
    (hlatch : (t.hfd.channels[i]).state = .latchedOff ↔ (s.hfd.channels[i]).state = .latchedOff) :
    zoneDegraded t i = zoneDegraded s i := by
  have hs : ((t.hfd.channels[i]).state == .latchedOff) = ((s.hfd.channels[i]).state == .latchedOff) := by
    rw [Bool.eq_iff_iff, beq_iff_eq, beq_iff_eq]
    exact hlatch
  unfold zoneDegraded lastReading
  rw [htbs, htmu, hopen, hs]

theorem someEntry_of {α : Type} {n : Nat} {v : Vector α n} {p : α → Bool} {i : Fin n} (h : p v[i] = true) :
    someEntry v p = true :=
  List.any_eq_true.2 ⟨v[i], by simp, h⟩

/-- R26, R28. A channel that goes open-load makes the F7 condition. -/
theorem faultCondition_of_periodEntries (l : List Nat) (h : periodEntries peaks s ≠ []) :
    faultCondition (reportAll 7 l (periodsClosed peaks s)) 7 = true := by
  obtain ⟨x, hx⟩ := List.exists_mem_of_ne_nil _ h
  obtain ⟨i, hi, -⟩ := List.mem_map.1 hx
  have hopen : ((closedChannels peaks s.hfd)[i]).openLoad = true := (Bool.and_eq_true_iff.1 (List.mem_filter.1 hi).2).2
  have hc : ((reportAll 7 l (periodsClosed peaks s)).hfd.channels[i]).openLoad = true := by
    rw [reportAll_channel]
    exact hopen
  exact someEntry_of (p := fun c : HeaterChannel => c.openLoad) hc

/-- R155. Each channel that goes open-load at a period start counts one F7 occurrence. -/
theorem closePeriods_counted {t : State} (htick : t.tick = s.tick) (hfcl : t.fcl = (closePeriods peaks s).fcl)
    (hopen : ∀ i : Fin 3, (t.hfd.channels[i]).openLoad = ((closedChannels peaks s.hfd)[i]).openLoad) :
    CountedEach s t 7 fun i : Fin 3 => !(s.hfd.channels[i]).openLoad && (t.hfd.channels[i]).openLoad := by
  simp only [hopen]
  refine .of_changed (u := periodsClosed peaks s) (l := periodEntries peaks s) (by decide) (List.length_map _)
    (fun i hi => congrArg (List.map Fin.val) hi) rfl rfl htick (faultCondition_of_periodEntries peaks s _) ?_
  rw [hfcl, closePeriods_eq, conditionChanged_record_ne (by decide)]

end

theorem peaks_apply (p0 p1 p2 : Nat) (i : Fin 3) : (![p0, p1, p2]) i = #v[p0, p1, p2][i] := by
  match i with
  | 0 => rfl
  | 1 => rfl
  | 2 => rfl

/-- The pins are what `drivePins` changes. -/
theorem drivePins_of_eq {u v : State} (h : u = v) :
    drivePins u = { v with pog := { v.pog with applied := (drivePins u).pog.applied } } := by
  subst h
  rfl

/-- R19. The end of an on-time acts on its channel alone. -/
theorem onTimeEnd_channel (i j : Fin 3) (s : State) : (onTimeEnd i s).hfd.channels[j] =
    if i = j ∧ (s.hfd.channels[i]).state = .driving ∧ (s.hfd.channels[i]).periodDuty < 1000 then
      { s.hfd.channels[j] with output := false } else s.hfd.channels[j] := by
  by_cases h : (s.hfd.channels[i]).state = .driving ∧ (s.hfd.channels[i]).periodDuty < 1000
  · have heq : onTimeEnd i s = s.setHfd { s.hfd with
        channels := upd s.hfd.channels i fun c => { c with output := false } } := if_pos h
    rw [heq, setHfd_hfd, upd_channel]
    simp only [h, and_self, and_true]
  · have heq : onTimeEnd i s = s := if_neg h
    rw [heq, if_neg fun hc => h hc.2]

theorem onTimeEnd_eq (i : Fin 3) (s : State) :
    onTimeEnd i s = s.setHfd { s.hfd with channels := (onTimeEnd i s).hfd.channels } := by
  unfold onTimeEnd
  dsimp only
  split <;> rfl

/-- Settles O26: by what closes and opens the period of one channel, and by what the reports between them move. -/
theorem periodsTakeTheDutiesAndEndTheirOnTimes : Obligations.PeriodsTakeTheDutiesAndEndTheirOnTimes := by
  refine ⟨fun p0 p1 p2 s hp => ?_, fun i s hp => ?_⟩
  · refine ⟨_, whenPowered_on s (fun s => openPeriods (closePeriods ![p0, p1, p2] s)) hp, ?_⟩
    obtain ⟨htick, htbs, htmu⟩ := closePeriods_keeps (![p0, p1, p2]) s
    have hchannel := closePeriods_channel (![p0, p1, p2]) s
    have hzones := closePeriods_zones (![p0, p1, p2]) s
    have hmoved := recordsMoved_closePeriods (![p0, p1, p2]) s
    have hclosed : ∀ i : Fin 3, (closedChannels ![p0, p1, p2] s.hfd)[i] =
        closePeriod (#v[p0, p1, p2][i]) s.hfd.channels[i] := fun i => by
      rw [← peaks_apply]
      exact Vector.getElem_ofFn i.isLt
    have hcounted := fun t : State => closePeriods_counted (![p0, p1, p2]) s (t := t)
    simp only [peaks_apply] at hchannel
    generalize closePeriods ![p0, p1, p2] s = u at *
    have hopened : ∀ i : Fin 3, (openPeriods u).hfd.channels[i] = openPeriod s.tbs.tables.zones[i]
        { closePeriod (#v[p0, p1, p2][i]) s.hfd.channels[i] with
          demand := (u.hfd.channels[i]).demand, applied := (u.hfd.channels[i]).applied } := fun i => by
      rw [← hchannel, ← htbs]
      exact Vector.getElem_ofFn i.isLt
    have hopen : ∀ i : Fin 3, ((openPeriods u).hfd.channels[i]).openLoad =
        ((closedChannels ![p0, p1, p2] s.hfd)[i]).openLoad := fun i => by
      rw [hopened, openPeriod_eq, hclosed]
    simp only [drivePins_keeps]
    refine ⟨htick, htbs, htmu, fun hr hstay => ⟨.of_eq ?_, fun i => ?_⟩,
      hcounted (drivePins (openPeriods u)) htick rfl hopen,
      fun i => ⟨?_, periodStart_rows _ _ _ (hopened i)⟩⟩
    · exact openPeriods_moved (hmoved hr hstay) hzones
    · rw [hopened, openPeriod_eq, (hmoved hr hstay).hfd]
      dsimp only [periodsClosed, syncDegraded, setZnc_hfd, setHfd_hfd]
      rw [hclosed, closePeriod_eq]
      exact ⟨rfl, rfl⟩
    · have hdegraded : zoneDegraded (drivePins (openPeriods u)) i =
          zoneDegraded (s.setHfd { s.hfd with channels := closedChannels ![p0, p1, p2] s.hfd }) i := by
        refine zoneDegraded_congr htbs htmu (hopen i) ?_
        simp only [drivePins_keeps]
        rw [setHfd_hfd, hopened, hclosed]
        exact openPeriod_latched _ _
      rw [hdegraded]
      exact (congrArg (fun z => (z[i] : Zone).degraded) hzones).trans (periodsClosed_degraded _ s i)
  · refine ⟨_, whenPowered_on s (onTimeEnd i) hp, ?_⟩
    have heq := onTimeEnd_eq i s
    have hchannel := fun j => onTimeEnd_channel i j s
    generalize onTimeEnd i s = u at heq hchannel
    simp only [drivePins_keeps]
    refine ⟨?_, fun hd hn => ?_, fun h => ?_, fun j hj => ?_⟩
    · exact drivePins_of_eq heq
    · rw [hchannel, if_pos ⟨rfl, hd, hn⟩]
    · rw [hchannel, if_neg fun ⟨_, hd, hn⟩ => h.elim (· hd) (by omega)]
    · rw [hchannel, if_neg fun ⟨h, _⟩ => hj h.symm]

end Sys2Proof.Machine
end

section
/-! Releases of keys outside the reported-down set, the scanned set and the departure from a rail-on state
(R78 to R80, R91, R92, R101 to R104, R131, R134, R136). -/

namespace Sys2Proof.Machine

/-! Releases -/

/-- R131. A key that has been released: not down, unmarked. -/
def MappedKey.lifted (k : MappedKey) : MappedKey := { k with down := false, unreported := false, suppressed := false }

theorem MappedKey.lifted_lifted (k : MappedKey) : k.lifted.lifted = k.lifted := rfl

theorem updKey_key (c i : Fin 20) (f : MappedKey → MappedKey) (s : State) :
    (updKey c f s).keq.keys[i] = if c = i then f s.keq.keys[i] else s.keq.keys[i] := by
  by_cases h : c = i
  · subst h; simp [updKey, upd]
  · have hne : (c : Nat) ≠ i := fun hc => h (Fin.ext hc)
    simp [updKey, upd, Vector.getElem_set_ne _ _ hne, h]

section
variable {s : State}

/-- R131. The release of a key outside the reported-down set offers nothing. -/
theorem releaseTransition_unreported {c : Fin 20} (cause : Cause) (h : (s.keq.keys[c]).reported = none) :
    releaseTransition c cause s =
      if (s.tbs.tables.keymap[c]).valid then syncChords (updKey c MappedKey.lifted s) else s := by
  unfold releaseTransition offerKeyUp
  rw [h]
  rfl

/-- R131. Releases of keys outside the reported-down set move the keys released and the chords alone. -/
theorem releaseAll_unreported (cs : List (Fin 20)) (cause : Cause) (h : ∀ c : Fin 20, (s.keq.keys[c]).reported = none) :
    (releaseAll cs cause s).slp = s.slp ∧ (releaseAll cs cause s).keq.queue = s.keq.queue ∧
    ∀ i : Fin 20, (releaseAll cs cause s).keq.keys[i] =
      if i ∈ cs ∧ (s.tbs.tables.keymap[i]).valid = true then (s.keq.keys[i]).lifted else s.keq.keys[i] := by
  unfold releaseAll
  induction cs generalizing s with
  | nil => simp
  | cons c cs ih =>
    rw [List.foldl_cons, releaseTransition_unreported cause (h c)]
    by_cases hv : (s.tbs.tables.keymap[c]).valid = true
    · rw [if_pos hv]
      have hkey : ∀ i : Fin 20, (syncChords (updKey c MappedKey.lifted s)).keq.keys[i] =
          if c = i then (s.keq.keys[i]).lifted else s.keq.keys[i] := fun i => updKey_key c i _ s
      obtain ⟨hslp, hqueue, hkeys⟩ := ih (s := syncChords (updKey c MappedKey.lifted s)) fun i => by
        rw [hkey]
        split <;> exact h i
      refine ⟨hslp, hqueue, fun i => ?_⟩
      rw [hkeys, hkey]
      change (if i ∈ cs ∧ (s.tbs.tables.keymap[i]).valid = true then _ else _) = _
      by_cases hc : c = i
      · subst hc
        simp only [hv, List.mem_cons, true_or, and_self, if_true, and_true, MappedKey.lifted_lifted, ite_self]
      · simp [hc, Ne.symm hc]
    · rw [if_neg hv]
      obtain ⟨hslp, hqueue, hkeys⟩ := ih h
      refine ⟨hslp, hqueue, fun i => ?_⟩
      rw [hkeys]
      by_cases hc : i = c
      · subst hc; simp only [hv, and_false, if_false, Bool.false_eq_true]
      · simp [hc]

/-- R134. Where no key counts as held, no chord is: it has at least two members (R124). -/
theorem syncChords_unheld (h : ∀ c : Fin 20, keyHeld s c = false)
    (hr : ∀ i : Fin 8, (s.tbs.tables.chords[i]).inRange = true) (i : Fin 8) :
    (syncChords s).keq.chords[i] = ⟨.idle, 0⟩ := by
  have hmembers : 2 ≤ memberCount (s.tbs.tables.chords[i]).members := by
    have hi := hr i
    unfold ChordEntry.inRange at hi
    simp only [Bool.and_eq_true, decide_eq_true_eq] at hi
    exact hi.1.1.1
  obtain ⟨c, hc⟩ := List.exists_mem_of_length_pos (Nat.lt_of_lt_of_le Nat.zero_lt_two hmembers)
  have hm : (s.tbs.tables.chords[i]).members.getLsbD c.val = true := (List.mem_filter.1 hc).2
  have hmem : membersHeld s s.tbs.tables.chords[i] = false :=
    List.all_eq_false.2 ⟨c, List.mem_finRange c, by rw [hm, h c]; decide⟩
  have hheld : chordHeld s i = false := by rw [chordHeld, hmem, Bool.and_false]
  rw [syncChords_chord, hheld]
  rfl

/-! The scanned set -/

/-- R103. A release is handed for the keys that the statement names. -/
theorem leavesTouched_eq (s : State) (mode : ScanMode) (c : Fin 20) : leavesTouched s mode c = leavesHeld s mode c := by
  unfold leavesTouched leavesHeld
  cases (s.tsu.keys[c]).state <;> rfl

theorem leavesHeld_valid {mode : ScanMode} {c : Fin 20} (h : leavesHeld s mode c = true) :
    (s.tbs.tables.keymap[c]).valid = true := by
  simp only [leavesHeld, Bool.and_eq_true] at h
  exact h.1.1.1

theorem rescan_tsu (mode : ScanMode) (s : State) : (rescan mode s).tsu = { s.tsu with
    mode := mode
    keys := tab fun c =>
      (s.tsu.keys[c]).rescanned (s.tbs.tables.keymap[c]).valid (inScannedSet mode s.tbs.tables c) } := by
  simp [rescan]

/-- R103, R104. What taking a scanned set makes of one channel. -/
theorem TouchKey.rescanned_rows (k : TouchKey) (valid inSet : Bool) :
    (valid = false → k.rescanned valid inSet = { k with
      state := .idle, arming := 0, stuck := none, faulted := false, outCount := 0, inCount := 0, scanned := false }) ∧
    (valid = true → k.scanned = true → inSet = false → k.rescanned valid inSet = { k with
      state := .idle, arming := 0, stuck := none, scanned := false }) ∧
    (valid = true → k.scanned = false → inSet = true →
      k.rescanned valid inSet = { k with scanned := true, seed := true }) ∧
    (valid = true → k.scanned = inSet → k.rescanned valid inSet = k) := by
  refine ⟨fun hv => ?_, fun hv hs hi => ?_, fun hv hs hi => ?_, fun hv hs => ?_⟩ <;> simp only [TouchKey.rescanned, hv]
  · rfl
  · simp only [hs, hi]; rfl
  · simp only [hs, hi]; rfl
  · cases inSet <;> simp only [hs] <;> rfl

/-- R101 to R104. What has the touch unit of a rescan has taken the scanned set. -/
theorem Rescanned.of_tsu {s t u : State} {mode : ScanMode} (ht : t.tsu = (rescan mode u).tsu) (hu : u.tsu = s.tsu)
    (hT : u.tbs = s.tbs) : Rescanned s t mode := by
  rw [rescan_tsu, hu, hT] at ht
  unfold Rescanned
  rw [ht]
  refine ⟨rfl, fun c => ?_⟩
  have hkey : (tab fun c : Fin 20 => (s.tsu.keys[c]).rescanned (s.tbs.tables.keymap[c]).valid
      (inScannedSet mode s.tbs.tables c))[c] = (s.tsu.keys[c]).rescanned (s.tbs.tables.keymap[c]).valid
        (inScannedSet mode s.tbs.tables c) := Vector.getElem_ofFn c.isLt
  dsimp only
  rw [hkey]
  exact TouchKey.rescanned_rows _ _ _

theorem rescan_unreported (mode : ScanMode) (h : ∀ c : Fin 20, (s.keq.keys[c]).reported = none) :
    (rescan mode s).slp = s.slp ∧ (rescan mode s).keq.queue = s.keq.queue ∧
    ∀ i : Fin 20, (rescan mode s).keq.keys[i] =
      if leavesHeld s mode i then (s.keq.keys[i]).lifted else s.keq.keys[i] := by
  have hmem : ∀ i, i ∈ indexesWhere (leavesTouched s mode) ∧ (s.tbs.tables.keymap[i]).valid = true ↔
      leavesHeld s mode i = true := fun i => by
    simp only [indexesWhere, List.mem_filter, List.mem_finRange, true_and, leavesTouched_eq]
    exact ⟨And.left, fun hl => ⟨hl, leavesHeld_valid hl⟩⟩
  unfold rescan
  obtain ⟨hslp, hqueue, hkeys⟩ := releaseAll_unreported (indexesWhere (leavesTouched s mode)) .normal
    (s := s.setTsu { s.tsu with
      mode := mode
      keys := tab fun c =>
        (s.tsu.keys[c]).rescanned (s.tbs.tables.keymap[c]).valid (inScannedSet mode s.tbs.tables c) }) h
  refine ⟨hslp, hqueue, fun i => (hkeys i).trans ?_⟩
  simp only [setTsu_tbs, hmem]
  rfl

/-- R101, R131. What a rail that has moved leaves of keys outside the reported-down set. -/
theorem railMoved_unreported (h : ∀ c : Fin 20, (s.keq.keys[c]).reported = none) :
    (railMoved s).slp = s.slp ∧ (railMoved s).keq.queue = s.keq.queue ∧
    ∀ i : Fin 20, (railMoved s).keq.keys[i] =
      if leavesHeld s (railMode s.mbs.pwrEn) i then (s.keq.keys[i]).lifted else s.keq.keys[i] :=
  rescan_unreported (s := recomputeFan (recomputeDuties (setRailChange .none s))) (railMode s.mbs.pwrEn) h

theorem rescanned_railMoved (s : State) : Rescanned s (railMoved s) (railMode s.mbs.pwrEn) :=
  .of_tsu (u := recomputeFan (recomputeDuties (setRailChange .none s))) rfl rfl rfl

end

/-! Departures -/

section
variable (cause : Cause) (d : Nat) (stage : Stage) (s : State)

theorem departCommon_mbs : (departCommon cause d stage s).mbs =
    { s.mbs.leave with shutdown := none, runTicks := none, stable := none, rstN := false } := by
  simp [departCommon]

theorem departCommon_keq : (departCommon cause d stage s).keq = (flush s).keq := by simp [departCommon]

theorem depart_rhs : (depart cause d stage s).rhs =
    ⟨(⟨s.rhs.nextOrdinal, stamp s, .restart (restartInfo cause d stage s)⟩ :: s.rhs.entries).take Config.historyDepth,
      s.rhs.nextOrdinal + 1, 0⟩ := by
  have hrhs : (departCommon cause d stage s).rhs =
      ⟨(⟨s.rhs.nextOrdinal, stamp s, .restart (restartInfo cause d stage s)⟩ :: s.rhs.entries).take Config.historyDepth,
        s.rhs.nextOrdinal + 1, 0⟩ := by
    simp [departCommon, pushHistory, stamp]
  unfold depart
  dsimp only
  split
  · rw [setMbs_rhs, hrhs]
  · simp only [switchOff_keeps, hrhs]

theorem switchOff_mbs (new : MbsState) : (switchOff new s).mbs = { s.mbs with
    state := new, pwrEn := false
    cycleTimer := if new = .cycling then some (s.tbs.tables.policy.cycleOffTime * 100) else none
    lockoutTimer := if new = .lockout ∧ 0 < s.tbs.tables.policy.lockoutRetry then
      some (s.tbs.tables.policy.lockoutRetry * 6000) else none } := by
  simp [switchOff, recomputeDuties]

/-- R78. The supervisor after a departure. -/
theorem depart_mbs : (depart cause d stage s).mbs = { s.mbs.leave with
    shutdown := none, runTicks := none, stable := none, rstN := false, state := (depart cause d stage s).mbs.state
    pwrEn := if stage = .reset then s.mbs.pwrEn else false
    resetTimer := if stage = .reset then some s.tbs.tables.policy.resetPulse else none
    cycleTimer := if stage = .cycle then some (s.tbs.tables.policy.cycleOffTime * 100) else none
    lockoutTimer := if stage = .lockout ∧ 0 < s.tbs.tables.policy.lockoutRetry then
      some (s.tbs.tables.policy.lockoutRetry * 6000) else none } := by
  unfold depart
  dsimp only
  split
  next h => subst h; simp [departCommon_mbs, Mbs.leave]
  next h =>
    rw [switchOff_mbs, departCommon_mbs]
    cases stage <;> first | exact absurd rfl h | simp [Stage.target, Mbs.leave]

theorem depart_state : (depart cause d stage s).mbs.state = stage.target := by
  unfold depart
  dsimp only
  split
  next h => subst h; rfl
  next h =>
    rw [switchOff_mbs]

/-- R94. The snapshot at a departure holds each sensor's temperature as R94 says. -/
theorem snapshotOf_snapshot (i : Fin 4) : SnapshotOf s i (snapshot s)[i] := by
  have hsnap : (snapshot s)[i] = snapshotTemp s.tmu.lastSet i := Vector.getElem_ofFn i.isLt
  rw [hsnap]
  refine ⟨fun h => by rw [h]; rfl, fun set h => ⟨fun hbad => ?_, fun held hgood htemp => ?_⟩⟩ <;>
    rw [h] <;> dsimp only [snapshotTemp]
  · split
    · rfl
    · next hf => rw [hbad.resolve_left hf]; rfl
  · rw [if_neg hgood, htemp]; rfl

/-- R91. The run time counts in RUN and WARN alone. -/
theorem runTime_eq (m : Mbs) :
    runTime m = if m.state = .run ∨ m.state = .warn then min 65535 (m.runTicks.getD 0 / 100) else 0 := by
  unfold runTime
  split
  next h ht => rw [h, ht]; rfl
  next h ht => rw [h, ht]; rfl
  next hrun hwarn =>
    split
    next h =>
      cases ht : m.runTicks with
      | none => rfl
      | some x => exact h.elim (fun h => absurd ht (hrun x h)) (fun h => absurd ht (hwarn x h))
    next => rfl

/-- R78, R91, R92, R94. The RESTART entry of a departure. -/
theorem restartEntry_depart : RestartEntry s (depart cause d stage s) cause d stage s.mbs.count := by
  refine ⟨restartInfo cause d stage s, ?_, rfl, rfl, rfl, rfl, rfl, fun i => ?_, rfl, ?_, rfl, rfl⟩
  · unfold EntryPushed
    rw [depart_rhs, (depart_keeps _ _ _ _).2.1]
    rfl
  · exact (snapshotOf_snapshot s i)
  · exact runTime_eq s.mbs

/-- R31, R101. What a switch-off hands to the rail's move: the rail off, keys, touch unit, tables and link as before. -/
theorem switchOff_eq_railMoved (new : MbsState) : ∃ w, switchOff new s = railMoved w ∧ w.mbs.pwrEn = false ∧
    w.tsu = s.tsu ∧ w.tbs = s.tbs ∧ w.keq = s.keq ∧ w.slp = s.slp :=
  ⟨_, rfl, rfl, by simp, by simp, by simp, by simp⟩

theorem leavesHeld_congr {s t : State} (mode : ScanMode) (htsu : t.tsu = s.tsu) (htbs : t.tbs = s.tbs) (c : Fin 20) :
    leavesHeld t mode c = leavesHeld s mode c := by
  unfold leavesHeld
  rw [htsu, htbs]

theorem Rescanned.congr {s t u : State} {mode : ScanMode} (h : Rescanned u t mode) (htsu : u.tsu = s.tsu)
    (htbs : u.tbs = s.tbs) : Rescanned s t mode := by
  unfold Rescanned at *
  rw [htsu, htbs] at h
  exact h

variable {s} in
theorem switchOff_unreported (new : MbsState) (h : ∀ c : Fin 20, (s.keq.keys[c]).reported = none) :
    (switchOff new s).slp = s.slp ∧ (switchOff new s).keq.queue = s.keq.queue ∧
    ∀ i : Fin 20, (switchOff new s).keq.keys[i] =
      if leavesHeld s .standby i then (s.keq.keys[i]).lifted else s.keq.keys[i] := by
  obtain ⟨w, hw, hpwr, htsu, htbs, hkeq, hslp⟩ := switchOff_eq_railMoved s new
  rw [← hkeq] at h
  obtain ⟨hs, hq, hk⟩ := railMoved_unreported h
  rw [hw, ← hslp, ← hkeq]
  refine ⟨hs, hq, fun i => (hk i).trans ?_⟩
  rw [hpwr, ← leavesHeld_congr _ htsu htbs]
  rfl

theorem rescanned_switchOff (new : MbsState) : Rescanned s (switchOff new s) .standby := by
  obtain ⟨w, hw, hpwr, htsu, htbs, -⟩ := switchOff_eq_railMoved s new
  have hscan := rescanned_railMoved w
  rw [hpwr, ← hw] at hscan
  exact hscan.congr htsu htbs

variable {s} in
/-- R134. Where a rail that has moved leaves no key that counts as held, every chord is IDLE. -/
theorem railMoved_unheld (h : ∀ c : Fin 20, keyHeld (railMoved s) c = false)
    (hr : ∀ i : Fin 8, (s.tbs.tables.chords[i]).inRange = true) (i : Fin 8) :
    (railMoved s).keq.chords[i] = ⟨.idle, 0⟩ := by
  have hT : (railMoved s).tbs = s.tbs := by simp
  rw [← hT] at hr
  unfold railMoved at *
  generalize rescan _ _ = u at *
  exact syncChords_unheld (s := u) h hr i

theorem flush_key (c : Fin 20) : (flush s).keq.keys[c] = (s.keq.keys[c]).flushed ((s.tsu.keys[c]).state != .idle) :=
  Vector.getElem_ofFn c.isLt

theorem flush_unreported (c : Fin 20) : ((flush s).keq.keys[c]).reported = none := by
  rw [flush_key]
  rfl

/-- R136, R103, R131. The keys, the queue and the link after a departure: the flush, and the releases that the scanned
set of STANDBY brings after it. -/
theorem depart_keys : (depart cause d stage s).slp = s.slp ∧ (depart cause d stage s).keq.queue = [] ∧
    ∀ c : Fin 20, (depart cause d stage s).keq.keys[c] =
      if (stage ≠ .reset && leavesHeld s .standby c) = true then
        ((s.keq.keys[c]).flushed ((s.tsu.keys[c]).state != .idle)).lifted
      else (s.keq.keys[c]).flushed ((s.tsu.keys[c]).state != .idle) := by
  obtain ⟨-, -, -, -, htsu, -, -, hslp, htbs, -⟩ := departCommon_keeps cause d stage s
  have hkeq := departCommon_keq cause d stage s
  have hun := flush_unreported s
  have hkey := flush_key s
  unfold depart
  dsimp only
  generalize departCommon cause d stage s = u at *
  rw [← hkeq] at hkey hun
  have hqueue : u.keq.queue = [] := by rw [hkeq]; exact flush_queue s
  split
  next h =>
    refine ⟨hslp, hqueue, fun c => ?_⟩
    exact (hkey c).trans (if_neg (by simp [h])).symm
  next h =>
    obtain ⟨hs, hq, hk⟩ := switchOff_unreported (s := u) stage.target hun
    refine ⟨hs.trans hslp, hq.trans hqueue, fun c => (hk c).trans ?_⟩
    rw [leavesHeld_congr _ htsu htbs, hkey]
    simp only [h, ne_eq, not_false_eq_true, decide_true, Bool.true_and]

/-- R134, R136. In states where a key held down is held at the touch unit too, none counts as held after a departure. -/
theorem depart_unheld (hd : DownKeysOk s) (c : Fin 20) : keyHeld (depart cause d stage s) c = false := by
  obtain ⟨-, -, hk⟩ := depart_keys cause d stage s
  have htbs : (depart cause d stage s).tbs = s.tbs := by simp
  unfold keyHeld
  rw [hk, htbs]
  cases hv : (s.tbs.tables.keymap[c]).valid with
  | false => rfl
  | true =>
    split
    · rfl
    · change (true && (s.keq.keys[c]).down && !((s.keq.keys[c]).suppressed || ((s.tsu.keys[c]).state != .idle))) = false
      cases hdown : (s.keq.keys[c]).down with
      | false => rfl
      | true =>
        have hbusy : ((s.tsu.keys[c]).state != .idle) = true := by
          rcases hd c hdown hv with h | h <;> rw [h] <;> rfl
        rw [hbusy, Bool.or_true]
        rfl

/-- R134, R136. In states where a key held down is held at the touch unit too, every chord is IDLE after a departure. -/
theorem depart_chords (hd : stage = .reset ∨ DownKeysOk s ∧ ∀ i : Fin 8, (s.tbs.tables.chords[i]).inRange = true)
    (i : Fin 8) : (depart cause d stage s).keq.chords[i] = ⟨.idle, 0⟩ := by
  have hheld := depart_unheld cause d stage s
  have hkeq := departCommon_keq cause d stage s
  have htbs : (departCommon cause d stage s).tbs = s.tbs := by simp
  unfold depart at *
  dsimp only at *
  generalize departCommon cause d stage s = u at *
  split
  next h =>
    have hidle : u.keq.chords[i] = ⟨.idle, 0⟩ := by
      rw [hkeq]
      exact Vector.getElem_ofFn i.isLt
    exact hidle
  next h =>
    rw [if_neg h] at hheld
    obtain ⟨hdown, hr⟩ := hd.resolve_left h
    obtain ⟨w, hw, -, -, hwtbs, -⟩ := switchOff_eq_railMoved u stage.target
    rw [hw] at hheld ⊢
    rw [← htbs, ← hwtbs] at hr
    exact railMoved_unheld (hheld hdown) hr i

/-- R136, R103, R131. The flush of a departure, and the releases that the scanned set of STANDBY brings after it. -/
theorem flushed_depart : Flushed s (depart cause d stage s) fun c => stage ≠ .reset && leavesHeld s .standby c := by
  obtain ⟨-, hq, hk⟩ := depart_keys cause d stage s
  refine ⟨hq, fun c => (hk c).trans ?_, fun hd hr => depart_chords cause d stage s (.inr ⟨hd, hr⟩)⟩
  split <;> rfl

theorem depart_tsu_reset : (depart cause d .reset s).tsu = s.tsu := by
  have htsu : (departCommon cause d .reset s).tsu = s.tsu := by simp
  unfold depart
  rw [if_pos rfl, setMbs_tsu, htsu]

theorem rescanned_depart (h : stage ≠ .reset) : Rescanned s (depart cause d stage s) .standby := by
  obtain ⟨-, -, -, -, htsu, -, -, -, htbs, -⟩ := departCommon_keeps cause d stage s
  have hscan := (rescanned_switchOff (departCommon cause d stage s) stage.target).congr htsu htbs
  unfold depart
  rw [if_neg h]
  exact hscan

/-- R37. No filter window outlasts a departure. -/
theorem depart_filter : (depart cause d stage s).hfd.filter = none := by
  have hfilter : (departCommon cause d stage s).hfd.filter = none := by rw [departCommon_hfd]
  unfold depart
  dsimp only
  generalize departCommon cause d stage s = u at *
  split
  · exact hfilter
  · simp [switchOff, railMoved, recomputeFan, setFanDuty, recomputeDuties, setRailChange, hfilter]

/-- R78 to R80, R84, R91, R92, R94, R103, R136. A departure, whatever the count before it. -/
theorem departed_depart : Departed s (depart cause d stage s) cause d stage s.mbs.count := by
  have hmbs := depart_mbs cause d stage s
  obtain ⟨hpowered, htick, htmu, hznc, hpog, -, htbs, hpending⟩ := depart_keeps cause d stage s
  obtain ⟨hslp, -, -⟩ := depart_keys cause d stage s
  refine ⟨by rw [depart_state]; cases stage <;> rfl, by rw [hmbs]; rfl, by rw [hmbs], by rw [hmbs], by rw [hmbs],
    by rw [hmbs], by rw [hmbs], by rw [hmbs], by rw [hmbs], by rw [hmbs], by rw [hmbs]; rfl, by rw [hmbs]; rfl, by rw [hmbs]; rfl,
    restartEntry_depart cause d stage s, flushed_depart cause d stage s, fun h => ?_,
    rescanned_depart cause d stage s, htbs, htmu, hznc, by rw [hpog], by rw [hslp], hpowered, hpending, htick,
    depart_filter cause d stage s, (fanKept_depart cause d stage s).1⟩
  subst h
  exact ⟨depart_tsu_reset cause d s, depart_chords cause d .reset s (.inl rfl)⟩

end


/-! The restart decision -/

/-- R75, R77. A restart decision counted, and reported as F15 where the count decides for LOCKOUT. -/
def counted (cause : Cause) (s : State) : State :=
  let raised := s.setMbs { s.mbs with count := s.mbs.count + 1 }
  if decisionStage s.tbs.tables.policy cause (s.mbs.count + 1) = .lockout then
    recordOccurrence 15 cause.code raised else raised

/-- R91. The state in which a restart decision departs. -/
def decided (cause : Cause) (s : State) : State :=
  (counted cause s).setMbs { (counted cause s).mbs with bootCause := cause }

theorem restartDecision_taken {cause : Cause} {s : State} (d : Nat) (h : s.mbs.state.takesRestart = true) :
    restartDecision cause d s =
      depart cause d (decisionStage s.tbs.tables.policy cause (s.mbs.count + 1)) (decided cause s) := by
  unfold restartDecision
  rw [if_pos h]
  rfl

theorem RecordsMoved.setMbs {s u : State} (h : RecordsMoved s u) (x : Mbs) :
    RecordsMoved (s.setMbs x) (u.setMbs x) := by
  unfold RecordsMoved at *
  rw [h]
  rfl

theorem recordsMoved_decided (cause : Cause) (s : State) :
    RecordsMoved (s.setMbs { s.mbs with count := s.mbs.count + 1, bootCause := cause }) (decided cause s) := by
  have hcounted : RecordsMoved (s.setMbs { s.mbs with count := s.mbs.count + 1 }) (counted cause s) := by
    unfold counted
    dsimp only
    split
    · exact recordsMoved_recordOccurrence _ _ _
    · exact .refl _
  have hset := hcounted.setMbs { (counted cause s).mbs with bootCause := cause }
  have hmbs := hcounted.mbs
  rw [setMbs_mbs] at hmbs
  rw [hmbs] at hset
  unfold decided
  rw [hmbs]
  exact hset

/-- What a restart decision has counted, and what it has recorded, does not show in how the departure follows. -/
theorem Departed.of_decided {s u t : State} {cause boot : Cause} {d n m : Nat} {stage : Stage}
    (hu : RecordsMoved (s.setMbs { s.mbs with count := m, bootCause := boot }) u) (h : Departed u t cause d stage n) :
    Departed s t cause d stage n := by
  unfold RecordsMoved at hu
  generalize u.fcl = f, u.keq.queue = q, u.slp.tx = x at hu
  subst hu
  exact h

theorem decisionStage_eq (p : Policy) (cause : Cause) (count : Nat) : decisionStage p cause count =
    if count ≤ p.nReset ∧ cause ≠ .pgTimeout ∧ cause ≠ .pgLost then .reset
    else if count ≤ p.nReset + p.nCycle then .cycle
    else .lockout := by
  unfold decisionStage
  by_cases hn : count ≤ p.nReset
  · have hc : count ≤ p.nReset + p.nCycle := by omega
    simp only [hn, hc, if_true, true_and, ← not_or]
    split <;> simp_all
  · simp only [hn, if_false, false_and]

theorem stage_of_lockout {stage : Stage} (h : stage.target = .lockout) : stage = .lockout := by
  cases stage <;> first | rfl | cases h

/-- Settles O32: by the departure of the stage that the count decides, from the state that the decision leaves. -/
theorem aRestartDecisionClimbsTheLadder : Obligations.ARestartDecisionClimbsTheLadder := by
  refine fun cause d s => ⟨fun hs => ?_, fun hp hb hr hw => restartDecision_absorbed cause d s ?_⟩
  · have htakes : s.mbs.state.takesRestart = true := by rcases hs with h | h | h | h <;> rw [h] <;> rfl
    have hmoved := recordsMoved_decided cause s
    have hmbs := hmoved.mbs
    rw [setMbs_mbs] at hmbs
    have hrecord : decisionStage s.tbs.tables.policy cause (s.mbs.count + 1) = .lockout →
        (decided cause s).fcl.records[(15 : FaultKind)] =
          (s.fcl.records[(15 : FaultKind)]).occur 15 cause.code (s.tick % 65536) := fun h => by
      unfold decided counted
      rw [setMbs_fcl, if_pos h]
      exact recordOccurrence_record_same 15 cause.code _
    rw [restartDecision_taken d htakes]
    generalize decided cause s = u at *
    have hdeparted := departed_depart cause d (decisionStage s.tbs.tables.policy cause (s.mbs.count + 1)) u
    have hbooted := depart_mbs cause d (decisionStage s.tbs.tables.policy cause (s.mbs.count + 1)) u
    have hstate := depart_state cause d (decisionStage s.tbs.tables.policy cause (s.mbs.count + 1)) u
    obtain ⟨-, htick, -, -, -, hfcl, -⟩ :=
      depart_keeps cause d (decisionStage s.tbs.tables.policy cause (s.mbs.count + 1)) u
    have hut := hmoved.tick
    rw [hmbs] at hdeparted
    generalize depart cause d _ u = t at *
    refine ⟨⟨?_, ?_⟩, fun hl => .of_occur ?_ ?_⟩
    · rw [← decisionStage_eq]
      exact hdeparted.of_decided hmoved
    · rw [hbooted, hmbs]; rfl
    · exact htick.trans hut
    · rw [hfcl]
      exact hrecord (stage_of_lockout (hstate.symm.trans hl))
  · cases hm : s.mbs.state <;> first | rfl | contradiction

end Sys2Proof.Machine
end

section
/-! FAULT CLEAR (R24, R31, R51, R52, R56, R64, R65, R161, R164). -/

namespace Sys2Proof.Machine

/-! The switch-on -/

section
variable (s : State)

/-- R102. No key leaves the scanned set for that of ACTIVE. -/
theorem leavesHeld_active (c : Fin 20) : leavesHeld s .active c = false := by
  unfold leavesHeld inScannedSet
  cases (s.tbs.tables.keymap[c]).valid <;> simp

theorem indexesWhere_leavesTouched_active : indexesWhere (leavesTouched s .active) = [] :=
  List.filter_eq_nil_iff.2 fun c _ => by rw [leavesTouched_eq, leavesHeld_active]; exact Bool.false_ne_true

theorem rescan_active_slp : (rescan .active s).slp = s.slp := by
  rw [rescan, indexesWhere_leavesTouched_active]
  rfl

/-- R65. What a switch-on hands to the rail's move: the rail on, POWERING begun, keys, touch unit, tables and link as
before. -/
theorem switchOn_eq_railMoved : ∃ w, switchOn s = railMoved w ∧ w.mbs.pwrEn = true ∧
    w.mbs = { s.mbs.leave with
      state := .powering, pwrEn := true, rstN := false, pgRunning := true
      pgLeft := s.tbs.tables.policy.pgTimeout } ∧
    w.tsu = s.tsu ∧ w.tbs = s.tbs ∧ w.slp = s.slp :=
  ⟨_, rfl, rfl, by simp [recomputeDuties, handDemands], by simp, by simp, by simp⟩

theorem switchOn_fcl : (switchOn s).fcl = s.fcl := by simp only [switchOn_keeps]

theorem switchOn_mbs : (switchOn s).mbs = { s.mbs.leave with
    state := .powering, pwrEn := true, rstN := false, pgRunning := true
    pgLeft := s.tbs.tables.policy.pgTimeout } := by
  obtain ⟨w, hw, -, hmbs, -⟩ := switchOn_eq_railMoved s
  simp only [hw, railMoved_keeps, hmbs]

/-- R101. No release is handed at a switch-on, so nothing is sent. -/
theorem switchOn_slp : (switchOn s).slp = s.slp := by
  obtain ⟨w, hw, hpwr, -, -, -, hslp⟩ := switchOn_eq_railMoved s
  have hscan := rescan_active_slp (recomputeFan (recomputeDuties (setRailChange .none w)))
  rw [hw, ← hslp]
  unfold railMoved
  rw [hpwr]
  exact hscan

theorem rescanned_switchOn : Rescanned s (switchOn s) .active := by
  obtain ⟨w, hw, hpwr, -, htsu, htbs, -⟩ := switchOn_eq_railMoved s
  have hscan := rescanned_railMoved w
  rw [hpwr, ← hw] at hscan
  exact hscan.congr htsu htbs

variable {s}

/-- R45, R49. With the rail on, a zone's demand depends on the tables, the last set and the zone's cut-out alone. -/
theorem zoneDemand_railOn_congr {t : State} {i : Fin 3} (htbs : t.tbs = s.tbs) (htmu : t.tmu = s.tmu)
    (hmbs : t.mbs.state.unheated = s.mbs.state.unheated) (hcut : (t.znc.zones[i]).cutOut = (s.znc.zones[i]).cutOut) :
    zoneDemand t true i = zoneDemand s true i := by
  unfold zoneDemand fallbackDemand lastReading
  rw [htbs, htmu, hmbs, hcut]
  rfl

/-! The judgement of the HOLD inhibit -/

/-- R64, R161. The two conditions are judged, and a HOLD inhibit that has ended may switch the main board on. -/
theorem rejudgeRelease_cases (s : State) :
    (rejudgeRelease s = rejudge s ∧ (s.mbs.state ≠ .heatHold ∨ s.znc.release = false ∨ s.fcl.hold = false ∨
      (rejudge s).fcl.hold = true)) ∨
    (rejudgeRelease s = switchOn (rejudge s) ∧ s.mbs.state = .heatHold ∧ s.znc.release = true ∧ s.fcl.hold = true ∧
      (rejudge s).fcl.hold = false) := by
  by_cases hswitch : s.mbs.state = .heatHold ∧ s.znc.release = true ∧ s.fcl.hold = true ∧ (rejudge s).fcl.hold = false
  · obtain ⟨hm, hr, hh, hend⟩ := hswitch
    refine .inr ⟨?_, hm, hr, hh, hend⟩
    unfold rejudgeRelease
    rw [if_pos ⟨hh, hend⟩]
    exact if_pos ⟨hm, hr, hend⟩
  · refine .inl ⟨?_, ?_⟩
    · unfold rejudgeRelease
      split
      next hh => exact if_neg fun ⟨hm, hr, _⟩ => hswitch ⟨hm, hr, hh⟩
      next => rfl
    · simpa only [not_and_or, Bool.not_eq_true, Bool.not_eq_false] using hswitch

/-- R161. A reaction is in effect while a record out of CLEAR has it in force. -/
theorem someReaction_iff (s : State) (p : ReactionEntry → Bool) : someReaction s p = true ↔
    ∃ k : Fin 16, (s.fcl.records[k]).state ≠ .clear ∧ p (reactionInForce s.tbs.tables k) = true := by
  simp [someReaction]

end

/-! The heaters' release -/

section
variable (s : State)

/-- R24. The LATCHED_OFF channels made IDLE, their counts 0, before the duties and the zones are told. -/
def heatersIdle : State := s.setHfd { s.hfd with
  channels := tab fun i =>
    if (s.hfd.channels[i]).state = .latchedOff then { s.hfd.channels[i] with state := .idle, tripCount := 0 }
    else s.hfd.channels[i] }

theorem releaseHeaters_eq_sync : releaseHeaters s = syncDegraded (recomputeDuties (heatersIdle s)) := rfl

theorem heatersIdle_channel (i : Fin 3) : (heatersIdle s).hfd.channels[i] = { s.hfd.channels[i] with
    state := if (s.hfd.channels[i]).state = .latchedOff then .idle else (s.hfd.channels[i]).state
    tripCount := if (s.hfd.channels[i]).state = .latchedOff then 0 else (s.hfd.channels[i]).tripCount } := by
  refine (Vector.getElem_ofFn i.isLt).trans ?_
  dsimp only
  split <;> rfl

/-- R24, R31. The release of the heaters on one channel. -/
theorem releaseHeaters_channel (i : Fin 3) : (releaseHeaters s).hfd.channels[i] = { s.hfd.channels[i] with
    state := if (s.hfd.channels[i]).state = .latchedOff then .idle else (s.hfd.channels[i]).state
    tripCount := if (s.hfd.channels[i]).state = .latchedOff then 0 else (s.hfd.channels[i]).tripCount
    applied := newDuty (releaseHeaters s) i } := by
  have hchannel : (releaseHeaters s).hfd.channels[i] =
      { (heatersIdle s).hfd.channels[i] with applied := newDuty (heatersIdle s) i } :=
    recomputeDuties_channel (heatersIdle s) i
  rw [hchannel, heatersIdle_channel, releaseHeaters_eq_sync, newDuty_syncDegraded, newDuty_recomputeDuties]

theorem syncDegraded_degraded (i : Fin 3) : ((syncDegraded s).znc.zones[i]).degraded =
    if zoneDegraded s i then (s.znc.zones[i]).degraded else 0 :=
  congrArg Zone.degraded (Vector.getElem_ofFn i.isLt)

/-- R51, R52. The degraded timers after the release of the heaters. -/
theorem releaseHeaters_degraded (i : Fin 3) : ((releaseHeaters s).znc.zones[i]).degraded =
    if zoneDegraded (releaseHeaters s) i then (s.znc.zones[i]).degraded else 0 := by
  have hz : zoneDegraded (releaseHeaters s) i = zoneDegraded (recomputeDuties (heatersIdle s)) i :=
    zoneDegraded_congr rfl rfl rfl Iff.rfl
  rw [hz]
  exact syncDegraded_degraded (recomputeDuties (heatersIdle s)) i

theorem releaseHeaters_eq : releaseHeaters s = { s with
    hfd := { s.hfd with channels := (releaseHeaters s).hfd.channels }
    znc := { s.znc with zones := tab fun i =>
      { s.znc.zones[i] with degraded := ((releaseHeaters s).znc.zones[i]).degraded } } } := by
  have hzones : (releaseHeaters s).znc.zones = tab fun i =>
      { s.znc.zones[i] with degraded := ((releaseHeaters s).znc.zones[i]).degraded } := by
    simp only [releaseHeaters_eq_sync, syncDegraded_degraded]
    rfl
  rw [← hzones]
  rfl

theorem degraded_cutOut (v : Vector Zone 3) (f : Fin 3 → Nat) (i : Fin 3) :
    ((tab fun i => { v[i] with degraded := f i })[i]).cutOut = v[i].cutOut := by simp

theorem degraded_self (v : Vector Zone 3) : (tab fun i : Fin 3 => { v[i] with degraded := (v[i]).degraded }) = v :=
  Vector.ext fun _ hi => Vector.getElem_ofFn hi

/-- R164, R24. What follows the clear: with F6 cleared the heaters are released. -/
def thenRelease (six : Bool) : State := if six then releaseHeaters s else s

theorem thenRelease_eq (six : Bool) : thenRelease s six = { s with
    hfd := { s.hfd with channels := (thenRelease s six).hfd.channels }
    znc := { s.znc with zones := tab fun i =>
      { s.znc.zones[i] with degraded := ((thenRelease s six).znc.zones[i]).degraded } } } := by
  cases six with
  | true => exact releaseHeaters_eq s
  | false =>
    exact (congrArg (fun z => s.setZnc { s.znc with zones := z }) (degraded_self s.znc.zones)).symm

theorem thenRelease_keeps (six : Bool) : (thenRelease s six).tmu = s.tmu ∧ (thenRelease s six).mbs = s.mbs ∧
    (thenRelease s six).rhs = s.rhs ∧ (thenRelease s six).tsu = s.tsu ∧ (thenRelease s six).pog = s.pog ∧
    (thenRelease s six).fcl = s.fcl ∧ (thenRelease s six).slp = s.slp ∧ (thenRelease s six).tbs = s.tbs := by
  cases six <;> exact ⟨rfl, rfl, rfl, rfl, rfl, rfl, rfl, rfl⟩

theorem thenRelease_demand (six : Bool) (i : Fin 3) :
    ((thenRelease s six).hfd.channels[i]).demand = (s.hfd.channels[i]).demand := by
  cases six with
  | false => rfl
  | true => exact (congrArg HeaterChannel.demand (releaseHeaters_channel s i) :)

/-! The clear -/

/-- R164. The kinds cleared are those named whose record is LATCHED and whose condition is absent. -/
theorem clearedKinds_contains (kind : Byte) (k : Fin 16) : (clearedKinds s kind.toNat).contains k = true ↔
    (kind = 0xFF ∨ kind.toNat = k.val) ∧ (s.fcl.records[k]).state = .latched ∧ faultCondition s k = false := by
  have hall : kind.toNat = 0xFF ↔ kind = 0xFF := by rw [← BitVec.toNat_inj]; rfl
  simp only [clearedKinds, namedKinds, clearable, List.contains_iff_mem, List.mem_filter, List.mem_finRange, true_and,
    Bool.or_eq_true, decide_eq_true_eq, Bool.and_eq_true, beq_iff_eq, Bool.not_eq_true', hall]
  rw [eq_comm (a := k.val)]

/-- R161, R164. The Fault Collector after a clear. -/
def clearedFcl (kind : Nat) : Fcl := (rejudge (clearRecords kind s)).fcl

theorem clearedFcl_record (kind : Nat) (k : Fin 16) : (clearedFcl s kind).records[k] =
    if (clearedKinds s kind).contains k then (s.fcl.records[k]).cleared else s.fcl.records[k] :=
  Vector.getElem_ofFn k.isLt

theorem rejudge_clearRecords (kind : Nat) : rejudge (clearRecords kind s) = s.setFcl (clearedFcl s kind) := by
  have hset : clearRecords kind s = s.setFcl (clearRecords kind s).fcl := rfl
  unfold clearedFcl
  generalize clearRecords kind s = u at *
  rw [hset]
  rfl

theorem clearedFcl_reactions (kind : Nat) :
    ((clearedFcl s kind).hold = true ↔ ∃ k : Fin 16, ((clearedFcl s kind).records[k]).state ≠ .clear ∧
      (reactionInForce s.tbs.tables k).hold = true) ∧
    ((clearedFcl s kind).indication = true ↔ ∃ k : Fin 16, ((clearedFcl s kind).records[k]).state ≠ .clear ∧
      (reactionInForce s.tbs.tables k).indicate = true) := by
  have htbs : (clearRecords kind s).tbs = s.tbs := rfl
  unfold clearedFcl
  rw [← htbs]
  generalize clearRecords kind s = u
  exact ⟨someReaction_iff u fun e => e.hold, someReaction_iff u fun e => e.indicate⟩

/-- R64. The state in which the heaters are released: a clear that ends a HOLD inhibit may switch the main board on. -/
theorem clearFaults_eq (kind : Nat) : ∃ u,
    clearFaults kind s = thenRelease u ((clearedKinds s kind).contains 6) ∧
    ((u = s.setFcl (clearedFcl s kind) ∧
      (s.mbs.state ≠ .heatHold ∨ s.znc.release = false ∨ s.fcl.hold = false ∨ (clearedFcl s kind).hold = true)) ∨
    (u = switchOn (s.setFcl (clearedFcl s kind)) ∧
      s.mbs.state = .heatHold ∧ s.znc.release = true ∧ s.fcl.hold = true ∧ (clearedFcl s kind).hold = false)) := by
  refine ⟨rejudgeRelease (clearRecords kind s), rfl, ?_⟩
  rcases rejudgeRelease_cases (clearRecords kind s) with ⟨h, hstay⟩ | ⟨h, hswitch⟩ <;>
    rw [h, rejudge_clearRecords]
  · exact .inl ⟨rfl, hstay⟩
  · exact .inr ⟨rfl, hswitch⟩

/-- R24, R64. What a clear leaves alone, and the channels and zones that it reaches when F6 is cleared. -/
theorem clearFaults_rest (kind : Nat) :
    (clearFaults kind s).fcl = clearedFcl s kind ∧ (clearFaults kind s).slp = s.slp ∧
    ((clearedKinds s kind).contains 6 = true → ∀ i : Fin 3,
      (clearFaults kind s).hfd.channels[i] = { s.hfd.channels[i] with
        state := if (s.hfd.channels[i]).state = .latchedOff then .idle else (s.hfd.channels[i]).state
        tripCount := if (s.hfd.channels[i]).state = .latchedOff then 0 else (s.hfd.channels[i]).tripCount
        applied := newDuty (clearFaults kind s) i, demand := ((clearFaults kind s).hfd.channels[i]).demand } ∧
      ((clearFaults kind s).znc.zones[i]).degraded =
        if zoneDegraded (clearFaults kind s) i then (s.znc.zones[i]).degraded else 0) ∧
    ((clearedKinds s kind).contains 6 = false → (clearFaults kind s).znc.zones = s.znc.zones) := by
  obtain ⟨u, hu, hcases⟩ := clearFaults_eq s kind
  generalize clearedFcl s kind = F, (clearedKinds s kind).contains 6 = six, clearFaults kind s = t at *
  subst hu
  have hrest : u.fcl = F ∧ u.slp = s.slp ∧ u.znc.zones = s.znc.zones ∧ ∀ i : Fin 3,
      u.hfd.channels[i] = { s.hfd.channels[i] with
        demand := (u.hfd.channels[i]).demand, applied := (u.hfd.channels[i]).applied } := by
    rcases hcases with ⟨rfl, -⟩ | ⟨rfl, -⟩
    · exact ⟨rfl, rfl, rfl, fun _ => rfl⟩
    · refine ⟨switchOn_fcl _, switchOn_slp _,
        (congrArg Znc.zones (switchOn_znc (s.setFcl F)) :), fun i => ?_⟩
      rw [switchOn_channel]
      rfl
  obtain ⟨hfcl, hslp, hzones, hchannel⟩ := hrest
  obtain ⟨-, -, -, -, -, htfcl, htslp, -⟩ := thenRelease_keeps u six
  refine ⟨htfcl.trans hfcl, htslp.trans hslp, fun h6 i => ?_, fun h6 => ?_⟩ <;> subst h6
  · have hreleased := releaseHeaters_channel u i
    have hdegraded := releaseHeaters_degraded u i
    have hdemand := thenRelease_demand u true i
    rw [hchannel] at hreleased
    rw [hzones] at hdegraded
    refine ⟨?_, hdegraded⟩
    rw [hdemand]
    exact hreleased
  · exact hzones

/-- R24, R31, R51. A clear that switches nothing on. -/
theorem clearFaults_stays (kind : Nat)
    (h : s.mbs.state ≠ .heatHold ∨ s.znc.release = false ∨ s.fcl.hold = false ∨ (clearedFcl s kind).hold = true) :
    clearFaults kind s = { s with
      fcl := clearedFcl s kind, hfd := { s.hfd with channels := (clearFaults kind s).hfd.channels }
      znc := { s.znc with zones := tab fun i : Fin 3 =>
        { s.znc.zones[i] with degraded := ((clearFaults kind s).znc.zones[i]).degraded } } } ∧
    (∀ i : Fin 3, ((clearFaults kind s).hfd.channels[i]).demand = (s.hfd.channels[i]).demand) ∧
    ((clearedKinds s kind).contains 6 = false →
      (clearFaults kind s).hfd = s.hfd ∧ (clearFaults kind s).znc = s.znc) := by
  obtain ⟨u, hu, hcases⟩ := clearFaults_eq s kind
  generalize clearedFcl s kind = F, (clearedKinds s kind).contains 6 = six, clearFaults kind s = t at *
  subst hu
  rcases hcases with ⟨rfl, -⟩ | ⟨-, hm, hrel, hhold, hend⟩
  · refine ⟨thenRelease_eq (s.setFcl F) six, fun i => ?_, fun h6 => ?_⟩
    · exact thenRelease_demand (s.setFcl F) six i
    · subst h6
      exact ⟨rfl, rfl⟩
  · rw [hrel, hhold, hend] at h
    rcases h with h | h | h | h
    · exact absurd hm h
    all_goals cases h

/-- R56, R64 to R66, R101. A clear that ends the HOLD inhibit in HEAT_HOLD, with the release condition. -/
theorem clearFaults_switches (kind : Nat) (hm : s.mbs.state = .heatHold) (hr : s.znc.release = true)
    (hh : s.fcl.hold = true) (hend : (clearedFcl s kind).hold = false) :
    let t := clearFaults kind s
    t.mbs = { s.mbs.leave with
      state := .powering, pwrEn := true, rstN := false, pgRunning := true
      pgLeft := s.tbs.tables.policy.pgTimeout } ∧
    t.rhs = s.rhs ∧ t.tbs = s.tbs ∧ t.tmu = s.tmu ∧ t.pog = s.pog ∧
    t.znc = { s.znc with
      override := false
      zones := tab fun i : Fin 3 => { s.znc.zones[i] with degraded := (t.znc.zones[i]).degraded } } ∧
    Rescanned s t .active ∧ ∀ i : Fin 3, (t.hfd.channels[i]).demand = zoneDemand t true i := by
  obtain ⟨u, hu, hcases⟩ := clearFaults_eq s kind
  dsimp only
  generalize clearedFcl s kind = F, (clearedKinds s kind).contains 6 = six, clearFaults kind s = t at *
  rcases hcases with ⟨-, h | h | h | h⟩ | ⟨hswitched, -⟩
  · exact absurd hm h
  · rw [hr] at h; cases h
  · rw [hh] at h; cases h
  · rw [hend] at h; cases h
  · have hframe := thenRelease_eq u six
    have hdemand := fun i => thenRelease_demand u six i
    obtain ⟨htmu, hmbs, hrhs, htsu, hpog, -, -, htbs⟩ := thenRelease_keeps u six
    rw [← hu] at hframe hdemand htmu hmbs hrhs htsu hpog htbs
    obtain ⟨-, -, humu, hurhs, hupog, -, hutbs, -⟩ := switchOn_keeps (s.setFcl F)
    have humbs := switchOn_mbs (s.setFcl F)
    have hscan := rescanned_switchOn (s.setFcl F)
    have hznc := switchOn_znc (s.setFcl F)
    have hchannel := fun i => congrArg HeaterChannel.demand (switchOn_channel (s.setFcl F) i)
    rw [← hswitched] at humu hurhs hupog hutbs humbs hscan hznc
    simp only [← hswitched] at hchannel
    have hzones : t.znc = { s.znc with
        override := false
        zones := tab fun i : Fin 3 => { s.znc.zones[i] with degraded := (t.znc.zones[i]).degraded } } := by
      have h := congrArg State.znc hframe
      rw [hznc] at h
      exact h
    refine ⟨hmbs.trans humbs, hrhs.trans hurhs, htbs.trans hutbs, htmu.trans humu, hpog.trans hupog, hzones, ?_,
      fun i => ?_⟩
    · unfold Rescanned at hscan ⊢
      rw [htsu]
      exact hscan
    · rw [hdemand, hchannel]
      refine (zoneDemand_railOn_congr (s := s.setFcl F) (htbs.trans hutbs) (htmu.trans humu) ?_ ?_).symm
      · rw [hmbs, humbs, setFcl_mbs, hm]; rfl
      · rw [hzones]
        exact degraded_cutOut s.znc.zones (fun i => (t.znc.zones[i]).degraded) i

end

section
variable {tag kind : Byte} {s : State}

theorem serveFaultClear_eq : serveFaultClear tag [kind] s =
    checkedRequest 0x51 tag [(decide (kind.toNat ≤ 15) || kind.toNat == 0xFF, .badArg)] (fun u =>
      clearFaults kind.toNat (reply 0x51 tag .ok [byteOf (clearedKinds u kind.toNat).length] u)) s := rfl

theorem serveFaultClear_refused (h : 15 < kind.toNat) (hall : kind ≠ 0xFF) :
    serveFaultClear tag [kind] s = refuse 0x51 tag .badArg s := by
  have hk : ¬kind.toNat = 0xFF := fun hc => hall (BitVec.eq_of_toNat_eq hc)
  have hcheck : (decide (kind.toNat ≤ 15) || kind.toNat == 0xFF) = false := by
    rw [decide_eq_false (by omega), Bool.false_or, beq_eq_false_iff_ne]
    exact hk
  rw [serveFaultClear_eq, hcheck]
  rfl

/-- R164. The reply to an accepted clear, and the clear. -/
theorem serveFaultClear_accepted (h : kind.toNat ≤ 15 ∨ kind = 0xFF) : serveFaultClear tag [kind] (rxTaken s) =
    clearFaults kind.toNat { s with
      slp := s.slp.answered (replyFrame 0xD1 tag 0 [byteOf (clearedKinds s kind.toNat).length]) } := by
  have hcheck : (decide (kind.toNat ≤ 15) || kind.toNat == 0xFF) = true := by
    rcases h with h | h
    · rw [decide_eq_true h, Bool.true_or]
    · rw [h]; rfl
  have hreply := reply_rxTaken s 0x51 tag .ok [byteOf (clearedKinds s kind.toNat).length]
  rw [serveFaultClear_eq, hcheck]
  exact congrArg (clearFaults kind.toNat) hreply

end

/-- Settles O53: by the records and the two conditions after the clear, by the release of the heaters, and by whether the
end of a HOLD inhibit switches the main board on. -/
theorem faultClearClearsWhatMayClear : Obligations.FaultClearClearsWhatMayClear := by
  intro tag kind s hp hr cleared
  refine ⟨_, request_free hp hr (serveFaultClear tag [kind]), ?_⟩
  by_cases hgood : kind.toNat ≤ 15 ∨ kind = 0xFF
  · rw [serveFaultClear_accepted hgood]
    have hcleared := clearedKinds_contains s kind
    generalize s.slp.answered _ = a
    obtain ⟨hfcl, hslp, hsix, hother⟩ := clearFaults_rest { s with slp := a } kind.toNat
    have hstays := clearFaults_stays { s with slp := a } kind.toNat
    have hswitches := clearFaults_switches { s with slp := a } kind.toNat
    have hrecord := clearedFcl_record { s with slp := a } kind.toNat
    obtain ⟨hhold, hind⟩ := clearedFcl_reactions { s with slp := a } kind.toNat
    have hkinds : clearedKinds { s with slp := a } kind.toNat = clearedKinds s kind.toNat := rfl
    rw [hkinds] at hsix hother hstays
    simp only [hkinds] at hrecord
    generalize clearedFcl { s with slp := a } kind.toNat = F at *
    generalize clearFaults kind.toNat { s with slp := a } = t at *
    simp only [drivePins_keeps, hfcl, hslp]
    have h6 : cleared 6 ↔ (clearedKinds s kind.toNat).contains 6 = true := (hcleared 6).symm
    refine ⟨fun h => ?_, fun h hall => absurd hgood (not_or.2 ⟨Nat.not_le.2 h, hall⟩), fun _ =>
      ⟨fun k hk => ?_, fun k hk => ?_, hhold, hind, trivial, fun hk i => ?_, fun hk => ?_, fun hm hrel hh hend => ?_⟩⟩
    · exact drivePins_of_eq (hstays h).1
    · rw [hrecord, if_pos ((hcleared k).2 hk)]
      rfl
    · rw [hrecord, if_neg (mt (hcleared k).1 hk)]
    · obtain ⟨hchannel, hdegraded⟩ := hsix (h6.1 hk) i
      exact ⟨hchannel, fun h => (hstays h).2.1 i, hdegraded⟩
    · have hnot := Bool.eq_false_iff.2 (mt h6.2 hk)
      exact ⟨hother hnot, fun h => (hstays h).2.2 hnot⟩
    · obtain ⟨hmbs, hrhs, htbs, htmu, hpog, hznc, hscan, hdemand⟩ := hswitches hm hrel hh hend
      rw [hmbs]
      exact ⟨rfl, rfl, rfl, rfl, rfl, hrhs, htbs, htmu, hznc, (congrArg Pog.requested hpog :), hscan, hdemand⟩
  · obtain ⟨hlarge, hall⟩ := not_or.1 hgood
    rw [serveFaultClear_refused (Nat.not_le.1 hlarge) hall]
    refine ⟨fun _ => ?_, fun _ _ => onlyAnswered_refuse s 0x51 tag .badArg, fun h => absurd h hgood⟩
    have hreply : refuse 0x51 tag .badArg (rxTaken s) = _ := reply_rxTaken s 0x51 tag .badArg []
    rw [hreply]
    simp only [drivePins_keeps, degraded_self]
    rfl

end Sys2Proof.Machine
end

section
/-! The consumers of a changed table (R25, R47, R57, R58, R118, R137, R138, R149, R162). -/

namespace Sys2Proof.Machine

/-! A changed T0 entry -/

section
variable (c : Fin 20) (f : MappedKey → MappedKey) (cause : Cause) (s : State)

/-- R137. The KEY_UP of a channel offered, its marks moved by `f`, and the chords told: what an entry made invalid and a
changed key code have in common. -/
def loosenKey : State := syncChords (updKey c f (offerKeyUp c cause s))

theorem unmapKey_eq : unmapKey c s = loosenKey c MappedKey.lifted .unmapped s := rfl

theorem remapKey_eq : remapKey c s = loosenKey c (fun k => { k with suppressed := true }) .remap s := rfl

variable {c f s}

theorem membersHeld_of_unheld {e : ChordEntry} (hm : e.members.getLsbD c.val = true) (h : keyHeld s c = false) :
    membersHeld s e = false :=
  List.all_eq_false.2 ⟨c, List.mem_finRange c, by rw [hm, h]; decide⟩

/-- R134. Where `f` leaves a key that counts as held no more, the key's chords are IDLE. -/
theorem loosenKey_chord (hf : ∀ k, ((f k).down && !(f k).suppressed) = false) (i : Fin 8)
    (hm : (s.tbs.tables.chords[i]).members.getLsbD c.val = true) :
    (loosenKey c f cause s).keq.chords[i] = ⟨.idle, 0⟩ := by
  have htbs : (updKey c f (offerKeyUp c cause s)).tbs = s.tbs := by simp
  have hkey := updKey_key c c f (offerKeyUp c cause s)
  rw [if_pos rfl] at hkey
  unfold loosenKey
  generalize updKey c f (offerKeyUp c cause s) = u at *
  rw [← htbs] at hm
  have hheld : chordHeld u i = false := by
    have hunheld : keyHeld u c = false := by
      unfold keyHeld
      rw [hkey, Bool.and_assoc, hf, Bool.and_false]
    unfold chordHeld
    rw [membersHeld_of_unheld hm hunheld, Bool.and_false]
  rw [syncChords_chord, hheld]
  rfl

/-- R137. A key outside the reported-down set offers nothing. -/
theorem loosenKey_unreported (h : (s.keq.keys[c]).reported = none) : loosenKey c f cause s = { s with
    keq := { keys := s.keq.keys.set c (f s.keq.keys[c]), chords := (loosenKey c f cause s).keq.chords
             queue := s.keq.queue } } := by
  have hoffer : offerKeyUp c cause s = s := by unfold offerKeyUp; rw [h]
  unfold loosenKey
  rw [hoffer]
  rfl

/-- R128, R175. In a state that judges offers a KEY_UP is always admitted, and a busy transmitter leaves it in the
queue. -/
theorem offer_keyUp (code value : Nat) (ha : s.mbs.state.admits = true) (hb : s.slp.tx ≠ .idle) :
    offer (newEvent s .keyUp code cause value) s =
      s.setKeq { s.keq with queue := s.keq.queue ++ [newEvent s .keyUp code cause value] } := by
  have hadmitted : offerJudgement s (newEvent s .keyUp code cause value) = .admitted := by
    unfold offerJudgement
    rw [if_pos ha]
    rfl
  rw [offer_admitted _ _ hadmitted]
  exact kickTx_busy _ hb

/-- R137. A reported key offers its KEY_UP, said where the transmitter is busy. -/
theorem loosenKey_reported {code : Nat} (h : (s.keq.keys[c]).reported = some code) (ha : s.mbs.state.admits = true)
    (hb : s.slp.tx ≠ .idle) : loosenKey c f cause s = { s with
      keq := { keys := s.keq.keys.set c (f (s.keq.keys[c]).unreport), chords := (loosenKey c f cause s).keq.chords
               queue := s.keq.queue ++ [newEvent s .keyUp code cause c.val] } } := by
  have hoffer : offerKeyUp c cause s = updKey c MappedKey.unreport
      (s.setKeq { s.keq with queue := s.keq.queue ++ [newEvent s .keyUp code cause c.val] }) := by
    unfold offerKeyUp
    rw [h]
    dsimp only
    rw [offer_keyUp cause code c.val ha hb]
  have hkeys : upd (upd s.keq.keys c MappedKey.unreport) c f = s.keq.keys.set c (f (s.keq.keys[c]).unreport) := by
    simp [upd]
  unfold loosenKey
  rw [hoffer, ← hkeys]
  rfl

end

section
variable {old : Tables} {c : Fin 20} {s : State}

/-- R137. What a changed entry does, by its valid flag and code before and after. -/
theorem keymapChanged_rows :
    ((old.keymap[c]).valid = true → (s.tbs.tables.keymap[c]).valid = false →
      keymapChanged old c s = loosenKey c MappedKey.lifted .unmapped s) ∧
    ((old.keymap[c]).valid = false → (s.tbs.tables.keymap[c]).valid = true →
      keymapChanged old c s = updKey c (fun _ => MappedKey.powerOn) s) ∧
    ((old.keymap[c]).valid = true → (s.tbs.tables.keymap[c]).valid = true →
      (old.keymap[c]).code ≠ (s.tbs.tables.keymap[c]).code → (s.keq.keys[c]).down = true →
      keymapChanged old c s = loosenKey c (fun k => { k with suppressed := true }) .remap s) ∧
    ((old.keymap[c]).valid = (s.tbs.tables.keymap[c]).valid →
      ¬((old.keymap[c]).valid = true ∧ (s.tbs.tables.keymap[c]).valid = true ∧
        (old.keymap[c]).code ≠ (s.tbs.tables.keymap[c]).code ∧ (s.keq.keys[c]).down = true) →
      keymapChanged old c s = s) := by
  unfold keymapChanged
  dsimp only
  refine ⟨fun hw hn => ?_, fun hw hn => ?_, fun hw hn hc hd => ?_, fun he hr => ?_⟩
  · rw [hw, hn]
    exact unmapKey_eq c s
  · rw [hw, hn]
    rfl
  · rw [hw, hn, hd, bne_iff_ne.2 hc]
    exact remapKey_eq c s
  · rw [he] at hr ⊢
    rw [if_neg (by cases (s.tbs.tables.keymap[c]).valid <;> decide),
      if_neg (by cases (s.tbs.tables.keymap[c]).valid <;> decide), if_neg fun h => ?_]
    simp only [Bool.and_eq_true, bne_iff_ne] at h
    exact hr ⟨h.1.1, h.1.1, h.1.2, h.2⟩

theorem keymapChanged_keepsBoard : (keymapChanged old c s).tsu = s.tsu ∧ (keymapChanged old c s).mbs = s.mbs ∧
    (keymapChanged old c s).znc = s.znc ∧ (keymapChanged old c s).fcl = s.fcl := by
  unfold keymapChanged
  dsimp only
  (repeat' split) <;> simp [unmapKey, mapKey, remapKey]

end

/-! The scanned set after a changed T0 or T1 -/

section
variable {s : State}

/-- R118. What the touch unit's change does where no main board is switched on. -/
theorem touchTablesChanged_stays (h : s.mbs.state ≠ .heatHold ∨ s.znc.release = false ∨ s.fcl.hold = false) :
    (touchTablesChanged s).tsu = (rescan s.tsu.mode s).tsu ∧ (touchTablesChanged s).keq = (rescan s.tsu.mode s).keq := by
  obtain ⟨-, -, -, -, hznc, hmbs, -, -, hfcl, -⟩ := rescan_keeps s.tsu.mode s
  unfold touchTablesChanged
  generalize rescan s.tsu.mode s = u at *
  rw [← hznc, ← hmbs, ← hfcl] at h
  rw [conditionChanged_stays 11 (h.elim (.inr ∘ .inl) fun h => h.elim (.inr ∘ .inr) .inl)]
  exact ⟨rfl, rfl⟩

theorem rescanned_touchTablesChanged {u : State}
    (h : s.mbs.state ≠ .heatHold ∨ s.znc.release = false ∨ s.fcl.hold = false) (htsu : u.tsu = s.tsu)
    (hmbs : u.mbs = s.mbs) (hznc : u.znc = s.znc) (hfcl : u.fcl = s.fcl) (htbs : u.tbs = s.tbs) :
    Rescanned s (touchTablesChanged u) s.tsu.mode := by
  rw [← hmbs, ← hznc, ← hfcl] at h
  rw [← htsu]
  exact .of_tsu (touchTablesChanged_stays h).1 htsu htbs

/-- R137. The key mapper takes the changed entries one after the other. -/
def keymapNoticed (old : Tables) (l : List (Fin 20)) (s : State) : State :=
  l.foldl (fun s c => keymapChanged old c s) s

theorem keymapNoticed_keeps (old : Tables) (l : List (Fin 20)) (s : State) :
    (keymapNoticed old l s).tsu = s.tsu ∧ (keymapNoticed old l s).mbs = s.mbs ∧
    (keymapNoticed old l s).znc = s.znc ∧ (keymapNoticed old l s).fcl = s.fcl ∧
    (keymapNoticed old l s).tbs = s.tbs := by
  induction l generalizing s with
  | nil => exact ⟨rfl, rfl, rfl, rfl, rfl⟩
  | cons c l ih =>
    obtain ⟨htsu, hmbs, hznc, hfcl⟩ := keymapChanged_keepsBoard (old := old) (c := c) (s := s)
    have hstep := ih (keymapChanged old c s)
    rw [htsu, hmbs, hznc, hfcl, keymapChanged_tbs] at hstep
    exact hstep

theorem rescanned_noticeKeymap (old : Tables) (l : List (Fin 20))
    (h : s.mbs.state ≠ .heatHold ∨ s.znc.release = false ∨ s.fcl.hold = false) :
    Rescanned s (noticeKeymap old l s) s.tsu.mode := by
  obtain ⟨htsu, hmbs, hznc, hfcl, htbs⟩ := keymapNoticed_keeps old l s
  exact rescanned_touchTablesChanged h htsu hmbs hznc hfcl htbs

theorem rescanned_noticeChords (l : List (Fin 8))
    (h : s.mbs.state ≠ .heatHold ∨ s.znc.release = false ∨ s.fcl.hold = false) :
    Rescanned s (noticeChords l s) s.tsu.mode :=
  rescanned_touchTablesChanged (u := s.setKeq _) h rfl rfl rfl rfl rfl

theorem rescan_active_keq (s : State) : (rescan .active s).keq = s.keq := by
  rw [rescan, indexesWhere_leavesTouched_active]
  rfl

/-- R138. A changed chord, said in the scan mode of the rail on. -/
theorem noticeChords_chord (named : List (Fin 8)) (hmode : s.tsu.mode = .active) (hm : s.mbs.state ≠ .heatHold)
    (i : Fin 8) : (noticeChords named s).keq.chords[i] =
      if i ∈ named then ⟨if chordHeld s i then .spent else .idle, 0⟩ else s.keq.chords[i] := by
  have hkeq := (touchTablesChanged_stays (s := s.setKeq { s.keq with
    chords := tab fun i => if named.contains i then chordChanged s i else s.keq.chords[i] }) (.inl hm)).2
  rw [setKeq_tsu, hmode, rescan_active_keq, setKeq_keq] at hkeq
  unfold noticeChords
  rw [hkeq]
  refine (Vector.getElem_ofFn i.isLt).trans ?_
  simp only [List.contains_iff_mem, chordChanged]
  split
  · split <;> rfl
  · rfl

end

/-! A changed T2 -/

section
variable (named : List (Fin 3)) (s : State)

theorem zonesChanged_zone (i : Fin 3) : (zonesChanged named s).znc.zones[i] =
    if i ∈ named then zoneChanged s i else s.znc.zones[i] := by
  refine (Vector.getElem_ofFn i.isLt).trans ?_
  simp only [List.contains_iff_mem]

theorem zonesChanged_channel (i : Fin 3) : (zonesChanged named s).hfd.channels[i] =
    if i ∈ named then (s.hfd.channels[i]).recordChanged else s.hfd.channels[i] := by
  refine (Vector.getElem_ofFn i.isLt).trans ?_
  simp only [List.contains_iff_mem]

theorem zonesChanged_z1Cold : (zonesChanged named s).znc.z1Cold = if 1 ∈ named then z1ColdNow s else s.znc.z1Cold := by
  simp only [zonesChanged, setHfd_znc, setZnc_znc, List.contains_iff_mem]

/-- R31, R35. The changed zones told to the heaters and the fan. -/
def heatTold : State := recomputeFan (recomputeDuties (zonesChanged named s))

theorem noticeHeat_eq : noticeHeat named s =
    conditionChanged 8 (reportAll 8 (changeCutOuts named s) (heatTold named s)) := rfl

theorem heatTold_eq : heatTold named s = { s with
    znc := (zonesChanged named s).znc, hfd := (heatTold named s).hfd } := rfl

theorem heatTold_demand (i : Fin 3) : ((heatTold named s).hfd.channels[i]).demand = (s.hfd.channels[i]).demand := by
  have hd : ((heatTold named s).hfd.channels[i]).demand = ((zonesChanged named s).hfd.channels[i]).demand :=
    (congrArg HeaterChannel.demand (recomputeDuties_channel (zonesChanged named s) i) :)
  rw [hd, zonesChanged_channel]
  split <;> rfl

theorem noticeHeat_zones : (noticeHeat named s).znc.zones = (zonesChanged named s).znc.zones := by
  rw [noticeHeat_eq, conditionChanged_zones]
  simp only [reportAll_keeps]
  rfl

/-- R47, R48. A zone that enters cut-out makes the F8 condition. -/
theorem faultCondition_of_changeCutOuts (l : List Nat) (h : changeCutOuts named s ≠ []) :
    faultCondition (reportAll 8 l (heatTold named s)) 8 = true := by
  obtain ⟨x, hx⟩ := List.exists_mem_of_ne_nil _ h
  obtain ⟨i, hi, -⟩ := List.mem_map.1 hx
  obtain ⟨hn, hp⟩ := List.mem_filter.1 hi
  have hzone := zonesChanged_zone named s i
  rw [if_pos hn] at hzone
  have hcut : ((reportAll 8 l (heatTold named s)).znc.zones[i]).cutOut = true := by
    simp only [reportAll_keeps]
    exact (congrArg Zone.cutOut hzone).trans (Bool.and_eq_true_iff.1 hp).2
  exact someEntry_of (p := fun z : Zone => z.cutOut) hcut

variable {named}

/-- R155. Each zone that enters cut-out at a change counts one F8 occurrence. -/
theorem noticeHeat_counted (hnodup : named.Nodup) : CountedEach s (noticeHeat named s) 8 fun i : Fin 3 =>
    named.contains i && !(s.znc.zones[i]).cutOut && ((noticeHeat named s).znc.zones[i]).cutOut := by
  rw [noticeHeat_zones]
  have hperm : ((List.finRange 3).filter fun i : Fin 3 =>
      named.contains i && !(s.znc.zones[i]).cutOut && ((zonesChanged named s).znc.zones[i]).cutOut).Perm
      (named.filter fun i => !(s.znc.zones[i]).cutOut && zoneCutOut s i) := by
    refine (List.perm_ext_iff_of_nodup ((List.nodup_finRange 3).filter _) (hnodup.filter _)).2 fun i => ?_
    simp only [List.mem_filter, List.mem_finRange, true_and, Bool.and_eq_true, List.contains_iff_mem, and_assoc]
    refine and_congr_right fun hi => ?_
    rw [zonesChanged_zone, if_pos hi]
    rfl
  refine .of_changed (u := heatTold named s) (l := changeCutOuts named s) (by decide) ?_ (fun i hi => ?_) rfl rfl
    ?_ (faultCondition_of_changeCutOuts named s _) rfl
  · exact (List.length_map _).trans hperm.length_eq.symm
  · rw [hi] at hperm
    unfold changeCutOuts
    rw [← List.singleton_perm.1 hperm]
    rfl
  · rw [noticeHeat_eq]
    simp only [conditionChanged_keeps, reportAll_keeps]
    rfl

/-- R25, R31, R35. Where F8 restarts nothing and no main board is switched on, a change of T2 moves the zones, the
driver and what reports move. -/
theorem recordsMoved_noticeHeat (named : List (Fin 3)) (hr : (reactionInForce s.tbs.tables 8).restart = false)
    (h : s.mbs.state ≠ .heatHold ∨ s.znc.release = false) : RecordsMoved (heatTold named s) (noticeHeat named s) :=
  recordsMoved_reported (s := heatTold named s) hr h (changeCutOuts named s)

/-- R58. What a change of T2 makes of one zone and its channel. -/
theorem zonesChanged_rows (named : List (Fin 3)) (i : Fin 3) :
    let t := zonesChanged named s
    let z := s.tbs.tables.zones[i]
    (i ∉ named → t.znc.zones[i] = s.znc.zones[i] ∧ t.hfd.channels[i] = s.hfd.channels[i]) ∧
    (i ∈ named →
      t.hfd.channels[i] = { s.hfd.channels[i] with tripCount := 0, lowCount := 0, loadedCount := 0 } ∧
      (t.znc.zones[i]).cutOut = cutOutNow z (s.znc.zones[i]).cutOut (lastReading s (zoneSensor i)).temp ∧
      (z.valid = false → (t.znc.zones[i]).degraded = 0 ∧ (t.znc.zones[i]).soak = none) ∧
      (z.valid = true → (t.znc.zones[i]).degraded = (s.znc.zones[i]).degraded ∧
        (t.znc.zones[i]).soak = (s.znc.zones[i]).soak)) := by
  dsimp only
  rw [zonesChanged_zone, zonesChanged_channel]
  refine ⟨fun hi => ?_, fun hi => ?_⟩
  · rw [if_neg hi, if_neg hi]
    exact ⟨rfl, rfl⟩
  · rw [if_pos hi, if_pos hi]
    refine ⟨rfl, rfl, fun hv => ?_, fun hv => ?_⟩ <;> rw [zoneChanged, hv] <;> exact ⟨rfl, rfl⟩

theorem zonesChanged_eq (named : List (Fin 3)) : zonesChanged named s = { s with
    hfd := { s.hfd with channels := (zonesChanged named s).hfd.channels }
    znc := { s.znc with
      zones := (zonesChanged named s).znc.zones, z1Cold := (zonesChanged named s).znc.z1Cold } } := rfl

end

/-! A changed T3, a changed T6 -/

theorem noticeGate_output (named : List (Fin 6)) (s : State) (o : Fin 6) : (noticeGate named s).pog.requested[o] =
    if o ∈ named ∧ (s.tbs.tables.gate[o]).valid = false then 0 else s.pog.requested[o] := by
  refine (Vector.getElem_ofFn o.isLt).trans ?_
  simp only [Bool.and_eq_true, List.contains_iff_mem, Bool.not_eq_true']

/-- R162. The state of a record whose class changes, or stays. -/
theorem movedState_rows (before after : FaultClass) (present : Bool) (st : RecordState) :
    (before = .hw → after = .sw → st = .active → movedState before after present st = .latched) ∧
    (before = .sw → after = .hw → st = .latched →
      movedState before after present st = if present then .active else .clear) ∧
    (before = after ∨ st = .clear → movedState before after present st = st) := by
  refine ⟨?_, ?_, ?_⟩
  · rintro rfl rfl rfl; rfl
  · rintro rfl rfl rfl; rfl
  · rintro (rfl | rfl)
    · cases before <;> rfl
    · cases before <;> cases after <;> rfl

theorem noticeReactions_record (named : List FaultKind) (s : State) (k : FaultKind) :
    (noticeReactions named s).fcl.records[k] = if k ∈ named then reclassed s k else s.fcl.records[k] := by
  have hrecords : (noticeReactions named s).fcl.records =
      tab fun k => if named.contains k then reclassed s k else s.fcl.records[k] := by
    unfold noticeReactions
    rcases rejudgeRelease_cases (s.setFcl { s.fcl with
      records := tab fun k => if named.contains k then reclassed s k else s.fcl.records[k] }) with
      ⟨h, -⟩ | ⟨h, -⟩ <;> rw [h]
    · rfl
    · rw [switchOn_fcl]
      rfl
  rw [hrecords]
  refine (Vector.getElem_ofFn k.isLt).trans ?_
  simp only [List.contains_iff_mem]

/-- Settles O59: by what each consumer makes of a changed entry of its table. -/
theorem tableChangesReachTheirConsumers : Obligations.TableChangesReachTheirConsumers := by
  refine ⟨fun old c s => ?_, fun named s hmode hm i => noticeChords_chord named hmode hm i,
    fun old keys chords s h => ⟨rescanned_noticeKeymap old keys h, rescanned_noticeChords chords h⟩,
    fun named s => ⟨zonesChanged_eq s named, zonesChanged_z1Cold named s, zonesChanged_rows s named⟩,
    fun named s hnodup => ⟨noticeHeat_counted s hnodup, fun hr h => ?_⟩,
    fun named s => ⟨rfl, noticeGate_output named s⟩, fun named s k => ?_⟩
  · obtain ⟨hunmap, hmap, hremap, hsame⟩ := keymapChanged_rows (old := old) (c := c) (s := s)
    refine ⟨fun hw hn => ?_, fun hw hn => hmap hw hn, fun ⟨hw, hn, hc, hd⟩ => ?_, hsame⟩
    · have ht := hunmap hw hn
      exact ⟨fun i hm => ht ▸ loosenKey_chord .unmapped (fun _ => rfl) i hm,
        fun h => ht ▸ loosenKey_unreported .unmapped h, fun code h ha hb => ht ▸ loosenKey_reported .unmapped h ha hb⟩
    · have ht := hremap hw hn hc hd
      exact ⟨fun i hm => ht ▸ loosenKey_chord .remap (fun _ => Bool.and_false _) i hm,
        fun h => ht ▸ loosenKey_unreported .remap h, fun code h ha hb => ht ▸ loosenKey_reported .remap h ha hb⟩
  · have hmoved := recordsMoved_noticeHeat s named hr h
    have hhfd := hmoved.hfd
    refine ⟨?_, fun i => ?_⟩
    · rw [heatTold_eq, ← hhfd] at hmoved
      exact hmoved
    · rw [hhfd]
      exact heatTold_demand named s i
  · obtain ⟨hhw, hsw, hstays⟩ := movedState_rows (s.fcl.records[k]).cls (reactionInForce s.tbs.tables k).cls
      (faultCondition s k) (s.fcl.records[k]).state
    dsimp only
    rw [noticeReactions_record]
    refine ⟨fun hk => if_neg hk, fun hk => ?_⟩
    rw [if_pos hk]
    exact ⟨rfl, hhw, hsw, hstays⟩

end Sys2Proof.Machine
end

section
/-! Zones: the demand by the first row that applies, the conditions and timers at a computation (R44 to R57). -/

namespace Sys2Proof.Machine

/-! The demand of a zone -/

theorem unheated_iff {m : MbsState} : m.unheated = true ↔ m = .off ∨ m = .lockout := by
  cases m <;> simp [MbsState.unheated]

/-- R46. The proportional demand is the clamped product. -/
theorem proportionalDemand_eq (z : ZoneRecord) (railOn : Bool) (x : Int) :
    ((proportionalDemand z railOn x : Nat) : Int) =
      max 0 (min (z.dmax : Int) (((if railOn then z.target else z.release + z.band) - x) * (z.gain : Int))) := by
  unfold proportionalDemand zoneTarget clampInt
  generalize ((if railOn then z.target else z.release + z.band) - x) * (z.gain : Int) = p
  split_ifs <;> omega

section
variable {s : State} {i : Fin 3}

/-- R49, R50. The fallback demand, by the rail and, with the rail on, by sensor 3. -/
theorem fallbackDemand_rows (s : State) (railOn : Bool) (i : Fin 3) :
    let z := s.tbs.tables.zones[i]
    (railOn = false →
      fallbackDemand s railOn i = if (s.znc.zones[i]).degraded < z.fallbackTime then z.fallbackDuty else 0) ∧
    (∀ x, railOn = true → (lastReading s 3).health = .good → (lastReading s 3).temp = some x →
      fallbackDemand s railOn i = if x < z.target then z.fallbackDuty else 0) ∧
    (railOn = true → (lastReading s 3).health ≠ .good ∨ (lastReading s 3).temp = none →
      fallbackDemand s railOn i = 0) := by
  refine ⟨fun hr => by rw [hr]; rfl, fun x hr hg hx => ?_, fun hr h => ?_⟩
  · simp only [fallbackDemand, hr, hx, hg, true_and, if_true]
  · cases hx : (lastReading s 3).temp with
    | none => simp only [fallbackDemand, hr, hx, if_true]
    | some x =>
      have hg : (lastReading s 3).health ≠ .good := h.resolve_right (by rw [hx]; exact Option.some_ne_none x)
      simp only [fallbackDemand, hr, hx, hg, false_and, if_true, if_false]

/-- R45. A zone that is valid, heated and not in cut-out takes the proportional demand or the fallback. -/
theorem zoneDemand_heated (hv : (s.tbs.tables.zones[i]).valid = true) (hoff : s.mbs.state ≠ .off)
    (hlock : s.mbs.state ≠ .lockout) (hcut : (s.znc.zones[i]).cutOut = false) (railOn : Bool) :
    (∀ x, (lastReading s (zoneSensor i)).health ≠ .failed → (lastReading s (zoneSensor i)).temp = some x →
      zoneDemand s railOn i = proportionalDemand s.tbs.tables.zones[i] railOn x) ∧
    ((lastReading s (zoneSensor i)).health = .failed ∨ (lastReading s (zoneSensor i)).temp = none →
      zoneDemand s railOn i = fallbackDemand s railOn i) := by
  have hu : ¬s.mbs.state.unheated = true := fun h => (unheated_iff.1 h).elim hoff hlock
  refine ⟨fun x hh hx => ?_, fun h => ?_⟩ <;> unfold zoneDemand <;> dsimp only <;>
    rw [if_neg (by rw [hv]; decide), if_neg hu, if_neg (by rw [hcut]; decide)]
  · rw [if_neg hh, hx]
  · split
    · rfl
    · next hh => rw [h.resolve_left hh]

theorem zoneDemand_zero (railOn : Bool) (h : (s.tbs.tables.zones[i]).valid = false ∨ s.mbs.state = .off ∨
    s.mbs.state = .lockout ∨ (s.znc.zones[i]).cutOut = true) : zoneDemand s railOn i = 0 := by
  unfold zoneDemand
  dsimp only
  split
  next => rfl
  next hv =>
    split
    next => rfl
    next hu =>
      split
      next => rfl
      next hc => simp_all [unheated_iff]

end

/-- Settles O31: row after row of the demand. -/
theorem theDemandComesFromTheFirstRow : Obligations.TheDemandComesFromTheFirstRow := by
  intro s railOn i
  refine ⟨zoneDemand_zero railOn, fun x hv hoff hlock hcut hh hx => ?_, fun hv hoff hlock hcut h => ?_⟩
  · rw [(zoneDemand_heated hv hoff hlock hcut railOn).1 x hh hx]
    exact proportionalDemand_eq _ railOn x
  · rw [(zoneDemand_heated hv hoff hlock hcut railOn).2 h]
    exact fallbackDemand_rows s railOn i

/-! A computation -/

section
variable (s : State) (i : Fin 3)

theorem computeCutOuts_zone : (computeCutOuts s).znc.zones[i] = { s.znc.zones[i] with cutOut := zoneCutOut s i } :=
  Vector.getElem_ofFn i.isLt

/-- The new cut-out conditions have no part in the timers. -/
theorem timers_computeCutOuts :
    degradedNow (computeCutOuts s) i = degradedNow s i ∧ soakNow (computeCutOuts s) i = soakNow s i := by
  unfold degradedNow soakNow
  rw [computeCutOuts_zone]
  exact ⟨rfl, rfl⟩

/-- R44. A computation over the last set gives each zone its cut-out condition and its two timers. -/
theorem zoneComputation_zone : (zoneComputation s).znc.zones[i] = ⟨zoneCutOut s i, degradedNow s i, soakNow s i⟩ := by
  have htimers : (computeTimers (computeCutOuts s)).znc.zones[i] = { (computeCutOuts s).znc.zones[i] with
      degraded := degradedNow (computeCutOuts s) i, soak := soakNow (computeCutOuts s) i } :=
    Vector.getElem_ofFn i.isLt
  obtain ⟨hdegraded, hsoak⟩ := timers_computeCutOuts s i
  rw [computeCutOuts_zone, hdegraded, hsoak] at htimers
  exact htimers

/-- R44, R56. The demands handed are those of the zones' new conditions and timers. -/
theorem zoneComputation_demand : ((zoneComputation s).hfd.channels[i]).demand =
    zoneDemand (computeTimers (computeCutOuts s)) s.mbs.state.railOn i := by
  simp [zoneComputation, handDemands, recomputeDuties]

/-- R47. Cut-out is entered at the cut-out temperature and left more than 20 below it. -/
theorem zoneCutOut_rows :
    let z := s.tbs.tables.zones[i]
    let r := lastReading s (zoneSensor i)
    (z.valid = false → zoneCutOut s i = false) ∧
    (∀ x, z.valid = true → r.temp = some x →
      (z.cutOut ≤ x → zoneCutOut s i = true) ∧
      (x < z.cutOut - 20 → zoneCutOut s i = false) ∧
      (z.cutOut - 20 ≤ x → x < z.cutOut → zoneCutOut s i = (s.znc.zones[i]).cutOut)) ∧
    (z.valid = true → r.temp = none → zoneCutOut s i = false) := by
  unfold zoneCutOut cutOutNow
  refine ⟨fun hv => by rw [hv, Bool.false_and], fun x hv hx => ?_, fun hv hx => by rw [hx, Bool.and_false]⟩
  rw [hv, hx, Bool.true_and]
  generalize s.tbs.tables.zones[i] = z
  cases (s.znc.zones[i]).cutOut <;> refine ⟨fun h => ?_, fun h => ?_, fun h h' => ?_⟩ <;> simp <;> omega

/-- R51. -/
theorem zoneDegraded_iff : zoneDegraded s i = true ↔ (s.tbs.tables.zones[i]).valid = true ∧
    ((lastReading s (zoneSensor i)).health = .failed ∨ (s.hfd.channels[i]).openLoad = true ∨
      (s.hfd.channels[i]).state = .latchedOff) := by
  simp only [zoneDegraded, Bool.and_eq_true, Bool.or_eq_true, beq_iff_eq, or_assoc]

theorem zoneDegraded_invalid (h : (s.tbs.tables.zones[i]).valid = false) : zoneDegraded s i = false := by
  rw [zoneDegraded, h, Bool.false_and]

/-- R52. The degraded timer counts in HEAT_HOLD. -/
theorem degradedNow_rows :
    (zoneDegraded s i = true → s.mbs.state = .heatHold → degradedNow s i = min 3600 ((s.znc.zones[i]).degraded + 1)) ∧
    (zoneDegraded s i = true → s.mbs.state ≠ .heatHold → degradedNow s i = (s.znc.zones[i]).degraded) ∧
    (zoneDegraded s i = false → degradedNow s i = 0) := by
  unfold degradedNow
  refine ⟨fun hd hm => ?_, fun hd hm => ?_, fun hd => by rw [hd]; rfl⟩
  · rw [if_pos hd, if_pos hm]; rfl
  · rw [if_pos hd, if_neg hm]

/-- R53. A zone is warm where its sensor is GOOD at or above its release temperature. -/
theorem zoneWarm_iff : zoneWarm s i = true ↔ (s.tbs.tables.zones[i]).valid = true ∧
    (lastReading s (zoneSensor i)).health = .good ∧
    ∃ x, (lastReading s (zoneSensor i)).temp = some x ∧ (s.tbs.tables.zones[i]).release ≤ x := by
  unfold zoneWarm
  dsimp only
  cases (lastReading s (zoneSensor i)).temp <;> simp [and_assoc]

/-- R53. The soak timer starts at 0, counts while the zone is warm and stops. -/
theorem soakNow_rows :
    let z := s.tbs.tables.zones[i]
    let r := lastReading s (zoneSensor i)
    (∀ x, z.valid = true → r.health = .good → r.temp = some x → z.release ≤ x →
      soakNow s i = (match (s.znc.zones[i]).soak with | some n => some (min 600 (n + 1)) | none => some 0)) ∧
    (z.valid = false → soakNow s i = none) ∧
    (∀ x, r.temp = some x → x < z.release → soakNow s i = none) ∧
    (r.health ≠ .good ∨ r.temp = none → soakNow s i = none) := by
  have hstops : ¬zoneWarm s i = true → soakNow s i = none := fun h => if_neg h
  rw [zoneWarm_iff] at hstops
  refine ⟨fun x hv hg hx hr => ?_, fun hv => hstops fun ⟨h, _⟩ => ?_, fun x hx hr => hstops fun ⟨_, _, y, hy, h⟩ => ?_,
    fun hn => hstops fun ⟨_, hg, y, hy, _⟩ => ?_⟩
  · exact if_pos ((zoneWarm_iff s i).2 ⟨hv, hg, x, hx, hr⟩)
  · rw [hv] at h; exact Bool.false_ne_true h
  · rw [hx, Option.some.injEq] at hy
    omega
  · exact hn.elim (· hg) fun h => by rw [h] at hy; cases hy

/-- R57. With a valid record Z1 cold is absent where S1 is GOOD at or above the release temperature alone. -/
theorem z1ColdNow_false_iff (hv : (s.tbs.tables.zones[1]).valid = true) :
    z1ColdNow s = false ↔ (lastReading s 1).health = .good ∧
      ∃ x, (lastReading s 1).temp = some x ∧ (s.tbs.tables.zones[1]).release ≤ x := by
  unfold z1ColdNow
  dsimp only
  rw [hv]
  cases (lastReading s 1).temp <;> simp

/-- R54. -/
theorem zoneSatisfied_iff : zoneSatisfied s i = true ↔ (s.tbs.tables.zones[i]).valid = false ∨
    (∃ n, (s.znc.zones[i]).soak = some n ∧ s.tbs.tables.glob.soakTime ≤ n) ∨
    (zoneDegraded s i = true ∧ (s.tbs.tables.zones[i]).fallbackTime ≤ (s.znc.zones[i]).degraded) := by
  unfold zoneSatisfied
  cases (s.znc.zones[i]).soak <;> simp [or_assoc]

/-- R54, R55. -/
theorem releaseNow_iff : releaseNow s = true ↔ s.znc.override = true ∨ ∀ i : Fin 3, zoneSatisfied s i = true := by
  simp [releaseNow]

end

end Sys2Proof.Machine
end

section
/-! What a second boundary hands on of the zones (R44, R48, R54, R56, R64). -/

namespace Sys2Proof.Machine

section
variable {s t u : State}

/-- R155. What is counted from a state is counted from any state with the same record. -/
theorem CountedEach.of_record {n : Nat} {k : FaultKind} {began : Fin n → Bool} (h : CountedEach u t k began)
    (hrec : u.fcl.records[k] = s.fcl.records[k]) : CountedEach s t k began := by
  unfold CountedEach CountedTimes Counted at *
  rwa [hrec] at h

theorem recordsMoved_reportFilter (hr : (reactionInForce s.tbs.tables 10).restart = false) (l : Option Nat) :
    RecordsMoved s (reportFilter l s) := by
  cases l with
  | none => exact .refl s
  | some d => exact recordsMoved_report hr d

/-- R37, R38. A set counted where F10 restarts nothing moves the window, and the records with what their reports move. -/
theorem recordsMoved_countFilterSet (hr : (reactionInForce s.tbs.tables 10).restart = false) :
    ∃ h : Hfd, h.channels = s.hfd.channels ∧ RecordsMoved (s.setHfd h) (countFilterSet s) := by
  unfold countFilterSet
  split
  next => exact ⟨s.hfd, rfl, .refl s⟩
  next w _ =>
    dsimp only
    split
    · unfold endFilterWindow
      refine ⟨_, ?_, recordsMoved_reportFilter ?_ _⟩
      · rfl
      · exact hr
    · exact ⟨{ s.hfd with filter := some { w with sets := w.sets + 1 } }, rfl, .refl _⟩

/-- R38. Counting a set reports F10 alone. -/
theorem countFilterSet_record_ne {k : FaultKind} (h10 : k ≠ 10) (h15 : k ≠ 15) (s : State) :
    (countFilterSet s).fcl.records[k] = s.fcl.records[k] := by
  unfold countFilterSet
  split
  · rfl
  · dsimp only
    split
    · unfold endFilterWindow reportFilter
      split
      · exact report_record_ne h10 h15 _ _
      · rfl
    · rfl

theorem countFilterSet_keeps (s : State) : (countFilterSet s).znc = s.znc ∧ (countFilterSet s).tick = s.tick := by
  unfold countFilterSet
  split
  · exact ⟨rfl, rfl⟩
  · dsimp only
    split
    · unfold endFilterWindow reportFilter
      split <;> simp
    · exact ⟨rfl, rfl⟩

end

section
variable (s : State)

/-- R14. The state over which the zones are computed: the set of a second boundary is formed. -/
def setFormed : State := s.setTmu (s.tmu.boundary (validPoints s.tbs.tables.curve))

/-- R54. The release condition that a second boundary hands on. -/
def boundaryRelease : Bool := releaseNow (computeTimers (computeCutOuts (setFormed s)))

/-- R44. The state in which a second boundary judges release: its zones computed, its set counted, F8 reported. -/
def boundaryReported : State :=
  conditionChanged 8 (reportAll 8 (cutOutEntries (setFormed s)) (countFilterSet (boundaryComputed s)))

theorem secondBoundary_eq : secondBoundary s = handRelease (boundaryRelease s) (boundaryReported s) := rfl

theorem boundaryReported_zones : (boundaryReported s).znc.zones = (zoneComputation (setFormed s)).znc.zones := by
  unfold boundaryReported
  rw [conditionChanged_zones]
  simp only [reportAll_keeps, countFilterSet_keeps]
  rfl

theorem boundaryReported_cutOut (i : Fin 3) :
    ((boundaryReported s).znc.zones[i]).cutOut = zoneCutOut (setFormed s) i := by
  rw [boundaryReported_zones, zoneComputation_zone]

theorem handRelease_zones (r : Bool) : (handRelease r s).znc.zones = s.znc.zones := by
  unfold handRelease judgeRelease
  split
  · rw [switchOn_znc]; rfl
  · rfl

/-- R48, R155. Each zone that enters cut-out at a second boundary counts one F8 occurrence. -/
theorem secondBoundary_counted : CountedEach s (secondBoundary s) 8 fun i : Fin 3 =>
    !(s.znc.zones[i]).cutOut && ((secondBoundary s).znc.zones[i]).cutOut := by
  have hlist : cutOutEntries (setFormed s) = ((List.finRange 3).filter fun i : Fin 3 =>
      !(s.znc.zones[i]).cutOut && ((secondBoundary s).znc.zones[i]).cutOut).map Fin.val := by
    simp only [secondBoundary_eq, handRelease_zones, boundaryReported_cutOut]
    rfl
  have hrecord : (countFilterSet (boundaryComputed s)).fcl.records[(8 : FaultKind)] =
      s.fcl.records[(8 : FaultKind)] := countFilterSet_record_ne (by decide) (by decide) _
  have htick : (countFilterSet (boundaryComputed s)).tick = s.tick := (countFilterSet_keeps _).2
  refine CountedEach.of_record (.of_changed (u := countFilterSet (boundaryComputed s)) (by decide) ?_ (fun i hi => ?_) rfl
    rfl ?_ (l := cutOutEntries (setFormed s)) (fun hne => ?_) ?_) hrecord
  · rw [hlist, List.length_map]
  · rw [hlist, hi]; rfl
  · rw [secondBoundary_tick, htick]
  · obtain ⟨x, hx⟩ := List.exists_mem_of_ne_nil _ hne
    obtain ⟨i, hi, -⟩ := List.mem_map.1 hx
    refine someEntry_of (p := fun z : Zone => z.cutOut) (i := i) ?_
    have hcut := boundaryReported_cutOut s i
    rw [boundaryReported, conditionChanged_zones] at hcut
    rw [hcut]
    exact (Bool.and_eq_true_iff.1 (List.mem_filter.1 hi).2).2
  · rw [secondBoundary_eq, handRelease]
    simp only [judgeRelease_keeps, setZnc_fcl]
    rfl

variable {s}

/-- R44. Where F8 and F10 restart nothing and nothing is switched on, the computation stands when release is judged. -/
theorem boundaryReported_moved (hr8 : (reactionInForce s.tbs.tables 8).restart = false)
    (hr10 : (reactionInForce s.tbs.tables 10).restart = false)
    (h : s.mbs.state ≠ .heatHold ∨ s.znc.release = false) :
    let v := zoneComputation (setFormed s)
    (boundaryReported s).znc = v.znc ∧ (boundaryReported s).mbs = s.mbs ∧ (boundaryReported s).tbs = s.tbs ∧
    (boundaryReported s).tmu = v.tmu ∧ (boundaryReported s).hfd.channels = v.hfd.channels := by
  have hv : (boundaryComputed s).znc = (zoneComputation (setFormed s)).znc ∧
      (boundaryComputed s).tmu = (zoneComputation (setFormed s)).tmu ∧
      (boundaryComputed s).hfd.channels = (zoneComputation (setFormed s)).hfd.channels := ⟨rfl, rfl, rfl⟩
  have hrelease : (zoneComputation (setFormed s)).znc.release = s.znc.release := by
    simp [zoneComputation, computeTimers, computeCutOuts, setFormed]
  obtain ⟨-, -, hmbs, htbs, -⟩ := boundaryComputed_filter s
  unfold boundaryReported
  generalize zoneComputation (setFormed s) = v, boundaryComputed s = w, cutOutEntries (setFormed s) = l at *
  obtain ⟨hznc, htmu, hchannels⟩ := hv
  obtain ⟨x, hx, hcounted⟩ := recordsMoved_countFilterSet (s := w) (by rw [htbs]; exact hr10)
  have hmoved := hcounted.trans (recordsMoved_reported (k := 8) (by rw [hcounted.tbs, setHfd_tbs, htbs]; exact hr8)
    (by rw [hcounted.mbs, hcounted.znc, setHfd_mbs, setHfd_znc, hmbs, hznc, hrelease]; exact h) l)
  refine ⟨hmoved.znc.trans hznc, hmoved.mbs.trans hmbs, hmoved.tbs.trans htbs, hmoved.tmu.trans htmu, ?_⟩
  rw [hmoved.hfd, setHfd_hfd, hx, hchannels]

end

section
variable {s t : State}

/-- R64. The release condition is taken, and switches the main board on in HEAT_HOLD without a HOLD inhibit. -/
theorem handRelease_rows (r : Bool) (s : State) :
    (s.mbs.state ≠ .heatHold ∨ r = false ∨ s.fcl.hold = true →
      handRelease r s = s.setZnc { s.znc with release := r }) ∧
    (s.mbs.state = .heatHold → r = true → s.fcl.hold = false →
      handRelease r s = switchOn (s.setZnc { s.znc with release := r })) := by
  refine ⟨fun h => if_neg fun ⟨hm, hr, hh⟩ => ?_, fun hm hr hh => if_pos ⟨hm, hr, hh⟩⟩
  rcases h with h | h | h
  · exact h hm
  · exact Bool.false_ne_true (h.symm.trans hr)
  · exact Bool.false_ne_true (hh.symm.trans h)

/-- What reports have moved has no part in a computation of the zones. -/
theorem RecordsMoved.computed (h : RecordsMoved s t) : (zoneComputation t).znc = (zoneComputation s).znc ∧
    releaseNow (computeTimers (computeCutOuts t)) = releaseNow (computeTimers (computeCutOuts s)) ∧
    ∀ i : Fin 3, ((zoneComputation t).hfd.channels[i]).demand =
      zoneDemand (computeTimers (computeCutOuts s)) s.mbs.state.railOn i := by
  unfold RecordsMoved at h
  generalize t.fcl = f, t.keq.queue = q, t.slp.tx = x at h
  subst h
  exact ⟨rfl, rfl, fun i => zoneComputation_demand _ i⟩

theorem RecordsMoved.setTmu (h : RecordsMoved s t) (x : Tmu) : RecordsMoved (s.setTmu x) (t.setTmu x) := by
  unfold RecordsMoved at *
  rw [h]
  rfl

/-- R45, R56, R64. What a second boundary makes of the zones and the supervisor where the release condition did not hold
before in HEAT_HOLD: `v` is the state with the zones computed, `r` the release condition. -/
theorem secondBoundary_rows (hr8 : (reactionInForce s.tbs.tables 8).restart = false)
    (hr10 : (reactionInForce s.tbs.tables 10).restart = false)
    (h : s.mbs.state ≠ .heatHold ∨ s.znc.release = false) :
    let t := secondBoundary s
    let v := zoneComputation (setFormed s)
    let r := boundaryRelease s
    (s.mbs.state ≠ .heatHold ∨ r = false ∨ t.fcl.hold = true →
      t.znc = { v.znc with release := r } ∧ t.mbs = s.mbs ∧ t.hfd.channels = v.hfd.channels) ∧
    (s.mbs.state = .heatHold → r = true → t.fcl.hold = false →
      t.mbs.state = .powering ∧ t.mbs.pwrEn = true ∧ t.znc = { v.znc with release := true } ∧
      ∀ i : Fin 3, (t.hfd.channels[i]).demand = zoneDemand t true i) := by
  obtain ⟨hznc, hmbs, htbs, htmu, hchannels⟩ := boundaryReported_moved hr8 hr10 h
  have hoverride : (zoneComputation (setFormed s)).znc.override = false := rfl
  have hfcl : (secondBoundary s).fcl = (boundaryReported s).fcl := by
    rw [secondBoundary_eq]
    simp only [handRelease_keeps]
  obtain ⟨hstays, hswitches⟩ := handRelease_rows (boundaryRelease s) (boundaryReported s)
  rw [← hfcl, hmbs, hznc, ← secondBoundary_eq] at hstays hswitches
  dsimp only
  generalize zoneComputation (setFormed s) = v, boundaryReported s = w, boundaryRelease s = r,
    secondBoundary s = t at *
  refine ⟨fun h => ?_, fun hm hr hh => ?_⟩
  · have ht := hstays h
    rw [ht]
    exact ⟨rfl, hmbs, hchannels⟩
  · have ht := hswitches hm hr hh
    subst hr
    have htmbs := switchOn_mbs (w.setZnc { v.znc with release := true })
    have htznc := switchOn_znc (w.setZnc { v.znc with release := true })
    obtain ⟨-, -, httmu, -, -, -, httbs, -⟩ := switchOn_keeps (w.setZnc { v.znc with release := true })
    have hdemand := fun i => congrArg HeaterChannel.demand (switchOn_channel (w.setZnc { v.znc with release := true }) i)
    simp only [← ht] at htmbs htznc httmu httbs hdemand
    have hz : t.znc = { v.znc with release := true } := by
      rw [htznc, setZnc_znc, ← hoverride]
    refine ⟨by rw [htmbs], by rw [htmbs], hz, fun i => (hdemand i).trans ?_⟩
    refine (zoneDemand_railOn_congr httbs httmu ?_ (by rw [hz]; rfl)).symm
    rw [htmbs, setZnc_mbs, hmbs, hm]
    rfl

/-- R12. The state in which the second boundary follows the conversions of its instant. -/
def conversionReported (codes : Vector (BitVec 12) 4) (s : State) : State :=
  conditionChanged 5 (reportAll 5 (newlyFailed s.tmu (s.tmu.convert codes)) (s.setTmu (s.tmu.convert codes)))

theorem conversionInstant_second (codes : Vector (BitVec 12) 4) (h8 : (s.tmu.instants + 1) % 8 = 0) :
    conversionInstant codes s = secondBoundary (conversionReported codes s) := by
  rw [conversionInstant, convert_instants, if_pos h8]
  rfl

theorem conversionReported_keeps (codes : Vector (BitVec 12) 4) (s : State) :
    (conversionReported codes s).znc.zones = s.znc.zones ∧ (conversionReported codes s).tbs = s.tbs ∧
    (conversionReported codes s).fcl.records[(8 : FaultKind)] = s.fcl.records[(8 : FaultKind)] := by
  refine ⟨?_, ?_, (conditionChanged_record_ne (by decide) _).trans (reportAll_record_ne (by decide) (by decide) _ _)⟩
  · rw [conversionReported, conditionChanged_zones]
    simp only [reportAll_keeps]
    rfl
  · simp [conversionReported]

/-- R12. Where F5 restarts nothing and no main board is switched on, the second boundary is that of the conversions. -/
theorem conversionReported_moved (codes : Vector (BitVec 12) 4) (hr : (reactionInForce s.tbs.tables 5).restart = false)
    (h : s.mbs.state ≠ .heatHold ∨ s.znc.release = false) :
    RecordsMoved (s.setTmu (s.tmu.convert codes)) (conversionReported codes s) ∧
    RecordsMoved (s.setTmu ((s.tmu.convert codes).boundary (validPoints s.tbs.tables.curve)))
      (setFormed (conversionReported codes s)) := by
  have hmoved : RecordsMoved (s.setTmu (s.tmu.convert codes)) (conversionReported codes s) :=
    recordsMoved_reported (s := s.setTmu (s.tmu.convert codes)) hr h _
  refine ⟨hmoved, ?_⟩
  unfold setFormed
  rw [hmoved.tmu, hmoved.tbs]
  exact hmoved.setTmu _

end

/-- Settles O30: by the conditions and timers that a computation gives each zone, by what makes the release condition,
and by the second boundary after the conversions and their reports. -/
theorem theZoneComputationFollowsItsRules : Obligations.TheZoneComputationFollowsItsRules := by
  refine ⟨fun s => ⟨rfl, rfl, z1ColdNow_false_iff s, fun i => ?_⟩,
    fun s => ⟨zoneDegraded_iff s, ?_⟩, fun c0 c1 c2 c3 s hp h8 hr => ?_⟩
  · obtain ⟨hinvalid, hrows, hnone⟩ := zoneCutOut_rows s i
    obtain ⟨hcounts, hstands, hzero⟩ := degradedNow_rows s i
    obtain ⟨hwarm, hunused, hcold, hunread⟩ := soakNow_rows s i
    dsimp only
    rw [zoneComputation_zone]
    refine ⟨fun hv => ⟨hinvalid hv, hzero (zoneDegraded_invalid s i hv), hunused hv, ?_⟩, hrows, hnone,
      hcounts, hstands, hzero, hwarm, hcold, fun _ => hunread⟩
    rw [zoneComputation_demand]
    exact zoneDemand_zero _ (.inl hv)
  · rw [releaseNow_iff]
    simp only [zoneSatisfied_iff]
  · obtain ⟨hzones, htbs, hrecord⟩ := conversionReported_keeps #v[c0, c1, c2, c3] s
    have hcounted := (secondBoundary_counted (conversionReported #v[c0, c1, c2, c3] s)).of_record hrecord
    have hrows := secondBoundary_rows (s := conversionReported #v[c0, c1, c2, c3] s) (by rw [htbs]; exact hr 8 (by simp))
      (by rw [htbs]; exact hr 10 (by simp))
    have hmoved := conversionReported_moved #v[c0, c1, c2, c3] (hr 5 (by simp))
    rw [hzones] at hcounted
    refine ⟨_, exec_conversionInstant c0 c1 c2 c3 hp, ?_⟩
    rw [conversionInstant_second _ h8]
    generalize conversionReported #v[c0, c1, c2, c3] s = w at *
    dsimp only at hrows
    generalize secondBoundary w = x at *
    simp only [drivePins_keeps]
    refine ⟨hcounted, fun h => ?_, fun hm hrel hr hh => ?_⟩
    · obtain ⟨hw, hformed⟩ := hmoved (h.imp_right And.left)
      have hmbs : w.mbs = s.mbs := hw.mbs
      have hznc : w.znc = s.znc := hw.znc
      obtain ⟨hz, hrelease, hdemand⟩ := hformed.computed
      rw [hmbs, hznc, hz, boundaryRelease, hrelease] at hrows
      obtain ⟨htz, htm, htc⟩ := (hrows (h.imp_right And.left)).1 (h.imp_right And.right)
      exact ⟨htz, htm, fun i => (congrArg (fun v : Vector HeaterChannel 3 => (v[i]).demand) htc).trans (hdemand i)⟩
    · obtain ⟨hw, hformed⟩ := hmoved (.inr hrel)
      have hmbs : w.mbs = s.mbs := hw.mbs
      have hznc : w.znc = s.znc := hw.znc
      obtain ⟨hz, hrelease, -⟩ := hformed.computed
      rw [hmbs, hznc, hz, boundaryRelease, hrelease] at hrows
      obtain ⟨hstate, hpwr, htz, hdemand⟩ := (hrows (.inr hrel)).2 hm hr hh
      exact ⟨hstate, hpwr, htz, hdemand⟩

end Sys2Proof.Machine
end

section
/-! Entry into HEAT_HOLD from CYCLING, OFF and LOCKOUT, where release is judged at once (R56, R59, R64, R80, R84, R93). -/

namespace Sys2Proof.Machine

/-! The switch-on and the keys -/

section
variable (s : State)

/-- R101, R134. A switch-on releases no key: of the key mapper the chords alone follow the rail. -/
theorem switchOn_keq : (switchOn s).keq.queue = s.keq.queue ∧ (switchOn s).keq.keys = s.keq.keys ∧
    ∀ i : Fin 8, ∃ held matching, (switchOn s).keq.chords[i] = chordNext held matching s.keq.chords[i] := by
  obtain ⟨w, hw, hpwr, hkeq⟩ : ∃ w, switchOn s = railMoved w ∧ w.mbs.pwrEn = true ∧ w.keq = s.keq :=
    ⟨_, rfl, rfl, by simp⟩
  have hscan : (rescan (railMode w.mbs.pwrEn) (recomputeFan (recomputeDuties (setRailChange .none w)))).keq =
      s.keq := by
    rw [hpwr, ← hkeq]
    exact (rescan_active_keq _).trans (by simp)
  rw [hw]
  unfold railMoved
  rw [← hscan]
  exact ⟨rfl, rfl, fun i => ⟨_, _, syncChords_chord _ i⟩⟩

end

/-! HEAT_HOLD -/

section
variable (fresh : Bool) (s : State)

/-- R59, R61. HEAT_HOLD as it is entered, before release is judged. -/
def heatHeld : State := recomputeDuties ((s.setMbs
  { s.mbs.leave with state := .heatHold, pwrEn := false, rstN := false }).setZnc
    { s.znc with
      override := false
      zones := tab fun i =>
        { s.znc.zones[i] with degraded := if fresh then 0 else (s.znc.zones[i]).degraded } })

theorem heatHeld_keeps : (heatHeld fresh s).tick = s.tick ∧ (heatHeld fresh s).tmu = s.tmu ∧
    (heatHeld fresh s).rhs = s.rhs ∧ (heatHeld fresh s).tsu = s.tsu ∧ (heatHeld fresh s).keq = s.keq ∧
    (heatHeld fresh s).fcl = s.fcl ∧ (heatHeld fresh s).slp = s.slp ∧ (heatHeld fresh s).tbs = s.tbs :=
  ⟨rfl, rfl, rfl, rfl, rfl, rfl, rfl, rfl⟩

theorem heatHeld_mbs :
    (heatHeld fresh s).mbs = { s.mbs.leave with state := .heatHold, pwrEn := false, rstN := false } := rfl

/-- R64. Release is judged at once: the main board is switched on, or HEAT_HOLD stands. -/
theorem enterHeatHold_rows :
    (s.znc.release = true ∧ s.fcl.hold = false → enterHeatHold fresh s = switchOn (heatHeld fresh s)) ∧
    (¬(s.znc.release = true ∧ s.fcl.hold = false) → enterHeatHold fresh s = heatHeld fresh s) :=
  ⟨fun h => if_pos ⟨rfl, h⟩, fun h => if_neg fun hc => h hc.2⟩

/-- R56, R64, R65, R101. HEAT_HOLD left at once for POWERING. -/
theorem enterHeatHold_released (h : s.znc.release = true ∧ s.fcl.hold = false) :
    let t := enterHeatHold fresh s
    t.mbs = { s.mbs.leave with
      state := .powering, pwrEn := true, rstN := false, pgRunning := true
      pgLeft := s.tbs.tables.policy.pgTimeout } ∧
    Rescanned s t .active ∧ ∀ i : Fin 3, (t.hfd.channels[i]).demand = zoneDemand t true i := by
  have hmbs := switchOn_mbs (heatHeld fresh s)
  have hscan := (rescanned_switchOn (heatHeld fresh s)).congr (s := s) rfl rfl
  have hznc := switchOn_znc (heatHeld fresh s)
  have hdemand := fun i => congrArg HeaterChannel.demand (switchOn_channel (heatHeld fresh s) i)
  obtain ⟨-, -, htmu, -, -, -, htbs, -⟩ := switchOn_keeps (heatHeld fresh s)
  dsimp only
  rw [(enterHeatHold_rows fresh s).1 h]
  generalize switchOn (heatHeld fresh s) = t at *
  refine ⟨hmbs, hscan, fun i => (hdemand i).trans (zoneDemand_railOn_congr htbs htmu ?_ ?_).symm⟩
  · rw [hmbs]; rfl
  · rw [hznc]

/-- R59, R61. What an entry into HEAT_HOLD leaves, whether or not the main board is switched on. -/
theorem enterHeatHold_rest :
    let t := enterHeatHold fresh s
    t.slp = s.slp ∧ t.keq.queue = s.keq.queue ∧ t.tsu.refs = s.tsu.refs ∧ t.znc.override = false ∧
    t.mbs.cycleTimer = none ∧ t.mbs.lockoutTimer = none ∧ t.mbs.count = s.mbs.count ∧
    t.mbs.bootCause = s.mbs.bootCause ∧
    t.mbs.state = if s.znc.release = true ∧ s.fcl.hold = false then .powering else .heatHold := by
  by_cases h : s.znc.release = true ∧ s.fcl.hold = false
  · obtain ⟨hmbs, hscan, -⟩ := enterHeatHold_released fresh s h
    have ht := (enterHeatHold_rows fresh s).1 h
    have hslp := switchOn_slp (heatHeld fresh s)
    have hqueue := (switchOn_keq (heatHeld fresh s)).1
    have hznc := switchOn_znc (heatHeld fresh s)
    dsimp only at hmbs hscan ⊢
    rw [← ht] at hslp hqueue hznc
    rw [hmbs, hznc, if_pos h]
    exact ⟨hslp, hqueue, (congrArg Tsu.refs hscan.1 :), rfl, rfl, rfl, rfl, rfl, rfl⟩
  · dsimp only
    rw [(enterHeatHold_rows fresh s).2 h, if_neg h]
    exact ⟨rfl, rfl, rfl, rfl, rfl, rfl, rfl, rfl, rfl⟩

/-- R59, R61. HEAT_HOLD stands where release does not hold. -/
theorem enterHeatHold_held (h : ¬(s.znc.release = true ∧ s.fcl.hold = false)) :
    let t := enterHeatHold fresh s
    t.tsu = s.tsu ∧ t.mbs.state = .heatHold ∧ t.mbs.pwrEn = false ∧
    (fresh = true → ∀ i : Fin 3, (t.znc.zones[i]).degraded = 0) := by
  dsimp only
  rw [(enterHeatHold_rows fresh s).2 h]
  refine ⟨rfl, rfl, rfl, fun hf i => ?_⟩
  subst hf
  exact congrArg Zone.degraded (Vector.getElem_ofFn i.isLt)

end

/-! The wake -/

section
variable (cause : Cause) (d : Nat) (s : State)

/-- R83, R84, R93. The state in which a wake enters HEAT_HOLD. -/
def woken : State := pushWake cause d .none s.mbs.state
  (s.setMbs { s.mbs with bootCause := cause, count := if s.mbs.state = .lockout then 0 else s.mbs.count })

theorem wake_eq : wake cause d s = enterHeatHold true (woken cause d s) := rfl

theorem wake_rhs : (wake cause d s).rhs = ⟨(⟨s.rhs.nextOrdinal, s.tick % 65536,
    .wake ⟨cause, d, .none, s.mbs.state, if s.mbs.state = .lockout then 0 else s.mbs.count, snapshot s⟩⟩ ::
      s.rhs.entries).take 16, s.rhs.nextOrdinal + 1, 0⟩ := by
  rw [wake_eq]
  simp only [enterHeatHold_keeps]
  rfl

end

section
variable {n : Nat} {s : State}

/-- R80. CYCLE_TIMER_EXPIRY that alone falls due. -/
theorem exec_cycleTimerExpiry (hp : s.powered = true) (hn : s.mbs.cycleTimer = some n)
    (hd : onlyDue .cycleTimerExpiry n s = true) :
    exec .cycleTimerExpiry s = .next (drivePins (enterHeatHold false (elapse n s))) := by
  have hown : ∀ e ∈ ownEvents s, e.1 = .cycleTimerExpiry → e.2 = some n := fun e he hc => by
    obtain ⟨-, -, -, -, -, h, -⟩ := ownEvents_left s e he
    rw [h hc, hn]
  refine (whenPowered_on s _ hp).trans ?_
  rw [hn, expire_alone _ _ _ _ hd hown]

/-- R84. LOCKOUT_RETRY_EXPIRY that alone falls due. -/
theorem exec_lockoutRetryExpiry (hp : s.powered = true) (hn : s.mbs.lockoutTimer = some n)
    (hd : onlyDue .lockoutRetryExpiry n s = true) :
    exec .lockoutRetryExpiry s = .next (drivePins (wake .retry 0 (elapse n s))) := by
  have hown : ∀ e ∈ ownEvents s, e.1 = .lockoutRetryExpiry → e.2 = some n := fun e he hc => by
    obtain ⟨-, -, -, -, -, -, h, -⟩ := ownEvents_left s e he
    rw [h hc, hn]
  refine (whenPowered_on s _ hp).trans ?_
  rw [hn, expire_alone _ _ _ _ hd hown]

end

/-- Settles O37: by the entry into HEAT_HOLD from the state that the ticks left and, after a lockout, the wake leave. -/
theorem railOffTimersReturnToHeating : Obligations.RailOffTimersReturnToHeating := by
  intro n s hp released kept
  obtain ⟨-, htmu, hznc, hpog, hfcl, hslp, htbs, -⟩ := elapse_keeps n s
  have hkept : ∀ (fresh : Bool) (x : State), x = { elapse n s with mbs := x.mbs, rhs := x.rhs } →
      kept (drivePins (enterHeatHold fresh x)) := fun fresh x hx => by
    obtain ⟨-, -, hxtmu, -, hxpog, hxfcl, hxtbs, -⟩ := enterHeatHold_keeps fresh x
    obtain ⟨hxslp, hqueue, hrefs, hoverride, -⟩ := enterHeatHold_rest fresh x
    have hreleased := enterHeatHold_released fresh x
    have hheld := enterHeatHold_held fresh x
    generalize enterHeatHold fresh x = t at *
    generalize x.mbs = m, x.rhs = r at hx
    subst hx
    dsimp only at *
    rw [hznc, hfcl] at hreleased hheld
    simp only [kept, drivePins_keeps, drivePins_requested]
    refine ⟨hxtbs.trans htbs, hxtmu.trans htmu, hxfcl.trans hfcl, hxslp.trans hslp, hqueue.trans (elapse_queue n s),
      by rw [hxpog, hpog], hrefs.trans (elapse_tsu n s).2.1, hoverride, fun h => ?_, fun h => (hheld h).1⟩
    exact (hreleased h).2
  refine ⟨fun hm hn hd => ⟨_, exec_cycleTimerExpiry hp hn hd, ?_⟩, fun hm hn hd => ⟨_, exec_lockoutRetryExpiry hp hn hd, ?_⟩⟩
  · have hthis := hkept false (elapse n s) rfl
    obtain ⟨-, htick, -, hrhs, -⟩ := enterHeatHold_keeps false (elapse n s)
    obtain ⟨-, -, -, -, hcycle, -, hcount, -⟩ := enterHeatHold_rest false (elapse n s)
    have hreleased := enterHeatHold_released false (elapse n s)
    have hheld := enterHeatHold_held false (elapse n s)
    rw [hznc, hfcl] at hreleased hheld
    generalize enterHeatHold false (elapse n s) = t at *
    simp only [drivePins_keeps]
    refine ⟨htick.trans (elapse_tick n s), hthis, hcycle, hcount.trans (by rw [elapse_mbs]; rfl),
      by rw [hrhs]; exact (elapse_rhs n s).1, fun h => ?_, fun h => ?_⟩
    · obtain ⟨hmbs, hscan, -⟩ := hreleased h
      rw [hmbs, htbs]
      exact ⟨rfl, rfl, congrArg Tsu.mode hscan.1, rfl, rfl⟩
    · exact ⟨(hheld h).2.1, (hheld h).2.2.1⟩
  · have hstate : (elapse n s).mbs.state = .lockout := (congrArg Mbs.state (elapse_mbs n s)).trans hm
    have hsnap : snapshot (elapse n s) = snapshot s := by unfold snapshot; rw [htmu]
    have hthis := hkept true (woken .retry 0 (elapse n s)) rfl
    obtain ⟨-, htick, -⟩ := wake_keeps .retry 0 (elapse n s)
    have hrhs := congrArg Rhs.entries (wake_rhs .retry 0 (elapse n s))
    obtain ⟨-, -, -, -, -, hlockout, hcount, hboot, -⟩ := enterHeatHold_rest true (woken .retry 0 (elapse n s))
    have hreleased := enterHeatHold_released true (woken .retry 0 (elapse n s))
    have hheld := enterHeatHold_held true (woken .retry 0 (elapse n s))
    have hcount0 : (woken .retry 0 (elapse n s)).mbs.count = 0 := if_pos hstate
    have hzw : (woken .retry 0 (elapse n s)).znc = s.znc := hznc
    have hfw : (woken .retry 0 (elapse n s)).fcl = s.fcl := hfcl
    rw [hzw, hfw] at hreleased hheld
    rw [← wake_eq] at *
    generalize wake .retry 0 (elapse n s) = t at *
    simp only [drivePins_keeps]
    refine ⟨htick.trans (elapse_tick n s), hthis, hlockout, hcount.trans hcount0, hboot, ?_, fun h => ?_, fun h => ?_⟩
    · rw [hrhs, hstate, hsnap, elapse_tick, (elapse_rhs n s).1, (elapse_rhs n s).2]
      rfl
    · rw [(hreleased h).1]
      exact ⟨rfl, rfl⟩
    · obtain ⟨-, hhold, hpwr, hdegraded⟩ := hheld h
      exact ⟨hhold, hpwr, hdegraded rfl⟩

end Sys2Proof.Machine
end

section
/-! A chord that fires: its event and its action (R55, R76, R77, R83, R84, R125, R128, R134 to R136). -/

namespace Sys2Proof.Machine

/-! The hold time -/

section
variable {n : Nat} {s : State}

theorem chord_elapse (n : Nat) (s : State) (i : Fin 8) :
    (elapse n s).keq.chords[i] = (s.keq.chords[i]).elapse n := by
  unfold elapse
  split
  next h =>
    subst h
    unfold ChordRun.elapse
    split <;> rfl
  next => exact Vector.getElem_ofFn i.isLt

theorem chordLeft_elapse (n : Nat) (s : State) (i : Fin 8) :
    chordLeft (elapse n s) i = (chordLeft s i).map (· - n) := by
  obtain ⟨-, -, -, -, -, -, htbs, -⟩ := elapse_keeps n s
  unfold chordLeft
  rw [chord_elapse, htbs]
  dsimp only
  unfold ChordRun.elapse
  split
  next => exact congrArg some (Nat.sub_sub ..).symm
  next => rfl

theorem chord_mem_ownEvents (s : State) (i : Fin 8) : (.chordFire i, chordLeft s i) ∈ ownEvents s := by
  simp only [ownEvents, List.mem_append, List.mem_map]
  exact .inl (.inr ⟨i, List.mem_finRange i, rfl⟩)

theorem board_mem_ownEvents (s : State) {e : BoardExpiry} (he : e ∈ boardExpiries) :
    (e.cmd, e.timer s.mbs) ∈ ownEvents s := by
  simp only [ownEvents, List.mem_append, List.mem_map]
  exact .inl (.inl (.inl (.inr ⟨e, he, rfl⟩)))

theorem boardExpiry_ne_chordFire {e : BoardExpiry} (he : e ∈ boardExpiries) (i : Fin 8) : e.cmd ≠ .chordFire i := by
  simp only [boardExpiries, List.mem_cons, List.not_mem_nil, or_false] at he
  rcases he with rfl | rfl | rfl | rfl | rfl | rfl | rfl <;> nofun

/-- A timer that has more than `n` ticks to go, or is stopped, has not run out after them. -/
theorem not_due_iff {e : Instr × Option Nat} : dueWithin n e = false ↔ e.2.map (· - n) ≠ some 0 := by
  unfold dueWithin
  cases e.2 <;> simp
  omega

/-- No timer of the supervisor has run out after the ticks within which none falls due. -/
theorem boardTimers_elapse (h : ∀ e ∈ boardExpiries, dueWithin n (e.cmd, e.timer s.mbs) = false) :
    ∀ e ∈ boardExpiries, e.timer (elapse n s).mbs ≠ some 0 := fun e he => by
  rw [elapse_mbs, boardExpiries_elapse he]
  exact not_due_iff.1 (h e he)

/-- An event acts once its ticks have passed where whatever else falls due within them falls due with it and is none of
the supervisor's. -/
theorem expire_together (c : Instr) (act : State → State)
    (h : ∀ e ∈ ownEvents s, e.2 = some n ∨ dueWithin n e = false)
    (hm : ∀ e ∈ boardExpiries, dueWithin n (e.cmd, e.timer s.mbs) = false) :
    expire c (some n) act s = act (elapse n s) := by
  have hb : nothingBefore n s = true := by
    unfold nothingBefore
    rw [Bool.or_eq_true, beq_iff_eq, or_iff_not_imp_left]
    refine fun h0 => List.all_eq_true.2 fun e he => ?_
    have := h e he
    revert this
    unfold dueWithin
    cases e.2 <;> simp
    omega
  refine (if_pos hb).trans ?_
  exact settle_none c _ _ fun e he _ => boardTimers_elapse hm e he

end

/-! The event -/

section
variable (i : Fin 8) (s : State)

/-- R135. The state in which the action of a chord is handed: the chord FIRED, its CHORD event offered. -/
def chordOffered : State :=
  offer (newEvent (markFired i s) .chord i.val .normal (s.tbs.tables.chords[i]).action.code) (markFired i s)

theorem fireChord_eq : fireChord i s = chordAction i (s.tbs.tables.chords[i]).action (chordOffered i s) := rfl

/-- R135. Before its action a firing chord moves itself, the queue and the transmitter. -/
theorem chordOffered_eq : chordOffered i s = { s with
    keq := { s.keq with
      chords := s.keq.chords.set i ⟨.fired, (s.keq.chords[i]).timer⟩, queue := (chordOffered i s).keq.queue }
    slp := { s.slp with tx := (chordOffered i s).slp.tx } } :=
  offer_eq (newEvent (markFired i s) .chord i.val .normal (s.tbs.tables.chords[i]).action.code) (markFired i s)

theorem chordOffered_chord (k : Fin 8) : (chordOffered i s).keq.chords[k] =
    if i = k then ⟨.fired, (s.keq.chords[i]).timer⟩ else s.keq.chords[k] := by
  rw [chordOffered_eq]
  by_cases h : i = k
  · subst h; simp
  · have hne : (i : Nat) ≠ k := fun hc => h (Fin.ext hc)
    simp [h, Vector.getElem_set_ne _ _ hne]

/-- R127. At most all channels stand in the reported-down set. -/
theorem reportedCount_le (q : Keq) : reportedCount q ≤ 20 := by
  unfold reportedCount
  exact (List.length_filter_le _ _).trans (by simp)

theorem reportedCount_elapse (n : Nat) : reportedCount (elapse n s).keq = reportedCount s.keq := by
  have hkeys : ∀ k : MappedKey, (k.elapse n).reported = k.reported := fun k => by
    unfold MappedKey.elapse
    split <;> rfl
  unfold elapse
  split
  · rfl
  · have hlist : (tab fun c : Fin 20 => (s.keq.keys[c]).elapse n).toList =
        s.keq.keys.toList.map (MappedKey.elapse n) := by
      refine List.ext_getElem (by simp) fun k h1 h2 => ?_
      simp
    unfold reportedCount
    rw [hlist, List.filter_map, List.length_map]
    simp only [Function.comp_def, hkeys]

variable {i s}

/-- R128. In BOOT, RUN and WARN, with room left, the CHORD event is admitted. -/
theorem offerJudgement_chord {e : Event} (hk : e.kind = .chord) (ha : s.mbs.state.admits = true)
    (hroom : reportedCount s.keq < 32 - s.keq.queue.length) : offerJudgement s e = .admitted := by
  have hr : roomFor s.keq e = true := by
    unfold roomFor
    rw [hk]
    exact decide_eq_true hroom
  unfold offerJudgement
  rw [if_pos ha, if_pos hr]

/-- R128, R175. What becomes of the CHORD event: it joins the queue, is discarded, or is sent at once. -/
theorem chordOffered_rows :
    let event : Event := ⟨.chord, i.val, .normal, (s.tbs.tables.chords[i]).action.code, false, s.tick % 65536⟩
    (s.mbs.state.admits = true → s.slp.tx ≠ .idle → reportedCount s.keq < 32 - s.keq.queue.length →
      (chordOffered i s).keq.queue = s.keq.queue ++ [event]) ∧
    (s.mbs.state.admits = false → chordOffered i s = markFired i s) ∧
    (s.mbs.state.sendsEvents = true → s.slp.tx = .idle → s.slp.reply = none → s.keq.queue = [] →
      (chordOffered i s).slp.tx = .event event.frame.bytes ∧ (chordOffered i s).keq.queue = []) := by
  unfold chordOffered
  refine ⟨fun ha hb hroom => ?_, fun ha => offer_discarded _ _ (offerJudgement_discarded _ _ ha),
    fun hm hi hr hq => ?_⟩
  · rw [offer_admitted _ _ (offerJudgement_chord (s := markFired i s) rfl ha hroom), kickTx_busy]
    · rfl
    · exact hb
  · have ha : s.mbs.state.admits = true := by
      revert hm
      cases s.mbs.state <;> decide
    have hroom : reportedCount s.keq < 32 - s.keq.queue.length := by
      have := reportedCount_le s.keq
      rw [hq, List.length_nil]
      omega
    rw [offer_admitted _ _ (offerJudgement_chord (s := markFired i s) rfl ha hroom)]
    have hone : s.keq.queue ++ [newEvent (markFired i s) .chord i.val .normal (s.tbs.tables.chords[i]).action.code] =
        [newEvent (markFired i s) .chord i.val .normal (s.tbs.tables.chords[i]).action.code] := by
      rw [hq, List.nil_append]
    rw [kickTx_takes _ _ [] (by exact hi) (by exact hr) (by exact hm) (by exact hone)]
    exact ⟨rfl, rfl⟩

end

/-! The actions -/

theorem railOn_iff {m : MbsState} :
    m.railOn = true ↔ m = .powering ∨ m = .boot ∨ m = .run ∨ m = .warn ∨ m = .resetting := by
  cases m <;> simp [MbsState.railOn]

theorem railOff_iff {m : MbsState} : m.railOn = false ↔ m = .off ∨ m = .heatHold ∨ m = .cycling ∨ m = .lockout := by
  cases m <;> simp [MbsState.railOn]

section
variable (i : Fin 8) (a : ChordAction) (s : State)

/-- R55, R76, R77, R83, R84. What the action of a chord can do: nothing; set the override mark; depart from a rail-on
state; enter OFF from a rail-off state; wake. -/
theorem chordAction_cases :
    chordAction i a s = s ∨
    (a = .heatOverride ∧ chordAction i a s = s.setZnc { s.znc with override := true }) ∨
    ((a = .cycle ∨ a = .restart ∨ a = .powerOff) ∧ ∃ stage boot,
      chordAction i a s = depart .chord i.val stage (s.setMbs { s.mbs with bootCause := boot })) ∨
    (a = .powerOff ∧ ∃ x, x = { s with mbs := { s.mbs with count := x.mbs.count }, rhs := x.rhs } ∧
      chordAction i a s = enterOff x) ∨
    (a = .powerOn ∧ chordAction i a s = wake .chord i.val s) := by
  have hrestart : ∀ stage, requestedRestart .chord i.val stage s = s ∨ requestedRestart .chord i.val stage s =
      depart .chord i.val stage (s.setMbs { s.mbs with bootCause := .chord }) := fun stage => by
    unfold requestedRestart
    split
    · exact .inr rfl
    · exact .inl rfl
  cases a with
  | restart => exact (hrestart .reset).imp id fun h => .inr (.inl ⟨by simp, _, _, h⟩)
  | cycle => exact (hrestart .cycle).imp id fun h => .inr (.inl ⟨by simp, _, _, h⟩)
  | powerOff =>
    unfold chordAction powerOffChord
    dsimp only
    split
    · exact .inl rfl
    · exact .inr (.inr (.inr (.inl ⟨rfl, s, rfl, rfl⟩)))
    · exact .inr (.inr (.inr (.inl ⟨rfl, s, rfl, rfl⟩)))
    · exact .inr (.inr (.inr (.inl ⟨rfl, _, rfl, rfl⟩)))
    all_goals exact .inr (.inr (.inl ⟨by simp, .off, s.mbs.bootCause, rfl⟩))
  | powerOn =>
    unfold chordAction powerOnChord
    dsimp only
    split
    · exact .inr (.inr (.inr (.inr ⟨rfl, rfl⟩)))
    · exact .inl rfl
  | heatOverride =>
    unfold chordAction overrideHeat
    dsimp only
    split
    · exact .inr (.inl ⟨rfl, rfl⟩)
    · exact .inl rfl
  | report => exact .inl rfl

/-- R55, R77, R83. The actions that their blocks discard. -/
theorem chordAction_discarded (h : a = .report ∨ (a = .heatOverride ∧ s.mbs.state ≠ .heatHold) ∨
    ((a = .cycle ∨ a = .restart) ∧ s.mbs.state.takesRestart = false) ∨ (a = .powerOff ∧ s.mbs.state = .off) ∨
    (a = .powerOn ∧ s.mbs.state ≠ .off ∧ s.mbs.state ≠ .lockout)) : chordAction i a s = s := by
  rcases h with rfl | ⟨rfl, hm⟩ | ⟨rfl | rfl, hm⟩ | ⟨rfl, hm⟩ | ⟨rfl, hoff, hlock⟩
  · rfl
  · exact if_neg hm
  · exact requestedRestart_absorbed _ _ _ _ hm
  · exact requestedRestart_absorbed _ _ _ _ hm
  · unfold chordAction powerOffChord
    rw [hm]
  · exact if_neg fun h => (unheated_iff.1 h).elim hoff hlock

/-- R76, R83. The actions that depart from a rail-on state; POWER_OFF keeps the boot cause. -/
theorem chordAction_departs :
    (s.mbs.state.takesRestart = true →
      chordAction i .cycle s = depart .chord i.val .cycle (s.setMbs { s.mbs with bootCause := .chord }) ∧
      chordAction i .restart s = depart .chord i.val .reset (s.setMbs { s.mbs with bootCause := .chord })) ∧
    (s.mbs.state.railOn = true →
      chordAction i .powerOff s = depart .chord i.val .off (s.setMbs { s.mbs with bootCause := s.mbs.bootCause })) := by
  refine ⟨fun h => ⟨if_pos h, if_pos h⟩, fun h => ?_⟩
  unfold chordAction powerOffChord
  rcases railOn_iff.1 h with h | h | h | h | h <;> rw [h] <;> rfl

/-- R83, R93. What a departure from OFF or LOCKOUT leaves to the entry into HEAT_HOLD. -/
theorem woken_keeps (cause : Cause) (d : Nat) : (woken cause d s).tick = s.tick ∧ (woken cause d s).tmu = s.tmu ∧
    (woken cause d s).znc = s.znc ∧ (woken cause d s).tsu = s.tsu ∧ (woken cause d s).keq = s.keq ∧
    (woken cause d s).fcl = s.fcl ∧ (woken cause d s).slp = s.slp ∧ (woken cause d s).tbs = s.tbs :=
  ⟨rfl, rfl, rfl, rfl, rfl, rfl, rfl, rfl⟩

/-- No action of a chord touches the tables, temperatures, faults, requested levels or references, or sends anything; one
that departs from a rail-on state empties the queue. -/
theorem chordAction_keeps : let t := chordAction i a s
    t.powered = s.powered ∧ t.tick = s.tick ∧ t.tmu = s.tmu ∧ t.pog = s.pog ∧ t.fcl = s.fcl ∧ t.slp = s.slp ∧
    t.tbs = s.tbs ∧ t.tsu.refs = s.tsu.refs ∧
    (t.keq.queue = s.keq.queue ∨ t.keq.queue = []) ∧
    (a = .report ∨ a = .heatOverride ∨ a = .powerOn → t.keq.queue = s.keq.queue) := by
  dsimp only
  rcases chordAction_cases i a s with h | ⟨-, h⟩ | ⟨ha, stage, boot, h⟩ | ⟨-, x, hx, h⟩ | ⟨-, h⟩ <;> rw [h]
  · exact ⟨rfl, rfl, rfl, rfl, rfl, rfl, rfl, rfl, .inl rfl, fun _ => rfl⟩
  · exact ⟨rfl, rfl, rfl, rfl, rfl, rfl, rfl, rfl, .inl rfl, fun _ => rfl⟩
  · obtain ⟨hpowered, htick, htmu, -, hpog, hfcl, htbs, -⟩ :=
      depart_keeps .chord i.val stage (s.setMbs { s.mbs with bootCause := boot })
    obtain ⟨hslp, hqueue, -⟩ := depart_keys .chord i.val stage (s.setMbs { s.mbs with bootCause := boot })
    refine ⟨hpowered, htick, htmu, hpog, hfcl, hslp, htbs, ?_, .inr hqueue, fun h => ?_⟩
    · by_cases hstage : stage = .reset
      · rw [hstage, depart_tsu_reset]; rfl
      · rw [(rescanned_depart .chord i.val stage _ hstage).1]; rfl
    · rcases ha with rfl | rfl | rfl <;> simp at h
  · rw [hx]
    exact ⟨rfl, rfl, rfl, rfl, rfl, rfl, rfl, rfl, .inl rfl, fun _ => rfl⟩
  · obtain ⟨hpowered, htick, htmu, hpog, hfcl, htbs, -⟩ := wake_keeps .chord i.val s
    obtain ⟨hslp, hqueue, hrefs, -⟩ := enterHeatHold_rest true (woken .chord i.val s)
    exact ⟨hpowered, htick, htmu, hpog, hfcl, hslp, htbs, hrefs, .inl hqueue, fun _ => hqueue⟩

end

/-! What a firing chord leaves -/

section
variable (i : Fin 8) (u : State)

/-- What is read of the state in which the action is handed. -/
theorem chordOffered_keeps :
    (chordOffered i u).powered = u.powered ∧ (chordOffered i u).tick = u.tick ∧ (chordOffered i u).tmu = u.tmu ∧
    (chordOffered i u).hfd = u.hfd ∧ (chordOffered i u).znc = u.znc ∧ (chordOffered i u).mbs = u.mbs ∧
    (chordOffered i u).rhs = u.rhs ∧ (chordOffered i u).tsu = u.tsu ∧ (chordOffered i u).pog = u.pog ∧
    (chordOffered i u).fcl = u.fcl ∧ (chordOffered i u).tbs = u.tbs ∧
    (chordOffered i u).keq.keys = u.keq.keys ∧
    (chordOffered i u).slp = { u.slp with tx := (chordOffered i u).slp.tx } := by
  have h := chordOffered_eq i u
  generalize chordOffered i u = w at *
  generalize w.keq.queue = q, w.slp.tx = x at h
  subst h
  exact ⟨rfl, rfl, rfl, rfl, rfl, rfl, rfl, rfl, rfl, rfl, rfl, rfl, rfl⟩

/-- R135. Where its action does nothing, a firing chord moves itself, the queue, the transmitter and the pins. -/
theorem fired_alone {x : State} (h : x = chordOffered i u) : drivePins x = { u with
    keq := { u.keq with
      chords := u.keq.chords.set i ⟨.fired, (u.keq.chords[i]).timer⟩, queue := (drivePins x).keq.queue }
    slp := (drivePins x).slp, pog := { u.pog with applied := (drivePins x).pog.applied } } := by
  have hw := chordOffered_eq i u
  rw [← h] at hw
  have hpins := drivePins_of_eq hw
  have hslp : x.slp = { u.slp with tx := x.slp.tx } := congrArg State.slp hw
  rw [← hslp] at hpins
  exact hpins

/-- R76, R78. The departure of a firing chord follows the state in which its hold time has passed. -/
theorem departed_fired (stage : Stage) (boot : Cause) :
    let t := depart .chord i.val stage ((chordOffered i u).setMbs { (chordOffered i u).mbs with bootCause := boot })
    t.mbs.state = stage.target ∧ t.mbs.bootCause = boot ∧
    Departed u (drivePins t) .chord i.val stage u.mbs.count := by
  have hw := chordOffered_eq i u
  generalize chordOffered i u = w at *
  have hstate := depart_state .chord i.val stage (w.setMbs { w.mbs with bootCause := boot })
  have hmbs := depart_mbs .chord i.val stage (w.setMbs { w.mbs with bootCause := boot })
  have hdeparted := departed_depart .chord i.val stage (w.setMbs { w.mbs with bootCause := boot })
  dsimp only
  generalize depart .chord i.val stage _ = t at *
  refine ⟨hstate, by rw [hmbs]; rfl, ?_⟩
  generalize w.keq.queue = q, w.slp.tx = x at hw
  subst hw
  exact hdeparted

theorem takesRestart_iff {m : MbsState} :
    m.takesRestart = true ↔ m = .powering ∨ m = .boot ∨ m = .run ∨ m = .warn := by
  cases m <;> simp [MbsState.takesRestart]

theorem admits_iff {m : MbsState} : m.admits = true ↔ m = .boot ∨ m = .run ∨ m = .warn := by
  cases m <;> simp [MbsState.admits]

theorem sendsEvents_iff {m : MbsState} : m.sendsEvents = true ↔ m = .run ∨ m = .warn := by
  cases m <;> simp [MbsState.sendsEvents]

/-- R55. A firing HEAT_OVERRIDE chord in HEAT_HOLD, where no event is judged. -/
theorem override_fired (hm : u.mbs.state = .heatHold) :
    let t := chordAction i .heatOverride (chordOffered i u)
    drivePins t = { u with
      keq := { u.keq with chords := u.keq.chords.set i ⟨.fired, (u.keq.chords[i]).timer⟩ }
      znc := { u.znc with override := true }, pog := { u.pog with applied := (drivePins t).pog.applied } } := by
  have hw : chordOffered i u = markFired i u := chordOffered_rows.2.1 (by rw [hm]; rfl)
  have heq : chordAction i .heatOverride (markFired i u) =
      (markFired i u).setZnc { u.znc with override := true } := if_pos hm
  dsimp only
  rw [hw]
  exact drivePins_of_eq heq

/-- R76. A firing CYCLE chord where a restart is taken. -/
theorem cycle_fired
    (hm : u.mbs.state = .powering ∨ u.mbs.state = .boot ∨ u.mbs.state = .run ∨ u.mbs.state = .warn) :
    let t := chordAction i .cycle (chordOffered i u)
    t.mbs.state = .cycling ∧ t.mbs.bootCause = .chord ∧ Departed u (drivePins t) .chord i.val .cycle u.mbs.count := by
  obtain ⟨-, -, -, -, -, hmbs, -⟩ := chordOffered_keeps i u
  rw [← takesRestart_iff, ← hmbs] at hm
  rw [((chordAction_departs i (chordOffered i u)).1 hm).1]
  exact departed_fired i u .cycle .chord

/-- R77. A firing RESTART chord where a restart is taken. -/
theorem restart_fired
    (hm : u.mbs.state = .powering ∨ u.mbs.state = .boot ∨ u.mbs.state = .run ∨ u.mbs.state = .warn) :
    let t := chordAction i .restart (chordOffered i u)
    t.mbs.state = .resetting ∧ t.mbs.bootCause = .chord ∧ Departed u (drivePins t) .chord i.val .reset u.mbs.count := by
  obtain ⟨-, -, -, -, -, hmbs, -⟩ := chordOffered_keeps i u
  rw [← takesRestart_iff, ← hmbs] at hm
  rw [((chordAction_departs i (chordOffered i u)).1 hm).2]
  exact departed_fired i u .reset .chord

/-- R78. A firing POWER_OFF chord with the rail on. -/
theorem powerOff_fired_railOn (hm : u.mbs.state.railOn = true) :
    let t := chordAction i .powerOff (chordOffered i u)
    t.mbs.state = .off ∧ t.mbs.bootCause = u.mbs.bootCause ∧
    Departed u (drivePins t) .chord i.val .off u.mbs.count := by
  obtain ⟨-, -, -, -, -, hmbs, -⟩ := chordOffered_keeps i u
  rw [(chordAction_departs i (chordOffered i u)).2 (by rw [hmbs]; exact hm)]
  obtain ⟨hstate, hboot, hdeparted⟩ := departed_fired i u .off (chordOffered i u).mbs.bootCause
  exact ⟨hstate, hboot.trans (by rw [hmbs]), hdeparted⟩

/-- R59, R78. A firing POWER_OFF chord in HEAT_HOLD and CYCLING. -/
theorem powerOff_fired_unlogged (hm : u.mbs.state = .heatHold ∨ u.mbs.state = .cycling) :
    let t := chordAction i .powerOff (chordOffered i u)
    t.mbs.state = .off ∧ t.mbs.bootCause = u.mbs.bootCause ∧ t.rhs = u.rhs ∧ t.mbs.count = u.mbs.count ∧
    t.znc = { u.znc with override := false } := by
  have hw := chordOffered_eq i u
  generalize chordOffered i u = w at *
  generalize w.keq.queue = q, w.slp.tx = x at hw
  subst hw
  unfold chordAction powerOffChord
  dsimp only
  rcases hm with h | h <;> rw [h] <;> exact ⟨rfl, rfl, rfl, rfl, rfl⟩

/-- R78, R83, R93. A firing POWER_OFF chord in LOCKOUT. -/
theorem powerOff_fired_lockout (hm : u.mbs.state = .lockout) :
    let t := chordAction i .powerOff (chordOffered i u)
    t.mbs.state = .off ∧ t.mbs.bootCause = u.mbs.bootCause ∧ t.mbs.count = 0 ∧
    WakeEntry u (drivePins t) .chord i.val .off 0 := by
  have hw := chordOffered_eq i u
  generalize chordOffered i u = w at *
  generalize w.keq.queue = q, w.slp.tx = x at hw
  subst hw
  unfold chordAction powerOffChord
  dsimp only
  rw [hm]
  refine ⟨rfl, rfl, rfl, snapshot u, fun k => snapshotOf_snapshot u k, ?_⟩
  rw [hm]
  rfl

/-- R83. A firing POWER_OFF chord leads to OFF. -/
theorem powerOff_fired_off (hm : u.mbs.state ≠ .off) :
    let t := chordAction i .powerOff (chordOffered i u)
    t.mbs.state = .off ∧ t.mbs.bootCause = u.mbs.bootCause := by
  cases hr : u.mbs.state.railOn with
  | true => exact (powerOff_fired_railOn i u hr).imp id And.left
  | false =>
    rcases railOff_iff.1 hr with h | h | h | h
    · exact absurd h hm
    · exact (powerOff_fired_unlogged i u (.inl h)).imp id And.left
    · exact (powerOff_fired_unlogged i u (.inr h)).imp id And.left
    · exact (powerOff_fired_lockout i u h).imp id And.left

/-- R83, R84, R93. A firing POWER_ON chord in OFF and LOCKOUT wakes. -/
theorem powerOn_fired (hm : u.mbs.state = .off ∨ u.mbs.state = .lockout) :
    let t := chordAction i .powerOn (chordOffered i u)
    let count := if u.mbs.state = .lockout then 0 else u.mbs.count
    (t.mbs.state = if u.znc.release = true ∧ u.fcl.hold = false then .powering else .heatHold) ∧
    t.mbs.bootCause = .chord ∧ t.mbs.count = count ∧ WakeEntry u (drivePins t) .chord i.val .none count := by
  obtain ⟨-, -, -, -, -, hmbs, -⟩ := chordOffered_keeps i u
  have heq : chordAction i .powerOn (chordOffered i u) = wake .chord i.val (chordOffered i u) :=
    if_pos (by rw [hmbs]; exact unheated_iff.2 hm)
  obtain ⟨-, -, -, -, -, -, hcount, hboot, hstate⟩ := enterHeatHold_rest true (woken .chord i.val (chordOffered i u))
  have hrhs := wake_rhs .chord i.val (chordOffered i u)
  obtain ⟨-, htick, -⟩ := wake_keeps .chord i.val (chordOffered i u)
  have hw := chordOffered_eq i u
  dsimp only
  rw [heq]
  rw [← wake_eq] at *
  clear heq hmbs
  generalize chordOffered i u = w at *
  generalize wake .chord i.val w = t at *
  generalize w.keq.queue = q, w.slp.tx = x at hw
  subst hw
  refine ⟨hstate, hboot, hcount, snapshot u, fun k => snapshotOf_snapshot u k, ?_⟩
  unfold EntryPushed
  simp only [drivePins_keeps, htick]
  exact hrhs

end

/-! The command -/

section
variable {i : Fin 8} {s : State}

/-- R135. CHORD_FIRE of a chord that alone falls due. -/
theorem exec_chordFire_alone {n : Nat} (hp : s.powered = true) (hn : chordLeft s i = some n)
    (hd : onlyDue (.chordFire i) n s = true) :
    exec (.chordFire i) s = .next (drivePins (fireChord i (elapse n s))) := by
  have hown : ∀ e ∈ ownEvents s, e.1 = .chordFire i → e.2 = some n := fun e he hc => by
    obtain ⟨-, -, -, -, -, -, -, -, -, -, h, -⟩ := ownEvents_left s e he
    rw [h i hc, hn]
  refine (whenPowered_on s (chordFire i) hp).trans ?_
  unfold chordFire
  rw [hn, expire_alone _ _ _ _ hd hown, fireUpTo_alone]
  · rw [chordLeft_elapse, hn, Option.map_some, Nat.sub_self]
  · intro j hj
    have hne : Instr.chordFire j ≠ .chordFire i := fun hc => by
      injection hc with hc
      exact absurd hj (by rw [hc]; exact lt_irrefl i)
    have hj := List.all_eq_true.1 hd _ (chord_mem_ownEvents s j)
    rw [beq_eq_false_iff_ne.2 hne, Bool.false_or, Bool.not_eq_true', not_due_iff] at hj
    rw [chordLeft_elapse]
    exact hj

end

end Sys2Proof.Machine
end

section
/-! Chords due at one tick: they fire in ascending order, whichever command is taken (R134, R135, log entry 25). -/

namespace Sys2Proof.Machine

/-! What an action makes of the other chords -/

/-- R134. A chord whose members and rail are looked at again stays, ends being TIMING, or begins to be TIMING. -/
def ChordRun.Follows (r r' : ChordRun) : Prop := r' = r ∨ r'.state ≠ .timing ∨ (r.state = .idle ∧ r' = ⟨.timing, 0⟩)

theorem follows_chordNext (held matching : Bool) (r : ChordRun) : r.Follows (chordNext held matching r) := by
  unfold ChordRun.Follows chordNext
  cases held
  · exact .inr (.inl (by simp))
  · cases h : r.state <;> cases matching <;> simp

section
variable {s t : State}

theorem DownKeysOk.congr (h : DownKeysOk s) (hkeys : ∀ c : Fin 20, (t.keq.keys[c]).down = (s.keq.keys[c]).down)
    (hstate : ∀ c : Fin 20, (t.tsu.keys[c]).state = (s.tsu.keys[c]).state) (htbs : t.tbs = s.tbs) : DownKeysOk t :=
  fun c hd hv => by
    rw [hkeys] at hd
    rw [htbs] at hv
    rw [hstate]
    exact h c hd hv

theorem downKeysOk_elapse (n : Nat) (h : DownKeysOk s) : DownKeysOk (elapse n s) := by
  unfold elapse
  split
  · exact h
  · refine h.congr (fun c => ?_) (fun c => ?_) rfl
    · have hkey : (tab fun c : Fin 20 => (s.keq.keys[c]).elapse n)[c] = (s.keq.keys[c]).elapse n :=
        Vector.getElem_ofFn c.isLt
      refine (congrArg MappedKey.down hkey).trans ?_
      unfold MappedKey.elapse
      split <;> rfl
    · have hkey : (tab fun c : Fin 20 => { s.tsu.keys[c] with stuck := (s.tsu.keys[c]).stuck.map (· + n) })[c] =
          { s.tsu.keys[c] with stuck := (s.tsu.keys[c]).stuck.map (· + n) } := Vector.getElem_ofFn c.isLt
      exact (congrArg TouchKey.state hkey :)

theorem downKeysOk_chordOffered (i : Fin 8) (h : DownKeysOk s) : DownKeysOk (chordOffered i s) := by
  obtain ⟨-, -, -, -, -, -, -, htsu, -, -, htbs, hkeys, -⟩ := chordOffered_keeps i s
  exact h.congr (fun c => by rw [hkeys]) (fun c => by rw [htsu]) htbs

/-- R134, R136. Every chord follows the action of another. -/
theorem follows_chordAction (i : Fin 8) (a : ChordAction) (hd : DownKeysOk s)
    (hr : ∀ i : Fin 8, (s.tbs.tables.chords[i]).inRange = true) (k : Fin 8) :
    (s.keq.chords[k]).Follows ((chordAction i a s).keq.chords[k]) := by
  rcases chordAction_cases i a s with h | ⟨-, h⟩ | ⟨-, stage, boot, h⟩ | ⟨-, x, hx, h⟩ | ⟨-, h⟩ <;> rw [h]
  · exact .inl rfl
  · exact .inl rfl
  · rw [depart_chords .chord i.val stage (s.setMbs { s.mbs with bootCause := boot }) (.inr ⟨hd, hr⟩) k]
    exact .inr (.inl (by simp))
  · rw [hx]
    exact .inl rfl
  · obtain ⟨hreleased, hheld⟩ := enterHeatHold_rows true (woken .chord i.val s)
    rw [wake_eq]
    by_cases hrel : (woken .chord i.val s).znc.release = true ∧ (woken .chord i.val s).fcl.hold = false
    · rw [hreleased hrel]
      obtain ⟨held, matching, hchord⟩ := (switchOn_keq (heatHeld true (woken .chord i.val s))).2.2 k
      rw [hchord]
      exact follows_chordNext held matching _
    · rw [hheld hrel]
      exact .inl rfl

/-- R135. A chord that is due stays due or is no longer TIMING; one that is not due does not fall due. -/
theorem chordLeft_of_follows {k : Fin 8} (h : (s.keq.chords[k]).Follows t.keq.chords[k]) (htbs : t.tbs = s.tbs)
    (hr : (s.tbs.tables.chords[k]).inRange = true) :
    (chordLeft s k ≠ some 0 → chordLeft t k ≠ some 0) ∧
    (chordLeft s k = some 0 → chordLeft t k = some 0 ∨ chordLeft t k = none) := by
  have hhold : 5 ≤ (s.tbs.tables.chords[k]).hold := by
    unfold ChordEntry.inRange at hr
    simp only [Bool.and_eq_true, decide_eq_true_eq] at hr
    exact hr.1.2
  unfold chordLeft
  rw [htbs]
  dsimp only
  rcases h with h | h | ⟨hidle, h⟩
  · rw [h]
    exact ⟨id, .inl⟩
  · rw [if_neg h]
    exact ⟨fun _ => by simp, fun _ => .inr rfl⟩
  · rw [h, hidle]
    refine ⟨fun _ hc => ?_, fun hs => by simp at hs⟩
    have hzero : (s.tbs.tables.chords[k]).hold * 10 - 0 = 0 := Option.some.inj hc
    omega

/-- R134, R135. What a firing chord leaves of the chords that are due. -/
theorem chordLeft_fireChord (i : Fin 8) (hd : DownKeysOk s) (hr : ∀ i : Fin 8, (s.tbs.tables.chords[i]).inRange = true)
    (k : Fin 8) : (k = i ∨ chordLeft s k ≠ some 0 → chordLeft (fireChord i s) k ≠ some 0) ∧
      (k ≠ i → chordLeft s k = some 0 → chordLeft (fireChord i s) k = some 0 ∨ chordLeft (fireChord i s) k = none) := by
  obtain ⟨-, -, -, -, -, -, -, -, -, -, htbs, -⟩ := chordOffered_keeps i s
  have hr' : ∀ k : Fin 8, ((chordOffered i s).tbs.tables.chords[k]).inRange = true := by rw [htbs]; exact hr
  have hchord := chordOffered_chord i s k
  have hfollows := follows_chordAction i (s.tbs.tables.chords[i]).action (downKeysOk_chordOffered i hd) hr' k
  obtain ⟨hlater, hdue⟩ := chordLeft_of_follows hfollows (chordAction_tbs ..) (hr' k)
  have hleft : chordLeft (chordOffered i s) k = if i = k then none else chordLeft s k := by
    unfold chordLeft
    rw [hchord, htbs]
    split <;> rfl
  rw [hleft] at hlater hdue
  rw [fireChord_eq]
  refine ⟨fun h => hlater ?_, fun hne hs => hdue ?_⟩
  · split
    next => simp
    next hne => exact h.resolve_left (Ne.symm hne)
  · rw [if_neg (Ne.symm hne)]
    exact hs

/-- R135. Of chords in a list of which one alone is due, and none after it has fired, that one fires. -/
theorem foldl_fireIfDue_one {i : Fin 8} {l : List (Fin 8)} (hi : i ∈ l) (hdue : chordLeft s i = some 0)
    (hbefore : ∀ k ∈ l, k ≠ i → chordLeft s k ≠ some 0) (hafter : ∀ k ∈ l, chordLeft (fireChord i s) k ≠ some 0) :
    l.foldl fireIfDue s = fireChord i s := by
  induction l with
  | nil => cases hi
  | cons k l ih =>
    rw [List.foldl_cons]
    by_cases hk : k = i
    · subst hk
      have hfires : fireIfDue s k = fireChord k s := if_pos hdue
      rw [hfires]
      exact foldl_fireIfDue_later l _ fun j hj => hafter j (by simp [hj])
    · rw [fireIfDue_later s k (hbefore k (by simp) hk)]
      exact ih (by simpa [Ne.symm hk] using hi) (fun j hj => hbefore j (by simp [hj])) fun j hj => hafter j (by simp [hj])

end

/-! The supervisor's timers -/

section
variable {s : State}

theorem boardTimers_iff {m : Mbs} : (∀ e ∈ boardExpiries, e.timer m ≠ some 0) ↔
    m.shutdown ≠ some 0 ∧ runningPgTimer m ≠ some 0 ∧ m.resetTimer ≠ some 0 ∧ m.bootTimer ≠ some 0 ∧
    m.heartbeatTimer ≠ some 0 ∧ m.cycleTimer ≠ some 0 ∧ m.lockoutTimer ≠ some 0 := by
  simp [boardExpiries]

theorem some_ite_ne_zero {p : Prop} [Decidable p] {n : Nat} (h : p → n ≠ 0) : (if p then some n else none) ≠ some 0 := by
  split
  next hp => exact fun hc => h hp (Option.some.inj hc)
  next => exact nofun

/-- R61. Where the tables are in range, no action of a chord starts a timer of the supervisor that has run out. -/
theorem boardTimers_chordAction (i : Fin 8) (a : ChordAction) (hT : s.tbs.tables.policy.inRange = true)
    (h : ∀ e ∈ boardExpiries, e.timer s.mbs ≠ some 0) :
    ∀ e ∈ boardExpiries, e.timer (chordAction i a s).mbs ≠ some 0 := by
  have hp : 2 ≤ s.tbs.tables.policy.resetPulse ∧ 2 ≤ s.tbs.tables.policy.cycleOffTime ∧
      10 ≤ s.tbs.tables.policy.pgTimeout := by
    unfold Policy.inRange at hT
    simp only [Bool.and_eq_true, decide_eq_true_eq] at hT
    omega
  obtain ⟨hreset, hcycle, hpg⟩ := hp
  have hshutdown := (boardTimers_iff.1 h).1
  rcases chordAction_cases i a s with heq | ⟨-, heq⟩ | ⟨-, stage, boot, heq⟩ | ⟨-, x, hx, heq⟩ | ⟨-, heq⟩ <;> rw [heq]
  · exact h
  · exact h
  · rw [boardTimers_iff, depart_mbs]
    exact ⟨nofun, by simp [runningPgTimer, Mbs.leave], some_ite_ne_zero fun _ => by dsimp only [setMbs_tbs]; omega,
      nofun, nofun, some_ite_ne_zero fun _ => by dsimp only [setMbs_tbs]; omega, some_ite_ne_zero fun hl => by omega⟩
  · rw [hx, boardTimers_iff]
    exact ⟨hshutdown, by simp [enterOff, runningPgTimer, Mbs.leave], nofun, nofun, nofun, nofun, nofun⟩
  · rw [wake_eq, boardTimers_iff]
    by_cases hrel : (woken .chord i.val s).znc.release = true ∧ (woken .chord i.val s).fcl.hold = false
    · rw [(enterHeatHold_released true _ hrel).1]
      refine ⟨hshutdown, ?_, nofun, nofun, nofun, nofun, nofun⟩
      have htbs : (woken .chord i.val s).tbs = s.tbs := rfl
      simp [runningPgTimer, htbs]
      omega
    · rw [(enterHeatHold_rows true _).2 hrel]
      exact ⟨hshutdown, by simp [heatHeld_mbs, runningPgTimer], nofun, nofun, nofun, nofun, nofun⟩

theorem boardTimers_fireChord (i : Fin 8) (hT : s.tbs.tables.policy.inRange = true)
    (h : ∀ e ∈ boardExpiries, e.timer s.mbs ≠ some 0) : ∀ e ∈ boardExpiries, e.timer (fireChord i s).mbs ≠ some 0 := by
  obtain ⟨-, -, -, -, -, hmbs, -, -, -, -, htbs, -⟩ := chordOffered_keeps i s
  rw [← htbs] at hT
  rw [← hmbs] at h
  exact boardTimers_chordAction i _ hT h

end

end Sys2Proof.Machine
end

section
/-! The pins have no part in what a chord does (R135, R148). -/

namespace Sys2Proof.Machine

section
variable (p : Pog) (s : State)

theorem setPog_kickTx : (kickTx s).setPog p = kickTx (s.setPog p) := by
  unfold kickTx
  cases htx : s.slp.tx with
  | idle =>
    cases hr : s.slp.reply with
    | some f => simp only [setPog_slp, htx, hr]; rfl
    | none =>
      cases hq : s.keq.queue with
      | nil => simp only [setPog_slp, setPog_keq, htx, hr, hq]
      | cons e rest =>
        simp only [setPog_slp, setPog_keq, setPog_mbs, htx, hr, hq]
        split <;> rfl
  | reply bs => simp only [setPog_slp, htx]
  | event bs => simp only [setPog_slp, htx]

theorem setPog_offer (e : Event) : (offer e s).setPog p = offer e (s.setPog p) := by
  have hj : offerJudgement (s.setPog p) e = offerJudgement s e := rfl
  unfold offer
  rw [hj]
  split
  · exact setPog_kickTx p _
  · rfl
  · rfl

theorem setPog_offerKeyUp (c : Fin 20) (cause : Cause) :
    (offerKeyUp c cause s).setPog p = offerKeyUp c cause (s.setPog p) := by
  unfold offerKeyUp
  rw [setPog_keq]
  split
  · exact congrArg (updKey c MappedKey.unreport) (setPog_offer p s _)
  · rfl

theorem setPog_releaseTransition (c : Fin 20) (cause : Cause) :
    (releaseTransition c cause s).setPog p = releaseTransition c cause (s.setPog p) := by
  unfold releaseTransition
  rw [← setPog_offerKeyUp, setPog_tbs]
  split <;> rfl

theorem setPog_releaseAll (cs : List (Fin 20)) (cause : Cause) :
    (releaseAll cs cause s).setPog p = releaseAll cs cause (s.setPog p) := by
  unfold releaseAll
  induction cs generalizing s with
  | nil => rfl
  | cons c cs ih => rw [List.foldl_cons, List.foldl_cons, ih, setPog_releaseTransition]

theorem setPog_rescan (mode : ScanMode) : (rescan mode s).setPog p = rescan mode (s.setPog p) := by
  unfold rescan
  exact setPog_releaseAll p _ _ _

theorem setPog_railMoved : (railMoved s).setPog p = railMoved (s.setPog p) := by
  have hsync : ∀ v : State, (syncChords v).setPog p = syncChords (v.setPog p) := fun _ => rfl
  have hdriven : (recomputeFan (recomputeDuties (setRailChange .none s))).setPog p =
      recomputeFan (recomputeDuties (setRailChange .none (s.setPog p))) := rfl
  unfold railMoved
  rw [hsync, setPog_rescan, hdriven, setPog_mbs]

theorem setPog_depart (cause : Cause) (d : Nat) (stage : Stage) :
    (depart cause d stage s).setPog p = depart cause d stage (s.setPog p) := by
  unfold depart
  dsimp only
  split
  · rfl
  · unfold switchOff
    exact setPog_railMoved p _

theorem setPog_switchOn : (switchOn s).setPog p = switchOn (s.setPog p) := by
  unfold switchOn
  exact setPog_railMoved p _

theorem setPog_enterHeatHold (fresh : Bool) : (enterHeatHold fresh s).setPog p = enterHeatHold fresh (s.setPog p) := by
  obtain ⟨hreleased, hheld⟩ := enterHeatHold_rows fresh s
  obtain ⟨hreleased', hheld'⟩ := enterHeatHold_rows fresh (s.setPog p)
  by_cases h : s.znc.release = true ∧ s.fcl.hold = false
  · rw [hreleased h, hreleased' h]
    exact setPog_switchOn p _
  · rw [hheld h, hheld' h]
    rfl

theorem setPog_requestedRestart (cause : Cause) (d : Nat) (stage : Stage) :
    (requestedRestart cause d stage s).setPog p = requestedRestart cause d stage (s.setPog p) := by
  unfold requestedRestart
  rw [setPog_mbs]
  split
  · exact setPog_depart p _ _ _ _
  · rfl

theorem setPog_chordAction (i : Fin 8) (a : ChordAction) :
    (chordAction i a s).setPog p = chordAction i a (s.setPog p) := by
  cases a with
  | restart | cycle => exact setPog_requestedRestart p s _ _ _
  | powerOff =>
    unfold chordAction powerOffChord
    dsimp only
    rw [setPog_mbs]
    cases s.mbs.state with
    | off | heatHold | cycling | lockout => rfl
    | powering | boot | run | warn | resetting => exact setPog_depart p s _ _ _
  | powerOn =>
    unfold chordAction powerOnChord
    dsimp only
    rw [setPog_mbs]
    split
    · exact setPog_enterHeatHold p _ true
    · rfl
  | heatOverride =>
    unfold chordAction overrideHeat
    dsimp only
    rw [setPog_mbs]
    split <;> rfl
  | report => rfl

theorem setPog_fireChord (i : Fin 8) : (fireChord i s).setPog p = fireChord i (s.setPog p) := by
  have hoffered : (chordOffered i s).setPog p = chordOffered i (s.setPog p) := setPog_offer p (markFired i s) _
  rw [fireChord_eq, fireChord_eq, ← hoffered]
  exact setPog_chordAction p _ _ _

theorem fireChord_keeps (i : Fin 8) : (fireChord i s).powered = s.powered ∧ (fireChord i s).pog = s.pog := by
  obtain ⟨hpowered, -, -, hpog, -⟩ := chordAction_keeps i (s.tbs.tables.chords[i]).action (chordOffered i s)
  obtain ⟨hopowered, -, -, -, -, -, -, -, hopog, -⟩ := chordOffered_keeps i s
  exact ⟨hpowered.trans hopowered, hpog.trans hopog⟩

/-- R148. Pins driven before a chord fires are driven anew after it. -/
theorem drivePins_fireChord_drivePins (i : Fin 8) : drivePins (fireChord i (drivePins s)) = drivePins (fireChord i s) := by
  have hdrives : drivePins s = s.setPog { s.pog with applied := (drivePins s).pog.applied } := rfl
  rw [hdrives, ← setPog_fireChord, ← (fireChord_keeps s i).2]
  rfl

end

/-! Two chords due at one tick -/

section
variable {i j c : Fin 8} {n : Nat} {s : State}

/-- R135. The command of either of two chords that fall due together and alone. -/
theorem exec_chordFire_pair (hp : s.powered = true) (hi : chordLeft s i = some n) (hj : chordLeft s j = some n)
    (hc : c = i ∨ c = j)
    (h : ((ownEvents s).all fun e => e.1 == .chordFire i || e.1 == .chordFire j || !dueWithin n e) = true) :
    exec (.chordFire c) s = .next (drivePins (fireUpTo c (elapse n s))) ∧
    (∀ e ∈ boardExpiries, e.timer (elapse n s).mbs ≠ some 0) ∧
    ∀ k, k ≠ i → k ≠ j → chordLeft (elapse n s) k ≠ some 0 := by
  have hdue : ∀ e ∈ ownEvents s, e.1 = .chordFire i ∨ e.1 = .chordFire j ∨ dueWithin n e = false := fun e he => by
    have := List.all_eq_true.1 h e he
    simpa only [Bool.or_eq_true, beq_iff_eq, Bool.not_eq_true', or_assoc] using this
  have hown : ∀ e ∈ ownEvents s, e.2 = some n ∨ dueWithin n e = false := fun e he => by
    obtain ⟨-, -, -, -, -, -, -, -, -, -, hchord, -⟩ := ownEvents_left s e he
    rcases hdue e he with hk | hk | hk
    · exact .inl ((hchord i hk).trans hi)
    · exact .inl ((hchord j hk).trans hj)
    · exact .inr hk
  have hboard : ∀ e ∈ boardExpiries, dueWithin n (e.cmd, e.timer s.mbs) = false := fun e he => by
    have hne := boardExpiry_ne_chordFire he
    exact ((hdue _ (board_mem_ownEvents s he)).resolve_left (hne i)).resolve_left (hne j)
  refine ⟨?_, boardTimers_elapse hboard, fun k hki hkj => ?_⟩
  · have hleft : chordLeft s c = some n := by rcases hc with rfl | rfl <;> assumption
    refine (whenPowered_on s (chordFire c) hp).trans ?_
    unfold chordFire
    rw [hleft, expire_together _ _ hown hboard]
  · have hk := ((hdue _ (chord_mem_ownEvents s k)).resolve_left (by simpa using hki)).resolve_left (by simpa using hkj)
    rw [chordLeft_elapse]
    exact not_due_iff.1 hk

/-- R135. CHORD_FIRE of a chord whose ticks have passed, where no other timer of the part has run out with them. -/
theorem exec_chordFire_now (hp : s.powered = true) (hboard : ∀ e ∈ boardExpiries, e.timer s.mbs ≠ some 0)
    (hlow : ∀ k, k < i → chordLeft s k ≠ some 0) (hi : chordLeft s i = some 0 ∨ chordLeft s i = none) :
    exec (.chordFire i) s = .next (drivePins (fireIfDue s i)) := by
  refine (whenPowered_on s (chordFire i) hp).trans ?_
  unfold chordFire
  rcases hi with hi | hi
  · have hexpire : expire (.chordFire i) (some 0) (fireUpTo i) s = settle (.chordFire i) s (fireUpTo i s) := rfl
    rw [hi, hexpire, settle_none _ _ _ fun e he _ => hboard e he, fireUpTo_alone i s hi hlow, fireIfDue, if_pos hi]
  · rw [hi, expire_none, fireIfDue_later s i (by rw [hi]; exact nofun)]

/-- R135. Of two chords due at one tick the lower fires first, and then the higher, unless the first has ended it. -/
theorem exec_chordFire_lower_first (hp : s.powered = true) (hd : DownKeysOk s) (hT : TablesOk s) (hji : j < i)
    (hi : chordLeft s i = some n) (hj : chordLeft s j = some n)
    (h : ((ownEvents s).all fun e => e.1 == .chordFire i || e.1 == .chordFire j || !dueWithin n e) = true) :
    ∃ u, exec (.chordFire j) s = .next u ∧ exec (.chordFire i) s = exec (.chordFire i) u := by
  obtain ⟨hexeci, hboard, hlater⟩ := exec_chordFire_pair hp hi hj (.inl rfl) h
  obtain ⟨hexecj, -⟩ := exec_chordFire_pair hp hi hj (.inr rfl) h
  have hdue : ∀ k, chordLeft s k = some n → chordLeft (elapse n s) k = some 0 := fun k hk => by
    rw [chordLeft_elapse, hk, Option.map_some, Nat.sub_self]
  have hdown := downKeysOk_elapse n hd
  obtain ⟨hpw, -, -, -, -, -, htbs, -⟩ := elapse_keeps n s
  obtain ⟨⟨-, hchords, -, -, -, -, hpolicy, -⟩, -⟩ := hT
  rw [← htbs] at hchords hpolicy
  rw [← hpw] at hp
  rw [hexeci, hexecj]
  refine ⟨_, rfl, ?_⟩
  have hduei := hdue i hi
  have hduej := hdue j hj
  generalize elapse n s = w at *
  have hafter := chordLeft_fireChord j hdown hchords
  have hother : ∀ k, k ≠ i → chordLeft (fireChord j w) k ≠ some 0 := fun k hk => (hafter k).1 <| by
    by_cases hkj : k = j
    · exact .inl hkj
    · exact .inr (hlater k hk hkj)
  have hfirst : fireUpTo j w = fireChord j w :=
    fireUpTo_alone j w hduej fun k hk => hlater k (hk.trans hji).ne hk.ne
  have hboth : fireUpTo i w = fireIfDue (fireChord j w) i := by
    rw [fireUpTo_eq, foldl_fireIfDue_one (i := j) (by simpa using hji) hduej (fun k hk hkj => hlater k ?_ hkj)
      fun k hk => hother k ?_] <;> exact (by simpa using hk : k < i).ne
  rw [hfirst, hboth, exec_chordFire_now (i := i) (s := drivePins (fireChord j w)) ((fireChord_keeps w j).1.trans hp)
    (boardTimers_fireChord j hpolicy hboard) (fun k hk => hother k hk.ne) ((hafter i).2 hji.ne' hduei)]
  have hagain : drivePins (fireIfDue (drivePins (fireChord j w)) i) = drivePins (fireIfDue (fireChord j w) i) := by
    unfold fireIfDue
    have hleft : chordLeft (drivePins (fireChord j w)) i = chordLeft (fireChord j w) i := rfl
    rw [hleft]
    split
    · exact drivePins_fireChord_drivePins _ i
    · rfl
  rw [hagain]

end

/-- Settles O50: two chords due at one tick by the chords and timers that the lower one leaves; a chord that fires alone
by what its event and its action make of the state in which its hold time has passed. -/
theorem aChordFiresItsAction : Obligations.AChordFiresItsAction := by
  refine ⟨fun i j n s hp hd hT hji hi hj h => exec_chordFire_lower_first hp hd hT hji hi hj h, ?_⟩
  intro i s hp ht e u taken judged stays hd
  have hleft : chordLeft s i = some (e.hold * 10 - (s.keq.chords[i]).timer) := if_pos ht
  have hexec : exec (.chordFire i) s = .next (drivePins (fireChord i u)) := exec_chordFire_alone hp hleft hd
  have htick : u.tick = s.tick + (e.hold * 10 - (s.keq.chords[i]).timer) := elapse_tick _ s
  have hqueue : u.keq.queue = s.keq.queue := elapse_queue _ s
  have hcount : reportedCount u.keq = reportedCount s.keq := reportedCount_elapse s _
  have hrefs : u.tsu.refs = s.tsu.refs := (elapse_tsu _ s).2.1
  have hmbs : u.mbs.state = s.mbs.state ∧ u.mbs.count = s.mbs.count ∧ u.mbs.bootCause = s.mbs.bootCause := by
    have h : u.mbs = _ := elapse_mbs _ s
    rw [h]
    exact ⟨rfl, rfl, rfl⟩
  obtain ⟨hstate, hc, hboot⟩ := hmbs
  have hkeeps : _ ∧ u.tmu = s.tmu ∧ u.znc = s.znc ∧ u.pog = s.pog ∧ u.fcl = s.fcl ∧ u.slp = s.slp ∧ u.tbs = s.tbs ∧ _ :=
    elapse_keeps _ s
  obtain ⟨-, htmu, hznc, hpog, hfcl, hslp, htbs, -⟩ := hkeeps
  have haction : (u.tbs.tables.chords[i]).action = e.action := by rw [htbs]
  clear_value u
  refine ⟨_, hexec, ?_⟩
  rw [fireChord_eq]
  simp only [taken, judged, stays, ← haction, ← htick, ← hrefs, ← hstate, ← hc, ← hboot, ← hqueue, ← hcount, ← htmu,
    ← hznc, ← hpog, ← hfcl, ← hslp, ← htbs, drivePins_keeps, drivePins_requested]
  obtain ⟨-, hatick, hatmu, hapog, hafcl, haslp, hatbs, harefs, haqueue, hastays⟩ :=
    chordAction_keeps i (u.tbs.tables.chords[i]).action (chordOffered i u)
  obtain ⟨-, hotick, hotmu, -, -, hombs, -, hotsu, hopog, hofcl, hotbs, -, hoslp⟩ := chordOffered_keeps i u
  obtain ⟨hadmitted, hdiscarded, hsent⟩ := chordOffered_rows (i := i) (s := u)
  have hnothing := chordAction_discarded i (u.tbs.tables.chords[i]).action (chordOffered i u)
  rw [hombs] at hnothing
  have halone := fired_alone i u (x := chordAction i (u.tbs.tables.chords[i]).action (chordOffered i u))
  simp only [drivePins_keeps] at halone
  refine ⟨hatick.trans hotick, hatbs.trans hotbs, hatmu.trans hotmu, hafcl.trans hofcl, by rw [hapog, hopog],
    harefs.trans (by rw [hotsu]), by rw [haslp]; exact hoslp, fun hs hj hb hroom => ?_, fun hs hj => ?_,
    fun hm hi hr hq => ?_, fun ha => halone (hnothing (.inl ha)), fun ha hm => by rw [ha]; exact override_fired i u hm,
    fun ha hm => halone (hnothing (.inr (.inl ⟨ha, hm⟩))), fun ha hm => by rw [ha]; exact cycle_fired i u hm,
    fun ha hm => by rw [ha]; exact restart_fired i u hm, fun ha hm => ?_, fun ha hm => ?_, fun ha hm => ?_,
    fun ha hm => ?_, fun ha hm => ?_, fun ha hm => halone (hnothing (.inr (.inr (.inr (.inl ⟨ha, hm⟩))))),
    fun ha hm => by rw [ha]; exact powerOn_fired i u hm,
    fun ha hn hl => halone (hnothing (.inr (.inr (.inr (.inr ⟨ha, hn, hl⟩)))))⟩
  · rw [hastays hs, hadmitted (admits_iff.2 hj) hb hroom, hatick, hotick]
  · rw [hastays hs, hdiscarded (Bool.eq_false_iff.2 (mt admits_iff.1 hj))]
    rfl
  · obtain ⟨htx, hnone⟩ := hsent (sendsEvents_iff.2 hm) hi hr hq
    rw [haslp, hatick, hotick]
    exact ⟨htx, haqueue.elim (·.trans hnone) id⟩
  · exact halone (hnothing (.inr (.inr (.inl ⟨ha, Bool.eq_false_iff.2 (mt takesRestart_iff.1 hm)⟩))))
  · rw [ha]
    exact powerOff_fired_off i u hm
  · rw [ha]
    obtain ⟨-, -, hdeparted⟩ := powerOff_fired_railOn i u (railOn_iff.2 (by simpa only [or_assoc] using hm))
    exact hdeparted
  · rw [ha]
    obtain ⟨-, -, hkept⟩ := powerOff_fired_unlogged i u hm
    exact hkept
  · rw [ha]
    obtain ⟨-, -, hentry⟩ := powerOff_fired_lockout i u hm
    exact hentry

end Sys2Proof.Machine
end

section
/-! SUPPORT. What keeps the supervisor consistent and its timers unexpired (R61, R63, R66 to R71, R79, R80, R82, R84,
R85, R101): the supervisor's own transitions, each said once of the state it leaves. -/

namespace Sys2Proof.Machine

/-! The invariant -/

/-- R66 to R71, R79, R80. The timer that decides a state runs in it; a power-good timer that stands in POWERING has
ticks left. -/
def Mbs.decided (m : Mbs) : Prop :=
  (m.state = .powering → (m.pgRunning = true ∨ m.resetTimer.isSome = true) ∧ (m.pgRunning = false → 0 < m.pgLeft)) ∧
  (m.state = .boot → m.bootTimer.isSome = true) ∧
  (m.state = .run ∨ m.state = .warn → m.heartbeatTimer.isSome = true) ∧
  (m.state = .resetting → m.resetTimer.isSome = true) ∧
  (m.state = .cycling → m.cycleTimer.isSome = true)

/-- R85. No timer of the supervisor stands expired but those whose commands `D` names: inside an expiry, those that act
in the same command. -/
def Mbs.expiredIn (D : Instr → Prop) (m : Mbs) : Prop := ∀ e ∈ boardExpiries, e.timer m = some 0 → D e.cmd

/-- The supervisor's invariant and, where `clock`, that its timers run on under tables in range. The two are kept by the
same transitions, so each is proved of both at once. -/
structure BoardOk (clock : Prop) (D : Instr → Prop) (s : State) : Prop where
  board : SupervisorOk s
  ticks : clock → s.tbs.tables.inRange ∧ s.mbs.decided ∧ s.mbs.expiredIn D

theorem Mbs.expiredIn_iff {D : Instr → Prop} {m : Mbs} : m.expiredIn D ↔
    (m.shutdown = some 0 → D .pendingShutdownExpiry) ∧ (runningPgTimer m = some 0 → D .pgTimeout) ∧
    (m.resetTimer = some 0 → D .resetPulseExpiry) ∧ (m.bootTimer = some 0 → D .bootTimeout) ∧
    (m.heartbeatTimer = some 0 → D .heartbeatExpiry) ∧ (m.cycleTimer = some 0 → D .cycleTimerExpiry) ∧
    (m.lockoutTimer = some 0 → D .lockoutRetryExpiry) := by
  simp [Mbs.expiredIn, boardExpiries]

/-- A supervisor whose timers run on is one without expired timers, every state's deciding timer running. -/
theorem Mbs.runsOn_iff {m : Mbs} : m.runsOn ↔ m.decided ∧ m.expiredIn (fun _ => False) := by
  have hpg : m.state = .powering → m.expiredIn (fun _ => False) → m.pgRunning = true → 0 < m.pgLeft :=
      fun hm he hr => by
    obtain ⟨-, hpg, -⟩ := Mbs.expiredIn_iff.1 he
    rw [runningPgTimer, if_pos ⟨hm, hr⟩] at hpg
    exact Nat.pos_of_ne_zero fun h => hpg (congrArg some h)
  constructor
  · rintro ⟨he, hpow, hboot, hrun, hreset, hcycle⟩
    exact ⟨⟨fun h => ⟨(hpow h).2, fun _ => (hpow h).1⟩, hboot, hrun, hreset, hcycle⟩, fun e hm => he e hm⟩
  · rintro ⟨⟨hpow, hboot, hrun, hreset, hcycle⟩, he⟩
    refine ⟨fun e hm => he e hm, fun h => ⟨?_, (hpow h).1⟩, hboot, hrun, hreset, hcycle⟩
    cases hr : m.pgRunning with
    | true => exact hpg h he hr
    | false => exact (hpow h).2 hr

/-- R62. A timer that a table in range starts has ticks to go. -/
theorem Tables.inRange.policy_pos {T : Tables} (h : T.inRange) :
    0 < T.policy.heartbeatLimit ∧ 0 < T.policy.bootWindow ∧ 0 < T.policy.resetPulse ∧ 0 < T.policy.cycleOffTime ∧
    0 < T.policy.pgTimeout := by
  obtain ⟨-, -, -, -, -, -, hp, -⟩ := h
  simp only [Policy.inRange, Bool.and_eq_true, decide_eq_true_eq] at hp
  omega

section
variable {R : Prop} {D D' : Instr → Prop} {s t : State}

/-- What the invariant speaks of. -/
def boardView (s : State) : Mbs × ScanMode × Tables := (s.mbs, s.tsu.mode, s.tbs.tables)

theorem BoardOk.of_view (ok : BoardOk R D s) (h : boardView t = boardView s) : BoardOk R D t := by
  simp only [boardView, Prod.mk.injEq] at h
  obtain ⟨hm, hmode, hT⟩ := h
  obtain ⟨hb, ht⟩ := ok
  refine ⟨?_, fun hR => ?_⟩
  · unfold SupervisorOk at *
    rw [hm, hmode, hT]
    exact hb
  · rw [hm, hT]
    exact ht hR

/-- More timers may stand expired. -/
theorem BoardOk.mono (ok : BoardOk R D s) (h : ∀ c, D c → D' c) : BoardOk R D' s :=
  ⟨ok.board, fun hR =>
    have ⟨hT, hd, he⟩ := ok.ticks hR
    ⟨hT, hd, fun e hm hz => h _ (he e hm hz)⟩⟩

/-- R61, R101. In a rail-on state the rail is on and the scan mode ACTIVE. -/
theorem BoardOk.rail_on (ok : BoardOk R D s) (hs : s.mbs.state.railOn = true) :
    s.mbs.pwrEn = true ∧ s.tsu.mode = .active := by
  obtain ⟨⟨hp, -, hm⟩, -⟩ := ok.board
  rw [hs] at hp
  rw [hp] at hm
  exact ⟨hp, hm⟩

/-- R61, R101. In a rail-off state the rail is off, the main board in reset and the scan mode STANDBY. -/
theorem BoardOk.rail_off (ok : BoardOk R D s) (hs : s.mbs.state.railOn = false) :
    s.mbs.pwrEn = false ∧ s.mbs.rstN = false ∧ s.tsu.mode = .standby ∧ s.mbs.state.admits = false := by
  obtain ⟨⟨hp, hr, hm⟩, -⟩ := ok.board
  have ha : s.mbs.state.admits = false := by
    cases h : s.mbs.state.admits with
    | false => rfl
    | true => exact absurd (admits_drives h).1 (by rw [hs]; exact Bool.false_ne_true)
  rw [hs] at hp
  rw [hp] at hm
  exact ⟨hp, hr.trans ha, hm, ha⟩

/-- R61, R70, R82. Outside BOOT, RUN and WARN no shutdown is pending and no run is timed. -/
theorem BoardOk.no_run (ok : BoardOk R D s) (hs : s.mbs.state.admits = false) :
    s.mbs.shutdown = none ∧ s.mbs.runTicks = none ∧ s.mbs.stable = none := by
  obtain ⟨-, ⟨-, -, -, -, -, -, hshut, hrun, hstable⟩, -⟩ := ok.board
  have hn : ¬(s.mbs.state = .boot ∨ s.mbs.state = .run ∨ s.mbs.state = .warn) := by
    rw [← admits_iff, hs]
    exact Bool.false_ne_true
  have hr : s.mbs.runTicks = none := by
    rw [← Option.not_isSome_iff_eq_none]
    exact fun h => hn ((hrun h).elim (fun h => .inr (.inl h)) fun h => .inr (.inr h))
  refine ⟨?_, hr, ?_⟩
  · rw [← Option.not_isSome_iff_eq_none]
    exact fun h => hn (hshut h)
  · rw [← Option.not_isSome_iff_eq_none]
    exact fun h => by simpa [hr] using hstable h

/-- R63. -/
theorem BoardOk.countOk (ok : BoardOk R D s) : s.mbs.countOk s.tbs.tables.policy := by
  obtain ⟨⟨-, -, hcount⟩, -⟩ := ok
  exact hcount

/-- R61. The main board is out of reset in BOOT, RUN and WARN alone. -/
theorem BoardOk.rstN_eq (ok : BoardOk R D s) : s.mbs.rstN = s.mbs.state.admits := by
  obtain ⟨⟨⟨-, hrst, -⟩, -⟩, -⟩ := ok
  exact hrst

/-- R70. A stable time stands only while the run timer runs. -/
theorem BoardOk.stable_run (ok : BoardOk R D s) : s.mbs.stable.isSome = true → s.mbs.runTicks.isSome = true := by
  obtain ⟨⟨-, ⟨-, -, -, -, -, -, -, -, hstable⟩, -⟩, -⟩ := ok
  exact hstable

/-- R63. Outside LOCKOUT the count is at most n_reset + n_cycle. -/
theorem BoardOk.count_le (ok : BoardOk R D s) (hs : s.mbs.state ≠ .lockout) :
    s.mbs.count ≤ s.tbs.tables.policy.nReset + s.tbs.tables.policy.nCycle := by
  have hc := ok.countOk
  rwa [Mbs.countOk, if_neg hs] at hc

/-- R63. A change of the supervisor's count, cause, token and level of MAIN_PG moves no timer and no state. -/
theorem BoardOk.setCount (ok : BoardOk R D s) (n : Nat) (boot : Cause) (token : Option Byte) (level : Bool)
    (hn : if s.mbs.state = .lockout then n = s.tbs.tables.policy.nReset + s.tbs.tables.policy.nCycle + 1
      else n ≤ s.tbs.tables.policy.nReset + s.tbs.tables.policy.nCycle) :
    BoardOk R D (s.setMbs { s.mbs with count := n, bootCause := boot, token := token, mainPg := level }) :=
  have ⟨hrail, htimers, _⟩ := ok.board
  ⟨⟨hrail, htimers, hn⟩, fun hR =>
    have ⟨hT, hd, he⟩ := ok.ticks hR
    ⟨hT, hd, Mbs.expiredIn_iff.2 (Mbs.expiredIn_iff (m := s.mbs).1 he)⟩⟩

/-! Departures -/

theorem depart_mode (cause : Cause) (d : Nat) (stage : Stage) (s : State) :
    (depart cause d stage s).tsu.mode = if stage = .reset then s.tsu.mode else .standby := by
  split
  next h => rw [h, depart_tsu_reset]
  next h => exact congrArg Tsu.mode (rescanned_depart cause d stage s h).1

/-- R78 to R80, R84. A departure leaves fresh timers alone. -/
theorem boardOk_depart (cause : Cause) (d : Nat) (stage : Stage) (hp : s.mbs.pwrEn = true)
    (hmode : s.tsu.mode = .active)
    (hc : if stage = .lockout then s.mbs.count = s.tbs.tables.policy.nReset + s.tbs.tables.policy.nCycle + 1
      else s.mbs.count ≤ s.tbs.tables.policy.nReset + s.tbs.tables.policy.nCycle)
    (hT : R → s.tbs.tables.inRange) : BoardOk R D (depart cause d stage s) := by
  have hm := depart_mbs cause d stage s
  have hstate := depart_state cause d stage s
  have hscan := depart_mode cause d stage s
  obtain ⟨-, -, -, -, -, -, htbs, -⟩ := depart_keeps cause d stage s
  generalize depart cause d stage s = t at *
  rw [hstate, hp] at hm
  rw [hmode] at hscan
  refine ⟨⟨?_, ?_, ?_⟩, fun hR => ⟨?_, ?_, ?_⟩⟩
  · unfold Mbs.railOk
    rw [hm, hscan]
    cases stage <;> exact ⟨rfl, rfl, rfl⟩
  · rw [hm]
    cases stage <;> simp [Mbs.timersOk, Mbs.leave, Stage.target]
  · rw [hm, htbs]
    cases stage <;> simpa [Mbs.countOk, Mbs.leave, Stage.target] using hc
  · rw [htbs]
    exact hT hR
  · rw [hm]
    cases stage <;> simp [Mbs.decided, Mbs.leave, Stage.target]
  · obtain ⟨-, -, hreset, hcycle, -⟩ := (hT hR).policy_pos
    rw [hm, Mbs.expiredIn_iff]
    cases stage <;> simp [Mbs.leave, runningPgTimer, Stage.target] <;> omega

theorem boardOk_depart_railOn (cause : Cause) (d : Nat) (stage : Stage) (hstage : stage ≠ .lockout)
    (ok : BoardOk R D s) (hs : s.mbs.state.railOn = true) : BoardOk R D' (depart cause d stage s) := by
  obtain ⟨hp, hmode⟩ := ok.rail_on hs
  refine boardOk_depart cause d stage hp hmode ?_ fun hR => (ok.ticks hR).1
  rw [if_neg hstage]
  exact ok.count_le fun h => by simp [h, MbsState.railOn] at hs

/-- R63, R75. The count after a decision is that of its stage. -/
theorem decisionStage_count (p : Policy) (cause : Cause) {n : Nat} (h : n ≤ p.nReset + p.nCycle) :
    if decisionStage p cause (n + 1) = .lockout then n + 1 = p.nReset + p.nCycle + 1
    else n + 1 ≤ p.nReset + p.nCycle := by
  rw [decisionStage_eq]
  (repeat' split) <;> simp_all <;> omega

/-- R75. A restart decision that is taken leaves fresh timers alone. -/
theorem boardOk_restartDecision_taken (cause : Cause) (d : Nat) (ok : BoardOk R D s)
    (hs : s.mbs.state.takesRestart = true) : BoardOk R D' (restartDecision cause d s) := by
  obtain ⟨hp, hmode⟩ := ok.rail_on (takesRestart_railOn hs)
  have hcount := ok.count_le fun h => by simp [h, MbsState.takesRestart] at hs
  have hmoved := recordsMoved_decided cause s
  have hmbs : (decided cause s).mbs = { s.mbs with count := s.mbs.count + 1, bootCause := cause } := hmoved.mbs
  have htsu : (decided cause s).tsu = s.tsu := hmoved.tsu
  have htbs : (decided cause s).tbs = s.tbs := hmoved.tbs
  rw [restartDecision_taken d hs]
  refine boardOk_depart cause d _ ?_ ?_ ?_ fun hR => ?_
  · rw [hmbs]; exact hp
  · rw [htsu]; exact hmode
  · rw [hmbs, htbs]; exact decisionStage_count _ cause hcount
  · rw [htbs]; exact (ok.ticks hR).1

theorem boardOk_restartDecision (cause : Cause) (d : Nat) (ok : BoardOk R D s) :
    BoardOk R D (restartDecision cause d s) := by
  cases hs : s.mbs.state.takesRestart with
  | true => exact boardOk_restartDecision_taken cause d ok hs
  | false => rw [restartDecision_absorbed cause d s hs]; exact ok

theorem boardOk_requestedRestart (cause : Cause) (d : Nat) (stage : Stage) (hstage : stage ≠ .lockout)
    (ok : BoardOk R D s) : BoardOk R D (requestedRestart cause d stage s) := by
  unfold requestedRestart
  split
  next h =>
    exact boardOk_depart_railOn cause d stage hstage
      (ok.setCount s.mbs.count cause s.mbs.token s.mbs.mainPg ok.countOk) (takesRestart_railOn h)
  next => exact ok

/-! HEAT_HOLD, OFF and the switch-on -/

/-- R65, R66. The switch-on from HEAT_HOLD. -/
theorem boardOk_switchOn (ok : BoardOk R D s) (hs : s.mbs.state = .heatHold) : BoardOk R D' (switchOn s) := by
  obtain ⟨hshut, hrun, hstable⟩ := ok.no_run (by rw [hs]; rfl)
  have hcount := ok.count_le (by rw [hs]; decide)
  have hm := switchOn_mbs s
  have hmode : (switchOn s).tsu.mode = .active := congrArg Tsu.mode (rescanned_switchOn s).1
  obtain ⟨-, -, -, -, -, -, htbs, -⟩ := switchOn_keeps s
  generalize switchOn s = t at *
  refine ⟨⟨?_, ?_, ?_⟩, fun hR => ⟨?_, ?_, ?_⟩⟩
  · unfold Mbs.railOk
    rw [hm, hmode]
    exact ⟨rfl, rfl, rfl⟩
  · rw [hm]
    simp [Mbs.timersOk, Mbs.leave, hshut, hrun, hstable]
  · rw [hm, htbs]
    simpa [Mbs.countOk, Mbs.leave] using hcount
  · rw [htbs]
    exact (ok.ticks hR).1
  · rw [hm]
    simp [Mbs.decided]
  · obtain ⟨-, -, -, -, hpg⟩ := (ok.ticks hR).1.policy_pos
    rw [hm, Mbs.expiredIn_iff]
    simp [Mbs.leave, runningPgTimer, hshut]
    omega

theorem boardOk_judgeRelease (ok : BoardOk R D s) : BoardOk R D (judgeRelease s) := by
  unfold judgeRelease
  split
  next h => exact boardOk_switchOn ok h.1
  next => exact ok

theorem boardOk_rejudgeRelease (ok : BoardOk R D s) : BoardOk R D (rejudgeRelease s) := by
  have hj : BoardOk R D (rejudge s) := ok.of_view (by simp [boardView])
  unfold rejudgeRelease
  split
  · exact boardOk_judgeRelease hj
  · exact hj

theorem boardOk_conditionChanged (k : FaultKind) (ok : BoardOk R D s) : BoardOk R D (conditionChanged k s) := by
  unfold conditionChanged
  dsimp only
  split
  · exact boardOk_rejudgeRelease (ok.of_view (by simp [boardView]))
  · exact ok

/-- R61. A rail-off state in which no timer runs: HEAT_HOLD, OFF. -/
theorem boardOk_idle {m : Mbs} (hm : t.mbs = { m.leave with state := t.mbs.state, pwrEn := false, rstN := false })
    (hs : t.mbs.state = .heatHold ∨ t.mbs.state = .off) (hrun : m.shutdown = none ∧ m.runTicks = none ∧ m.stable = none)
    (hmode : t.tsu.mode = .standby) (hc : m.count ≤ t.tbs.tables.policy.nReset + t.tbs.tables.policy.nCycle)
    (hT : R → t.tbs.tables.inRange) : BoardOk R D t := by
  obtain ⟨hshut, hticks, hstable⟩ := hrun
  generalize t.mbs.state = x at *
  refine ⟨⟨?_, ?_, ?_⟩, fun hR => ⟨hT hR, ?_, ?_⟩⟩
  · unfold Mbs.railOk
    rw [hm, hmode]
    rcases hs with rfl | rfl <;> exact ⟨rfl, rfl, rfl⟩
  · rw [hm]
    simp [Mbs.timersOk, Mbs.leave, hshut, hticks, hstable]
  · rw [hm]
    rcases hs with rfl | rfl <;> simpa [Mbs.countOk, Mbs.leave] using hc
  · rw [hm]
    rcases hs with rfl | rfl <;> simp [Mbs.decided]
  · rw [hm, Mbs.expiredIn_iff]
    simp [Mbs.leave, runningPgTimer, hshut]

/-- R59, R64. Entry into HEAT_HOLD from a rail-off state. -/
theorem boardOk_enterHeatHold (fresh : Bool) (ok : BoardOk R D s) (hs : s.mbs.state.railOn = false)
    (hlock : s.mbs.state ≠ .lockout) : BoardOk R D' (enterHeatHold fresh s) := by
  obtain ⟨-, -, hmode, hn⟩ := ok.rail_off hs
  exact boardOk_judgeRelease (boardOk_idle (t := heatHeld fresh s) (m := s.mbs) rfl (.inl rfl) (ok.no_run hn) hmode
    (ok.count_le hlock) fun hR => (ok.ticks hR).1)

/-- R83, R84. A wake from OFF or LOCKOUT. -/
theorem boardOk_wake (cause : Cause) (d : Nat) (ok : BoardOk R D s) (hs : s.mbs.state.unheated = true) :
    BoardOk R D' (wake cause d s) := by
  obtain ⟨-, -, hmode, hn⟩ := ok.rail_off (unheated_railOff hs)
  have hc : (if s.mbs.state = .lockout then 0 else s.mbs.count) ≤
      s.tbs.tables.policy.nReset + s.tbs.tables.policy.nCycle := by
    split
    next => exact Nat.zero_le _
    next h => exact ok.count_le h
  exact boardOk_judgeRelease (boardOk_idle (t := heatHeld true (woken cause d s)) (m := (woken cause d s).mbs) rfl
    (.inl rfl) (ok.no_run hn) hmode hc fun hR => (ok.ticks hR).1)

theorem boardOk_wakeKey (c : Fin 20) (ok : BoardOk R D s) : BoardOk R D (wakeKey c s) := by
  unfold wakeKey
  split
  next h => exact boardOk_wake _ _ ok (by rw [h]; rfl)
  next => exact ok

theorem boardOk_powerOnChord (i : Fin 8) (ok : BoardOk R D s) : BoardOk R D (powerOnChord i s) := by
  unfold powerOnChord
  split
  next h => exact boardOk_wake _ _ ok h
  next => exact ok

/-- R83. Entry into OFF from a rail-off state, with the count that stands there. -/
theorem boardOk_enterOff {n : Nat} (ok : BoardOk R D s) (hs : s.mbs.state.railOn = false)
    (hx : boardView t = boardView (s.setMbs { s.mbs with count := n }))
    (hn : n ≤ s.tbs.tables.policy.nReset + s.tbs.tables.policy.nCycle) : BoardOk R D' (enterOff t) := by
  obtain ⟨hp, hr, hmode, ha⟩ := ok.rail_off hs
  simp only [boardView, Prod.mk.injEq] at hx
  obtain ⟨hm, hscan, hT⟩ := hx
  refine boardOk_idle (m := { s.mbs with count := n }) ?_ (.inr rfl) (ok.no_run ha) (hscan.trans hmode) ?_ fun hR => ?_
  · change { t.mbs.leave with state := .off } = _
    rw [hm]
    simp only [setMbs_mbs, Mbs.leave, hp, hr]
    rfl
  · change n ≤ t.tbs.tables.policy.nReset + t.tbs.tables.policy.nCycle
    rw [hT]
    exact hn
  · change t.tbs.tables.inRange
    rw [hT]
    exact (ok.ticks hR).1

theorem boardOk_powerOffChord (i : Fin 8) (ok : BoardOk R D s) : BoardOk R D (powerOffChord i s) := by
  unfold powerOffChord
  split
  case h_1 => exact ok
  case h_2 h | h_3 h =>
    exact boardOk_enterOff (n := s.mbs.count) ok (by rw [h]; rfl) rfl (ok.count_le (by rw [h]; decide))
  case h_4 h => exact boardOk_enterOff (n := 0) ok (by rw [h]; rfl) (by simp [boardView]) (Nat.zero_le _)
  all_goals exact boardOk_depart_railOn _ _ _ (by decide) ok (by simp_all [MbsState.railOn])

/-! Records and reports -/

theorem boardOk_recordOccurrence (k : FaultKind) (d : Nat) (ok : BoardOk R D s) :
    BoardOk R D (recordOccurrence k d s) :=
  ok.of_view (by simp [boardView])

theorem boardOk_report (k : FaultKind) (d : Nat) (ok : BoardOk R D s) : BoardOk R D (report k d s) := by
  have hr := boardOk_recordOccurrence k d ok
  unfold report
  dsimp only
  split
  · exact boardOk_restartDecision _ _ hr
  · exact hr

theorem boardOk_reportAll (k : FaultKind) (l : List Nat) (ok : BoardOk R D s) : BoardOk R D (reportAll k l s) := by
  unfold reportAll
  induction l generalizing s with
  | nil => exact ok
  | cons d l ih => exact ih (boardOk_report k d ok)

/-- R75, R160. An occurrence reported where a restart is taken, and then the restart decision of its source: whichever
of the two restarts leaves fresh timers alone. -/
theorem boardOk_reported_restart (k : FaultKind) (d n : Nat) (cause : Cause) (ok : BoardOk R D s)
    (hs : s.mbs.state.takesRestart = true) : BoardOk R D' (restartDecision cause n (report k d s)) := by
  have hr := boardOk_recordOccurrence k d ok
  have hm : (recordOccurrence k d s).mbs.state.takesRestart = true := by simpa using hs
  unfold report
  dsimp only
  split
  · exact boardOk_restartDecision _ _ (boardOk_restartDecision_taken _ _ hr hm)
  · exact boardOk_restartDecision_taken _ _ hr hm

/-! BOOT, RUN and WARN -/

/-- R67. BOOT follows the reset pulse. -/
theorem boardOk_enterBoot (ok : BoardOk R D s) (hs : s.mbs.state = .powering ∨ s.mbs.state = .resetting) :
    BoardOk R D' (enterBoot s) := by
  have ha : s.mbs.state.admits = false := by rcases hs with h | h <;> rw [h] <;> rfl
  obtain ⟨hp, hmode⟩ := ok.rail_on (by rcases hs with h | h <;> rw [h] <;> rfl)
  obtain ⟨hshut, hrun, hstable⟩ := ok.no_run ha
  have hc := ok.count_le (by rcases hs with h | h <;> rw [h] <;> decide)
  have hm : (enterBoot s).mbs = { s.mbs.leave with
      state := .boot, rstN := true, token := none, bootTimer := some (s.tbs.tables.policy.bootWindow * 100) } := by
    simp [enterBoot]
  have hT : (enterBoot s).tbs.tables = s.tbs.tables := by simp
  have hscan : (enterBoot s).tsu = s.tsu := by simp
  generalize enterBoot s = t at *
  refine ⟨⟨?_, ?_, ?_⟩, fun hR => ?_⟩
  · unfold Mbs.railOk
    rw [hm, hscan, hmode]
    exact ⟨hp, rfl, (congrArg railMode hp).symm⟩
  · rw [hm]
    simp [Mbs.timersOk, Mbs.leave, hshut, hrun, hstable]
  · rw [hm, hT]
    simpa [Mbs.countOk, Mbs.leave] using hc
  · obtain ⟨-, hboot, -⟩ := (ok.ticks hR).1.policy_pos
    rw [hm, hT, Mbs.expiredIn_iff]
    refine ⟨(ok.ticks hR).1, by simp [Mbs.decided], ?_⟩
    simp [Mbs.leave, runningPgTimer, hshut]
    omega

/-- R61, R66, R79, R80, R84. In RUN and WARN the heartbeat timer alone is a timer of the state. -/
theorem BoardOk.leave_watched (ok : BoardOk R D s) (hs : s.mbs.state = .run ∨ s.mbs.state = .warn) :
    s.mbs.leave = { s.mbs with pgLeft := 0, heartbeatTimer := none } := by
  obtain ⟨-, ⟨hreset, hpg, hboot, -, hcycle, hlock, -⟩, -⟩ := ok.board
  generalize s.mbs = m at *
  cases m
  rcases hs with h | h <;> subst h <;> simp_all [Mbs.leave]

/-- R68 to R72. The supervisor in RUN or WARN, its heartbeat timer started. -/
def Mbs.watched (m : Mbs) (x : MbsState) (token : Option Byte) (pgLeft : Nat) (runTicks stable : Option Nat)
    (p : Policy) : Mbs :=
  { m.leave with
    state := x, token := token, pgLeft := pgLeft, runTicks := runTicks, stable := stable
    heartbeatTimer := some (heartbeatTicks p) }

/-- R68 to R72. From BOOT, RUN or WARN to RUN or WARN: the heartbeat timer is started and every other timer of the state
left is stopped. -/
theorem boardOk_watched {x : MbsState} {token : Option Byte} {pgLeft : Nat} {runTicks stable : Option Nat}
    (ok : BoardOk R D s) (hs : s.mbs.state.admits = true) (hx : x = .run ∨ x = .warn)
    (hstable : stable.isSome = true → runTicks.isSome = true)
    (hview : boardView t =
      boardView (s.setMbs (s.mbs.watched x token pgLeft runTicks stable s.tbs.tables.policy))) :
    BoardOk R (fun c => c ≠ .heartbeatExpiry ∧ D c) t := by
  obtain ⟨hon, -, -, -, hlock⟩ := admits_drives hs
  obtain ⟨hp, hmode⟩ := ok.rail_on hon
  have hc := ok.count_le hlock
  have hr : s.mbs.rstN = true := ok.rstN_eq.trans hs
  refine BoardOk.of_view (s := s.setMbs _) ⟨⟨?_, ?_, ?_⟩, fun hR => ?_⟩ hview
  · unfold Mbs.railOk
    rw [setMbs_mbs, setMbs_tsu, hmode]
    rcases hx with rfl | rfl <;> exact ⟨hp, hr, (congrArg railMode hp).symm⟩
  · rcases hx with rfl | rfl <;> simpa [Mbs.timersOk, Mbs.watched, Mbs.leave] using hstable
  · rcases hx with rfl | rfl <;> simpa [Mbs.countOk, Mbs.watched, Mbs.leave] using hc
  · obtain ⟨hT, -, he⟩ := ok.ticks hR
    obtain ⟨hbeat, -⟩ := hT.policy_pos
    obtain ⟨hshut, -⟩ := Mbs.expiredIn_iff.1 he
    refine ⟨hT, ?_, Mbs.expiredIn_iff.2 ⟨fun h => ⟨nofun, hshut h⟩, ?_, nofun, nofun, fun h => ?_, nofun, nofun⟩⟩
    · rcases hx with rfl | rfl <;> simp [Mbs.decided, Mbs.watched, Mbs.leave]
    · simp [Mbs.watched, Mbs.leave, runningPgTimer]
    · have hz : s.tbs.tables.policy.heartbeatLimit * 10 = 0 := Option.some.inj h
      omega

theorem boardOk_enterWarn (ok : BoardOk R D s) (hs : s.mbs.state = .run) :
    BoardOk R (fun c => c ≠ .heartbeatExpiry ∧ D c) (enterWarn s) :=
  boardOk_watched (token := s.mbs.token) (pgLeft := s.mbs.pgLeft) ok (by rw [hs]; rfl) (.inr rfl)
    ok.stable_run (by simp [boardView, enterWarn, Mbs.watched, ok.leave_watched (.inl hs)])

theorem boardOk_acceptHeartbeat (token : Byte) (ok : BoardOk R D s) (hs : s.mbs.state.admits = true) :
    BoardOk R D (acceptHeartbeat token s) := by
  refine BoardOk.mono (D := fun c => c ≠ .heartbeatExpiry ∧ D c) ?_ fun _ => And.right
  unfold acceptHeartbeat
  dsimp only
  split
  next h =>
    exact boardOk_watched (token := some token) (pgLeft := 0) (runTicks := some 0)
      (stable := some s.tbs.tables.policy.stableTime) ok hs (.inl rfl) (fun _ => rfl)
      (by simp [boardView, enterRun, Mbs.watched, Mbs.leave])
  next h =>
    have hw : s.mbs.state = .run ∨ s.mbs.state = .warn := (admits_iff.1 hs).resolve_left h
    exact boardOk_watched (token := some token) (pgLeft := s.mbs.pgLeft) ok hs (.inl rfl) ok.stable_run
      (by simp [boardView, Mbs.watched, ok.leave_watched hw])

/-! MAIN_PG -/

/-- R66. A high sample of MAIN_PG. -/
theorem boardOk_pgHigh (ok : BoardOk R D s) (hD : ¬ D .pgTimeout) : BoardOk R D (pgHigh s) := by
  unfold pgHigh
  dsimp only
  split
  next h =>
    obtain ⟨hm, hrun⟩ := h
    obtain ⟨hrail, ⟨-, -, htimers⟩, hcount⟩ := ok.board
    refine ⟨⟨hrail, ⟨fun _ => .inl hm, nofun, htimers⟩, hcount⟩, fun hR => ?_⟩
    obtain ⟨hT, ⟨-, hd⟩, he⟩ := ok.ticks hR
    obtain ⟨hshut, hpg, -, hrest⟩ := Mbs.expiredIn_iff.1 he
    obtain ⟨-, -, hreset, -⟩ := hT.policy_pos
    refine ⟨hT, ⟨fun _ => ⟨.inr rfl, fun _ => ?_⟩, ?_⟩, Mbs.expiredIn_iff.2 ⟨hshut, ?_, fun hz => ?_, hrest⟩⟩
    · refine Nat.pos_of_ne_zero fun hz => hD (hpg ?_)
      rw [runningPgTimer, if_pos ⟨hm, hrun⟩]
      exact congrArg some hz
    · rw [hm] at hd
      simp [hm]
    · simp [runningPgTimer]
    · have := Option.some.inj hz
      omega
  next => exact ok.setCount s.mbs.count s.mbs.bootCause s.mbs.token true ok.countOk

/-- R66, R74. A low sample of MAIN_PG. -/
theorem boardOk_pgLow (ok : BoardOk R D s) : BoardOk R D (pgLow s) := by
  have h1 : BoardOk R D (s.setMbs { s.mbs with mainPg := false }) :=
    ok.setCount s.mbs.count s.mbs.bootCause s.mbs.token false ok.countOk
  unfold pgLow
  dsimp only
  split
  · exact boardOk_restartDecision _ _ (boardOk_report _ _ h1)
  · split
    next h =>
      obtain ⟨hm, hrun⟩ := h
      obtain ⟨hrail, ⟨-, -, htimers⟩, hcount⟩ := ok.board
      refine ⟨⟨hrail, ⟨nofun, fun _ => hm, htimers⟩, hcount⟩, fun hR => ?_⟩
      obtain ⟨hT, ⟨hpow, hd⟩, he⟩ := ok.ticks hR
      obtain ⟨hshut, hpg, -, hrest⟩ := Mbs.expiredIn_iff.1 he
      refine ⟨hT, ⟨fun _ => ⟨.inl rfl, nofun⟩, by simp [hm]⟩, Mbs.expiredIn_iff.2 ⟨hshut, fun hz => ?_, nofun, hrest⟩⟩
      have hz : s.mbs.pgLeft = 0 := by simpa [runningPgTimer, hm] using hz
      cases hr : s.mbs.pgRunning with
      | true =>
        refine hpg ?_
        rw [runningPgTimer, if_pos ⟨hm, hr⟩]
        exact congrArg some hz
      | false => exact absurd ((hpow hm).2 hr) (by omega)
    next => exact h1

/-! Requests and table changes at the supervisor -/

/-- R82. A shutdown armed with a delay of a second or more. -/
theorem boardOk_armShutdown {n : Nat} (ok : BoardOk R D s) (hs : s.mbs.state.admits = true) (hn : 1 ≤ n) :
    BoardOk R D (armShutdown n s) := by
  obtain ⟨hrail, ⟨hreset, hpg, hboot, hbeat, hcycle, hlock, -, hrun⟩, hcount⟩ := ok.board
  refine ⟨⟨hrail, ⟨hreset, hpg, hboot, hbeat, hcycle, hlock, fun _ => admits_iff.1 hs, hrun⟩, hcount⟩, fun hR => ?_⟩
  obtain ⟨hT, hd, he⟩ := ok.ticks hR
  obtain ⟨-, hrest⟩ := Mbs.expiredIn_iff.1 he
  refine ⟨hT, hd, Mbs.expiredIn_iff.2 ⟨fun hz => ?_, hrest⟩⟩
  have : n * 100 = 0 := Option.some.inj hz
  omega

/-- R70. The stable time is reached in RUN and WARN alone. -/
theorem boardOk_stableReached (ok : BoardOk R D s) (hs : (stableLeft s.mbs).isSome = true) :
    BoardOk R D (stableReached s) := by
  obtain ⟨hrail, ⟨hreset, hpg, hboot, hbeat, hcycle, hlock, hshut, hrun, -⟩, -⟩ := ok.board
  have hticks : s.mbs.runTicks.isSome = true := by
    unfold stableLeft at hs
    split at hs
    next h => rw [h]; rfl
    next => exact absurd hs Bool.false_ne_true
  refine ⟨⟨hrail, ⟨hreset, hpg, hboot, hbeat, hcycle, hlock, hshut, hrun, nofun⟩, ?_⟩, fun hR => ?_⟩
  case refine_2 =>
    obtain ⟨hT, hd, he⟩ := ok.ticks hR
    exact ⟨hT, hd, Mbs.expiredIn_iff.2 (Mbs.expiredIn_iff (m := s.mbs).1 he)⟩
  have hne : s.mbs.state ≠ .lockout := by rcases hrun hticks with h | h <;> rw [h] <;> decide
  exact (if_neg hne).mpr (Nat.zero_le _)

/-- R63, R184. New tables, the count brought within the new policy. -/
theorem boardOk_noticePolicy (ok : BoardOk R D s) (hmbs : t.mbs = s.mbs) (hmode : t.tsu.mode = s.tsu.mode)
    (hT : R → t.tbs.tables.inRange) : BoardOk R D (noticePolicy t) := by
  obtain ⟨hrail, htimers, -⟩ := ok.board
  unfold noticePolicy
  dsimp only
  rw [hmbs]
  refine ⟨⟨?_, htimers, ?_⟩, fun hR => ?_⟩
  · rw [setMbs_mbs, setMbs_tsu, hmode]
    exact hrail
  · simp only [Mbs.countOk, setMbs_mbs, setMbs_tbs]
    split
    · rfl
    · exact Nat.min_le_right _ _
  · obtain ⟨-, hd, he⟩ := ok.ticks hR
    exact ⟨hT hR, hd, Mbs.expiredIn_iff.2 (Mbs.expiredIn_iff (m := s.mbs).1 he)⟩

/-! Time and expiries -/

/-- After some ticks exactly the timers that have run out stand expired. -/
theorem boardOk_elapse (n : Nat) (ok : BoardOk R D s)
    (hD : ∀ e ∈ boardExpiries, e.timer (elapse n s).mbs = some 0 → D' e.cmd) : BoardOk R D' (elapse n s) := by
  obtain ⟨hrail, htimers, hcount⟩ := ok.board
  have hm := elapse_mbs n s
  have hmode : (elapse n s).tsu.mode = s.tsu.mode := by simp
  obtain ⟨-, -, -, -, -, -, htbs, -⟩ := elapse_keeps n s
  refine ⟨⟨?_, ?_, ?_⟩, fun hR => ⟨?_, ?_, hD⟩⟩
  · rw [hm, hmode]
    exact hrail
  · rw [hm]
    simpa [Mbs.timersOk, Mbs.elapse] using htimers
  · rw [hm, htbs]
    exact hcount
  · rw [htbs]
    exact (ok.ticks hR).1
  · obtain ⟨hpow, hd⟩ := (ok.ticks hR).2.1
    rw [hm]
    refine ⟨fun h => ⟨?_, fun hr => ?_⟩, by simpa [Mbs.elapse] using hd⟩
    · simpa [Mbs.elapse] using (hpow h).1
    · have hr : s.mbs.pgRunning = false := hr
      simpa [Mbs.elapse, hr] using (hpow h).2 hr

/-- R71. The heartbeat timer's end in RUN: WARN, or F1 and a restart decision. -/
theorem heartbeatExpired_run (h : s.mbs.state = .run) : heartbeatExpired s =
    if s.tbs.tables.policy.warnEnable then enterWarn s else restartDecision .heartbeatMiss 0 (report 1 0 s) := by
  unfold heartbeatExpired
  rw [h]

/-- R72. The heartbeat timer's end in WARN. -/
theorem heartbeatExpired_warn (h : s.mbs.state = .warn) :
    heartbeatExpired s = restartDecision .heartbeatMiss 1 (report 1 1 s) := by
  unfold heartbeatExpired
  rw [h]

theorem boardOk_heartbeatExpired (ok : BoardOk R D s) (hs : s.mbs.state = .run ∨ s.mbs.state = .warn) :
    BoardOk R (fun c => c ≠ .heartbeatExpiry ∧ D c) (heartbeatExpired s) := by
  rcases hs with h | h
  · rw [heartbeatExpired_run h]
    split
    · exact boardOk_enterWarn ok h
    · exact boardOk_reported_restart _ _ _ _ ok (by rw [h]; rfl)
  · rw [heartbeatExpired_warn h]
    exact boardOk_reported_restart _ _ _ _ ok (by rw [h]; rfl)

theorem boardOk_shutdownExpired (ok : BoardOk R D s) (hs : s.mbs.state.railOn = true) :
    BoardOk R D' (shutdownExpired s) := by
  rw [shutdownExpired, if_pos hs]
  exact boardOk_depart_railOn _ _ _ (by decide) ok hs

/-- R66 to R84. The end of a supervisor timer that runs: its own timer no longer stands expired. -/
theorem boardOk_act {e : BoardExpiry} (he : e ∈ boardExpiries) (ok : BoardOk R D s)
    (hrun : (e.timer s.mbs).isSome = true) : BoardOk R (fun x => x ≠ e.cmd ∧ D x) (e.act s) := by
  obtain ⟨-, ⟨hreset, hpg, hboot, hbeat, hcycle, hlock, hshut, -⟩, -⟩ := ok.board
  simp only [boardExpiries, List.mem_cons, List.not_mem_nil, or_false] at he
  rcases he with rfl | rfl | rfl | rfl | rfl | rfl | rfl
  · exact boardOk_shutdownExpired ok (by rcases hshut hrun with h | h | h <;> rw [h] <;> rfl)
  · have hm : s.mbs.state = .powering := by
      by_contra h
      simp [runningPgTimer, h] at hrun
    exact boardOk_reported_restart _ _ _ _ ok (by rw [hm]; rfl)
  · exact boardOk_enterBoot ok (hreset hrun)
  · exact boardOk_reported_restart _ _ _ _ ok (by rw [hboot hrun]; rfl)
  · exact boardOk_heartbeatExpired ok (hbeat hrun)
  · exact boardOk_enterHeatHold false ok (by rw [hcycle hrun]; rfl) (by rw [hcycle hrun]; decide)
  · exact boardOk_wake _ _ ok (by rw [hlock hrun]; rfl)

/-- The timers of the list that have run out in `u`, but that of `c`: those whose expiry is still to act when `c`
has. -/
def expiredOf (l : List BoardExpiry) (c : Instr) (u : State) (x : Instr) : Prop :=
  ∃ e ∈ l, e.cmd = x ∧ x ≠ c ∧ e.timer u.mbs = some 0

/-- One command stands for the expiry of one timer. -/
theorem boardExpiries_cmd_inj {e f : BoardExpiry} (he : e ∈ boardExpiries) (hf : f ∈ boardExpiries)
    (h : e.cmd = f.cmd) : e = f := by
  have hnodup : (boardExpiries.map BoardExpiry.cmd).Nodup := by simp [boardExpiries]
  exact List.inj_on_of_nodup_map hnodup he hf h

/-- R85. What else is due at the tick of an expiry acts in the same command, and no expired timer is left standing. -/
theorem boardOk_settle (c : Instr) (u : State) (ok : BoardOk R (expiredOf boardExpiries c u) t) :
    BoardOk R (fun _ => False) (settle c u t) := by
  have hfold : ∀ l : List BoardExpiry, (∀ e ∈ l, e ∈ boardExpiries) → ∀ {t}, BoardOk R (expiredOf l c u) t →
      BoardOk R (expiredOf [] c u) (l.foldl (fun t e =>
        if e.cmd ≠ c ∧ e.timer u.mbs = some 0 ∧ e.timer t.mbs = some 0 then e.act t else t) t) := by
    intro l
    induction l with
    | nil => exact fun _ _ ht => ht
    | cons e l ih =>
      intro hl t ht
      rw [List.foldl_cons]
      refine ih (fun f hf => hl f (by simp [hf])) ?_
      split
      next h =>
        refine (boardOk_act (hl e (by simp)) ht (by rw [h.2.2]; rfl)).mono ?_
        rintro x ⟨hx, f, hf, hfx, hrest⟩
        obtain rfl | hf := List.mem_cons.1 hf
        · exact absurd hfx.symm hx
        · exact ⟨f, hf, hfx, hrest⟩
      next h =>
        refine ⟨ht.board, fun hR => ?_⟩
        obtain ⟨hT, hd, he⟩ := ht.ticks hR
        refine ⟨hT, hd, fun g hg hz => ?_⟩
        obtain ⟨f, hf, hfx, hc, hu⟩ := he g hg hz
        obtain rfl | hf := List.mem_cons.1 hf
        · refine absurd ⟨hfx ▸ hc, hu, ?_⟩ h
          rw [boardExpiries_cmd_inj (hl f (by simp)) hg hfx]
          exact hz
        · exact ⟨f, hf, hfx, hc, hu⟩
  refine (hfold _ (fun _ he => he) ok).mono ?_
  rintro _ ⟨_, h, -⟩
  exact absurd h List.not_mem_nil

/-- The expiry command of a supervisor timer. -/
theorem boardOk_expire_board {e : BoardExpiry} (he : e ∈ boardExpiries) (ok : BoardOk R (fun _ => False) s) :
    BoardOk R (fun _ => False) (expire e.cmd (e.timer s.mbs) e.act s) := by
  unfold expire
  split
  next n hn =>
    split
    · refine boardOk_settle _ _ ((boardOk_act he (boardOk_elapse (D' := fun x => ∃ f ∈ boardExpiries, f.cmd = x ∧
        f.timer (elapse n s).mbs = some 0) n ok fun f hf hz => ⟨f, hf, rfl, hz⟩) ?_).mono ?_)
      · rw [elapse_mbs, boardExpiries_elapse he, hn]
        rfl
      · rintro x ⟨hx, f, hf, hfx, hz⟩
        exact ⟨f, hf, hfx, hx, hz⟩
    · exact ok
  next => exact ok

/-- The command of any other event. -/
theorem boardOk_expire {c : Instr} (left : Option Nat) {act : State → State} (ok : BoardOk R (fun _ => False) s)
    (hc : ∀ e ∈ boardExpiries, e.cmd ≠ c)
    (hact : ∀ n {D}, left = some n → BoardOk R D (elapse n s) → BoardOk R D (act (elapse n s))) :
    BoardOk R (fun _ => False) (expire c left act s) := by
  unfold expire
  split
  next n =>
    split
    · exact boardOk_settle _ _ (hact n rfl (boardOk_elapse n ok fun f hf hz => ⟨f, hf, rfl, hc f hf, hz⟩))
    · exact ok
  next => exact ok

end

end Sys2Proof.Machine
end

section
/-! Every step keeps the supervisor consistent and leaves none of its timers expired (R61 to R85, R101). -/

namespace Sys2Proof.Machine

section
variable {R : Prop} {D : Instr → Prop} {s : State}

/-! Keys and chords -/

theorem boardOk_touchTransition (c : Fin 20) (ok : BoardOk R D s) : BoardOk R D (touchTransition c s) := by
  unfold touchTransition
  dsimp only
  split
  · have h1 : BoardOk R D (syncChords (updKey c (fun k => { k with down := true }) s)) :=
      ok.of_view (by simp [boardView])
    (repeat' split)
    · exact h1
    · exact boardOk_wakeKey c h1
    · exact h1
    · exact h1.of_view (by simp [boardView])
  · exact ok

theorem boardOk_handTransition (c : Fin 20) (t : KeyTransition) (ok : BoardOk R D s) :
    BoardOk R D (handTransition c t s) := by
  cases t with
  | none => exact ok
  | touch => exact boardOk_touchTransition c ok
  | release cause => exact ok.of_view (by simp [boardView, handTransition])

theorem boardOk_reportScan (before : Tsu) (stuck : List Nat) (ok : BoardOk R D s) :
    BoardOk R D (reportScan before stuck s) :=
  boardOk_conditionChanged _ (boardOk_conditionChanged _ (boardOk_reportAll _ _ (boardOk_reportAll _ _
    (boardOk_reportAll _ _ ok))))

theorem compareRefs_mode (t : Tsu) : t.compareRefs.mode = t.mode := by
  unfold Tsu.compareRefs
  dsimp only
  split <;> rfl

/-- R101. A scan leaves the scan mode. -/
theorem scanned_mode (raw : Vector (BitVec 16) 22) (s : State) : (scanned raw s).mode = s.tsu.mode := by
  simp only [scanned, scanPrepared, compareRefs_mode, Tsu.judged]

theorem boardOk_scanInstant (raw : Vector (BitVec 16) 22) (ok : BoardOk R D s) : BoardOk R D (scanInstant raw s) := by
  have hf : ∀ (l : List (Fin 20)) {u : State}, BoardOk R D u →
      BoardOk R D (l.foldl (fun acc c => handTransition c (scanKey raw s c).2 acc) u) := fun l => by
    induction l with
    | nil => exact fun hu => hu
    | cons c l ih => exact fun hu => ih (boardOk_handTransition c _ hu)
  have h := boardOk_reportScan s.tsu (stuckKeys raw s)
    (hf (List.finRange 20) (ok.of_view (t := s.setTsu (scanned raw s)) (by simp [boardView, scanned_mode])))
  exact h.of_view (by simp [boardView, scanInstant])

theorem boardOk_repeatFires (c : Fin 20) (ok : BoardOk R D s) : BoardOk R D (repeatFires c s) := by
  unfold repeatFires repeatKey
  dsimp only
  (repeat' split) <;> exact ok.of_view (by simp [boardView])

theorem boardOk_chordAction (i : Fin 8) (a : ChordAction) (ok : BoardOk R D s) : BoardOk R D (chordAction i a s) := by
  cases a with
  | restart | cycle => exact boardOk_requestedRestart _ _ _ (by decide) ok
  | powerOff => exact boardOk_powerOffChord i ok
  | powerOn => exact boardOk_powerOnChord i ok
  | heatOverride =>
    show BoardOk R D (overrideHeat s)
    unfold overrideHeat
    split
    · exact ok.of_view rfl
    · exact ok
  | report => exact ok

theorem boardOk_fireUpTo (i : Fin 8) (ok : BoardOk R D s) : BoardOk R D (fireUpTo i s) := by
  unfold fireUpTo
  generalize (List.finRange 8).filter (· ≤ i) = l
  induction l generalizing s with
  | nil => exact ok
  | cons j l ih =>
    refine ih ?_
    unfold fireIfDue
    split
    · exact boardOk_chordAction j _ (ok.of_view (by simp [boardView, markFired]))
    · exact ok

/-! Conversions, the filter window, periods and the fan -/

theorem boardOk_reportFilter (l : Option Nat) (ok : BoardOk R D s) : BoardOk R D (reportFilter l s) := by
  cases l with
  | none => exact ok
  | some d => exact boardOk_report _ _ ok

theorem boardOk_filterEnd (ok : BoardOk R D s) : BoardOk R D (filterEnd s) :=
  boardOk_reportFilter _ (ok.of_view rfl)

theorem boardOk_countFilterSet (ok : BoardOk R D s) : BoardOk R D (countFilterSet s) := by
  unfold countFilterSet
  split
  · exact ok
  · dsimp only
    split
    · exact boardOk_reportFilter _ (ok.of_view rfl)
    · exact ok.of_view rfl

theorem boardOk_secondBoundary (ok : BoardOk R D s) : BoardOk R D (secondBoundary s) := by
  have hview : ∀ u, boardView (recomputeFan (measureSpeed (zoneComputation u))) = boardView u := fun u => by
    simp [boardView, measureSpeed, zoneComputation, handDemands, computeTimers, computeCutOuts]
  have h : BoardOk R D (recomputeFan (measureSpeed (zoneComputation
      (s.setTmu (s.tmu.boundary (validPoints s.tbs.tables.curve)))))) := ok.of_view (hview _)
  have hc := boardOk_conditionChanged 8 (boardOk_reportAll 8
    (cutOutEntries (s.setTmu (s.tmu.boundary (validPoints s.tbs.tables.curve)))) (boardOk_countFilterSet h))
  exact boardOk_judgeRelease (hc.of_view rfl)

theorem boardOk_conversionInstant (codes : Vector (BitVec 12) 4) (ok : BoardOk R D s) :
    BoardOk R D (conversionInstant codes s) := by
  have h := boardOk_conditionChanged 5 (boardOk_reportAll 5 (newlyFailed s.tmu (s.tmu.convert codes))
    (ok.of_view (t := s.setTmu (s.tmu.convert codes)) rfl))
  unfold conversionInstant
  dsimp only
  split
  · exact boardOk_secondBoundary h
  · exact h

theorem boardOk_openPeriods (ok : BoardOk R D s) : BoardOk R D (openPeriods s) := ok.of_view rfl

theorem boardOk_closePeriods (peaks : Fin 3 → Nat) (ok : BoardOk R D s) : BoardOk R D (closePeriods peaks s) :=
  boardOk_conditionChanged _ (boardOk_conditionChanged _ (boardOk_reportAll _ _ (ok.of_view (by simp [boardView]))))

theorem boardOk_onTimeEnd (i : Fin 3) (ok : BoardOk R D s) : BoardOk R D (onTimeEnd i s) := by
  unfold onTimeEnd
  dsimp only
  split
  · exact ok.of_view rfl
  · exact ok

theorem boardOk_heaterTrip (i : Fin 3) (current : Nat) (ok : BoardOk R D s) : BoardOk R D (heaterTrip i current s) := by
  unfold heaterTrip actOnTrip
  dsimp only
  (repeat' split)
  · exact (boardOk_report 6 i.val (ok.of_view (t := noteTrip i s) rfl)).of_view (by simp [boardView])
  · exact (boardOk_report 6 i.val (ok.of_view (t := noteTrip i s) rfl)).of_view rfl
  · exact ok

theorem boardOk_tachPulse (ok : BoardOk R D s) : BoardOk R D (tachPulse s) := by
  unfold tachPulse
  dsimp only
  (repeat' split)
  · exact ok.of_view rfl
  · exact boardOk_conditionChanged 9 (ok.of_view rfl)
  · exact ok.of_view rfl

theorem boardOk_stallFan (ok : BoardOk R D s) : BoardOk R D (stallFan s) := boardOk_report 9 0 (ok.of_view rfl)

/-! Table changes -/

theorem boardOk_touchTablesChanged (ok : BoardOk R D s) : BoardOk R D (touchTablesChanged s) :=
  boardOk_conditionChanged 11 (ok.of_view (t := rescan s.tsu.mode s) (by simp [boardView, rescan_tsu]))

theorem boardOk_noticeKeymap (old : Tables) (l : List (Fin 20)) (ok : BoardOk R D s) :
    BoardOk R D (noticeKeymap old l s) := by
  have hk : ∀ (c : Fin 20) {u : State}, BoardOk R D u → BoardOk R D (keymapChanged old c u) := fun c u hu => by
    unfold keymapChanged
    dsimp only
    (repeat' split) <;> exact hu.of_view (by simp [boardView, unmapKey, mapKey, remapKey])
  refine boardOk_touchTablesChanged ?_
  induction l generalizing s with
  | nil => exact ok
  | cons c l ih => exact ih (hk c ok)

theorem boardOk_noticeHeat (named : List (Fin 3)) (ok : BoardOk R D s) : BoardOk R D (noticeHeat named s) :=
  boardOk_conditionChanged 8 (boardOk_reportAll 8 _ (ok.of_view (by simp [boardView, zonesChanged])))

/-- R181. A change notice, of T5 with whatever policy, of another table where the policy stands. -/
theorem boardOk_changeTables (t : Fin 7) (T : Tables) (named : List Nat) (ok : BoardOk R D s)
    (hp : t.val ≠ 5 ∨ named = [] → T.policy = s.tbs.tables.policy) (hT : R → T.inRange) :
    BoardOk R D (changeTables t T named s) := by
  have hw : t.val ≠ 5 ∨ named = [] →
      BoardOk R D (s.setTbs { s.tbs with tables := T, changed := s.tbs.changed.set t true }) := fun h => by
    obtain ⟨hrail, htimers, hcount⟩ := ok.board
    refine ⟨⟨hrail, htimers, ?_⟩, fun hR => ⟨hT hR, (ok.ticks hR).2⟩⟩
    change s.mbs.countOk T.policy
    rw [hp h]
    exact hcount
  unfold changeTables notice
  split
  next hn => exact hw (.inr (List.isEmpty_iff.1 hn))
  next =>
    split
    case h_1 ht => exact boardOk_noticeKeymap _ _ (hw (.inl (by omega)))
    case h_2 ht => exact boardOk_touchTablesChanged ((hw (.inl (by omega))).of_view rfl)
    case h_3 ht => exact boardOk_noticeHeat _ (hw (.inl (by omega)))
    case h_4 ht => exact (hw (.inl (by omega))).of_view rfl
    case h_5 ht => exact boardOk_conditionChanged 5 (boardOk_reportAll 5 _ ((hw (.inl (by omega))).of_view rfl))
    case h_6 ht => exact boardOk_noticePolicy ok rfl rfl hT
    case h_7 ht => exact boardOk_rejudgeRelease ((hw (.inl (by omega))).of_view rfl)
    case h_8 h0 h1 h2 h3 h4 h5 h6 => exact hw (.inl h5)

/-- R184. A TABLE WRITE of another table than T5 leaves the policy. -/
theorem writtenTables_policy {old T : Tables} {t first count : Nat} {bs : List Byte}
    (h : writtenTables old t first count bs = some T) (ht : t ≠ 5) : T.policy = old.policy := by
  obtain ⟨⟨-, -, -, -, -, -, ⟨-, hp⟩, -⟩, -⟩ := (writtenTables_eq_some_iff old T t first count bs).1 h
  exact hp fun hn => ht hn.1

/-- R185. A TABLE INVALIDATE leaves the policy, which has no valid flag. -/
theorem invalidatedTables_policy (T : Tables) (t first extra : Nat) :
    (invalidatedTables T t first extra).policy = T.policy := by
  unfold invalidatedTables
  generalize invalidatedIndexes t first extra = l
  induction l generalizing T with
  | nil => rfl
  | cons i l ih =>
    rw [List.foldl_cons, ih]
    unfold clearValid
    (repeat' split) <;> rfl

/-! Requests -/

theorem boardOk_reply (kind tag : Byte) (st : Status) (items : List Byte) (ok : BoardOk R D s) :
    BoardOk R D (reply kind tag st items s) := ok.of_view (by simp [boardView])

theorem boardOk_refuse (kind tag : Byte) (ok : BoardOk R D s) (st : Status) : BoardOk R D (refuse kind tag st s) :=
  boardOk_reply _ _ _ _ ok

theorem boardOk_serveTableWrite (tag : Byte) (p : List Byte) (ok : BoardOk R D s) :
    BoardOk R D (serveTableWrite tag p s) := by
  unfold serveTableWrite writeTable writeUnlocked
  (repeat' split) <;> try exact boardOk_refuse _ _ ok _
  next first count entries _ _ _ T hT =>
    refine boardOk_changeTables _ _ _ (boardOk_reply _ _ _ _ ok) (fun h => ?_) fun hR =>
      writtenTables_inRange (ok.ticks hR).1 hT
    simp only [reply_keeps]
    refine writtenTables_policy hT (h.resolve_right fun hn => ?_)
    obtain ⟨-, -, hc, -⟩ := (writtenTables_eq_some_iff _ _ _ _ _ _).1 hT
    simp at hn
    omega

theorem boardOk_serveTableInvalidate (tag : Byte) (p : List Byte) (ok : BoardOk R D s) :
    BoardOk R D (serveTableInvalidate tag p s) := by
  refine withThreeBytes_induction (BoardOk R D) (boardOk_refuse _ _ ok) fun t first extra => ?_
  unfold invalidateTable
  (repeat' split) <;> try exact boardOk_refuse _ _ ok _
  refine checkedRequest_induction (BoardOk R D) (boardOk_refuse _ _ ok)
    (boardOk_changeTables _ _ _ (boardOk_reply _ _ _ _ ok) (fun _ => ?_) fun hR =>
      invalidatedTables_inRange (ok.ticks hR).1 _ _ _)
  simp only [reply_keeps]
  exact invalidatedTables_policy _ _ _ _

theorem boardOk_serveHeartbeat (tag : Byte) (p : List Byte) (ok : BoardOk R D s) :
    BoardOk R D (serveHeartbeat tag p s) := by
  refine withOneByte_induction (BoardOk R D) (boardOk_refuse _ _ ok) fun a => ?_
  unfold heartbeatToken
  dsimp only
  split
  next h =>
    split
    · exact boardOk_reply _ _ _ _ ok
    · exact boardOk_acceptHeartbeat _ (boardOk_reply _ _ _ _ ok) (by simpa using h)
  next => exact boardOk_refuse _ _ ok _

theorem boardOk_servePowerRequest (tag : Byte) (p : List Byte) (ok : BoardOk R D s) :
    BoardOk R D (servePowerRequest tag p s) := by
  refine withTwoBytes_induction (BoardOk R D) (boardOk_refuse _ _ ok) fun a b => ?_
  have hr : BoardOk R D (reply 0x20 tag .ok [] s) := boardOk_reply _ _ _ _ ok
  unfold powerChecks
  rw [checkedRequest_two]
  (repeat' split) <;> try exact boardOk_refuse _ _ ok _
  next harg hstate =>
    unfold powerAction
    split
    · exact boardOk_requestedRestart _ _ _ (by decide) hr
    · exact boardOk_requestedRestart _ _ _ (by decide) hr
    next h0 h1 =>
      have hb : a = 2 → 1 ≤ b := by
        rintro rfl
        simpa using harg
      have ha : a ≤ 2 := by simp_all
      have h0 : a ≠ 0 := h0
      have h1 : a ≠ 1 := h1
      refine boardOk_armShutdown hr (by simpa using hstate) ?_
      exact hb (by omega)

/-- R164. -/
theorem boardOk_clearFaults (kind : Nat) (ok : BoardOk R D s) : BoardOk R D (clearFaults kind s) := by
  have h := boardOk_rejudgeRelease (ok.of_view (t := clearRecords kind s) rfl)
  unfold clearFaults
  dsimp only
  split
  · exact h.of_view (by rw [releaseHeaters_eq]; rfl)
  · exact h

theorem boardOk_serveFaultClear (tag : Byte) (p : List Byte) (ok : BoardOk R D s) :
    BoardOk R D (serveFaultClear tag p s) :=
  withOneByte_induction (BoardOk R D) (boardOk_refuse _ _ ok) fun _ =>
    checkedRequest_induction (BoardOk R D) (boardOk_refuse _ _ ok)
      (boardOk_clearFaults _ (boardOk_reply _ _ _ _ ok))

/-- R173. A request of whatever KIND. -/
theorem boardOk_serveKind (kind tag : Byte) (p : List Byte) (ok : BoardOk R D s) :
    BoardOk R D (serveKind kind tag p s) := by
  have hr := fun kind items => boardOk_reply kind tag .ok items ok
  have hn := fun kind => boardOk_refuse kind tag ok
  unfold serveKind
  split
  case h_1 => exact withNoPayload_induction (BoardOk R D) (hn _) (hr _ _)
  case h_2 => exact boardOk_serveHeartbeat tag p ok
  case h_3 => exact withOneByte_induction (BoardOk R D) (hn _) fun _ =>
    checkedRequest_induction (BoardOk R D) (hn _) (hr _ _)
  case h_4 => exact withThreeBytes_induction (BoardOk R D) (hn _) fun _ _ _ =>
    checkedRequest_induction (BoardOk R D) (hn _) (hr _ _)
  case h_5 => exact boardOk_serveTableWrite tag p ok
  case h_6 => exact boardOk_serveTableInvalidate tag p ok
  case h_7 => exact withTwoBytes_induction (BoardOk R D) (hn _) fun _ _ =>
    checkedRequest_induction (BoardOk R D) (hn _) ((hr _ _).of_view rfl)
  case h_8 =>
    refine withNoPayload_induction (BoardOk R D) (hn _) ?_
    unfold saveStore
    split
    · exact hn _ _
    · exact (hr _ _).of_view rfl
  case h_9 => exact boardOk_servePowerRequest tag p ok
  case h_10 =>
    refine withTwoBytes_induction (BoardOk R D) (hn _) fun _ _ => checkedRequest_induction (BoardOk R D) (hn _) ?_
    unfold readDepth
    (repeat' split) <;> exact boardOk_reply _ _ _ _ ok
  case h_11 => exact checkedRequest_induction (BoardOk R D) (hn _) ((hr _ _).of_view rfl)
  case h_12 => exact withNoPayload_induction (BoardOk R D) (hn _) ((hr _ _).of_view rfl)
  case h_13 =>
    refine withThreeBytes_induction (BoardOk R D) (hn _) fun _ _ _ => ?_
    unfold panelLevel
    split
    · exact checkedRequest_induction (BoardOk R D) (hn _) (boardOk_reply _ _ _ _ (ok.of_view rfl))
    · exact hn _ _
  case h_14 =>
    refine withOneByte_induction (BoardOk R D) (hn _) fun _ => ?_
    unfold readFault
    split
    · exact hr _ _
    · exact hn _ _
  case h_15 => exact boardOk_serveFaultClear tag p ok
  case h_16 => exact withOneByte_induction (BoardOk R D) (hn _) fun _ =>
    checkedRequest_induction (BoardOk R D) (hn _) (hr _ _)
  case h_17 => exact hn _ _

/-! The link and the store -/

theorem boardOk_saveCompletion (verified : Bool) (ok : BoardOk R D s) : BoardOk R D (saveCompletion verified s) := by
  unfold saveCompletion
  (repeat' split)
  · exact ok.of_view (by simp [boardView, saveMatched, offerStore])
  · exact (boardOk_report 14 1 (ok.of_view (t := s.setTbs { s.tbs with
      store := .idle, result := .failed, changed := tab fun _ => true, image := .rejected }) rfl)).of_view
      (by simp [boardView, saveMismatched, offerStore])
  · exact ok

theorem boardOk_takeRequest {serve : State → State} (hs : ∀ {u}, BoardOk R D u → BoardOk R D (serve u))
    (ok : BoardOk R D s) : BoardOk R D (takeRequest serve s) := by
  have hr : BoardOk R D (rxTaken s) := ok.of_view rfl
  unfold takeRequest
  split
  · exact boardOk_report 0 4 hr
  · exact hs hr

theorem boardOk_enterResync (d : Nat) (ok : BoardOk R D s) : BoardOk R D (enterResync d s) :=
  boardOk_report 0 d (ok.of_view rfl)

theorem boardOk_goodChar (b : Byte) (ok : BoardOk R D s) : BoardOk R D (goodChar b s) := by
  have hc : ∀ {u}, BoardOk R D u → BoardOk R D (checkFrame u) := fun hu => by
    unfold checkFrame
    split
    · split
      · exact boardOk_takeRequest (boardOk_serveKind _ _ _) hu
      · exact hu
    · exact boardOk_enterResync 3 hu
  have hb : BoardOk R D (lineBusy s) := ok.of_view rfl
  unfold goodChar
  dsimp only
  split
  · unfold takeHunt
    split
    · exact hb.of_view rfl
    · exact hb
  · unfold takeLength
    split
    · exact hb.of_view rfl
    · exact boardOk_enterResync 0 hb
  · unfold takeBody
    dsimp only
    split
    · exact hc (hb.of_view rfl)
    · exact hb.of_view rfl
  · exact hb
  · exact hb

/-! Power -/

/-- R60, R86. At power-on the main board is off and no timer runs. -/
theorem boardOk_atPowerOn (rate : Bool) (T : Tables) (load : LoadResult) (image : Image) (pending : List Instr)
    (hT : R → T.inRange) : BoardOk R D (State.atPowerOn rate T load image pending) := by
  refine ⟨⟨⟨rfl, rfl, rfl⟩, ?_, Nat.zero_le _⟩, fun hR => ⟨hT hR, ?_, Mbs.expiredIn_iff.2 ?_⟩⟩
  · simp [Mbs.timersOk, State.atPowerOn, Mbs.powerOn]
  · simp [Mbs.decided, State.atPowerOn, Mbs.powerOn]
  · simp [State.atPowerOn, Mbs.powerOn, runningPgTimer]

theorem boardOk_powerOn (rate : Bool) {image : Image} (pending : List Instr) (h : R → image.ok) :
    BoardOk R D (powerOn rate image pending) := by
  unfold powerOn
  dsimp only
  split
  next T hT =>
    have h0 : BoardOk R D (State.atPowerOn rate T .retained image pending) :=
      boardOk_atPowerOn _ _ _ _ _ fun hR => (h hR).load_inRange hT
    split
    · exact boardOk_recordOccurrence _ _ h0
    · exact h0
  next =>
    have h0 : BoardOk R D (recordOccurrence 14 0 (State.atPowerOn rate defaultTables .defaults image pending)) :=
      boardOk_recordOccurrence _ _ (boardOk_atPowerOn _ _ _ _ _ fun _ => builtInTables_inRange)
    split
    · exact boardOk_recordOccurrence _ _ h0
    · exact h0

/-! Commands -/

theorem stableLeft_elapse (n : Nat) (m : Mbs) : stableLeft (m.elapse n) = (stableLeft m).map (· - n) := by
  cases hs : m.stable <;> cases hr : m.runTicks <;> simp [stableLeft, Mbs.elapse, hs, hr, Nat.sub_sub]

/-- A command of none of the supervisor's expiries. -/
theorem boardExpiry_cmd_ne {c : Instr} (h : c ∉ [Instr.pendingShutdownExpiry, .pgTimeout, .resetPulseExpiry,
    .bootTimeout, .heartbeatExpiry, .cycleTimerExpiry, .lockoutRetryExpiry]) : ∀ e ∈ boardExpiries, e.cmd ≠ c :=
  fun _ he hc => h (hc ▸ List.mem_map_of_mem (f := BoardExpiry.cmd) he)

theorem boardOk_commandEffect (c : Instr) (ok : BoardOk R (fun _ => False) s) :
    BoardOk R (fun _ => False) (commandEffect c s) := by
  have hboard := fun {e : BoardExpiry} (he : e ∈ boardExpiries) => boardOk_expire_board he ok
  have hrequest : ∀ kind tag p, BoardOk R (fun _ => False) (takeRequest (serveKind kind tag p) s) := fun kind tag p =>
    boardOk_takeRequest (boardOk_serveKind kind tag p) ok
  cases c with
  | partPowerOn | partPowerOff => exact ok
  | conversionInstant => exact boardOk_conversionInstant _ ok
  | suspectTimerExpiry i =>
    rw [commandEffect, suspectExpiry]
    split
    · exact boardOk_conversionInstant _ ok
    · exact ok
  | filterWindowEnd => exact boardOk_filterEnd ok
  | periodStart => exact boardOk_openPeriods (boardOk_closePeriods _ ok)
  | heaterTrip => exact boardOk_heaterTrip _ _ ok
  | heaterOnTimeEnd => exact boardOk_onTimeEnd _ ok
  | fanTachPulse => exact boardOk_tachPulse ok
  | stallTimerExpiry => exact boardOk_expire _ ok (boardExpiry_cmd_ne (by simp)) fun _ _ _ => boardOk_stallFan
  | mainPgHigh => exact boardOk_pgHigh ok id
  | powerGoodLoss => exact boardOk_pgLow ok
  | pendingShutdownExpiry => exact hboard (.head _)
  | pgTimeout => exact hboard (.tail _ (.head _))
  | resetPulseExpiry => exact hboard (.tail _ (.tail _ (.head _)))
  | bootTimeout => exact hboard (.tail _ (.tail _ (.tail _ (.head _))))
  | heartbeatExpiry => exact hboard (.tail _ (.tail _ (.tail _ (.tail _ (.head _)))))
  | cycleTimerExpiry => exact hboard (.tail _ (.tail _ (.tail _ (.tail _ (.tail _ (.head _))))))
  | lockoutRetryExpiry => exact hboard (.tail _ (.tail _ (.tail _ (.tail _ (.tail _ (.tail _ (.head _)))))))
  | stableTimeReached =>
    exact boardOk_expire _ ok (boardExpiry_cmd_ne (by simp)) fun n _ hn hu => boardOk_stableReached hu (by
      rw [elapse_mbs, stableLeft_elapse, hn]
      rfl)
  | scan raw =>
    rw [commandEffect]
    dsimp only
    split
    · exact boardOk_scanInstant raw ok
    · exact ok
  | stuckTimerExpiry =>
    exact boardOk_expire _ ok (boardExpiry_cmd_ne (by simp)) fun _ _ _ => boardOk_scanInstant _
  | repeatDue => exact boardOk_expire _ ok (boardExpiry_cmd_ne (by simp)) fun _ _ _ => boardOk_repeatFires _
  | chordFire => exact boardOk_expire _ ok (boardExpiry_cmd_ne (by simp)) fun _ _ _ => boardOk_fireUpTo _
  | ident tag p => exact hrequest 0x01 tag p
  | heartbeat tag p => exact hrequest 0x02 tag p
  | statusRead tag p => exact hrequest 0x03 tag p
  | tableRead tag p => exact hrequest 0x10 tag p
  | tableWrite tag p => exact hrequest 0x11 tag p
  | tableInvalidate tag p => exact hrequest 0x12 tag p
  | tableLock tag p => exact hrequest 0x13 tag p
  | storeSave tag p => exact hrequest 0x14 tag p
  | powerRequest tag p => exact hrequest 0x20 tag p
  | historyRead tag p => exact hrequest 0x30 tag p
  | historyMark tag p => exact hrequest 0x31 tag p
  | historyClear tag p => exact hrequest 0x32 tag p
  | panelSet tag p => exact hrequest 0x40 tag p
  | faultRead tag p => exact hrequest 0x50 tag p
  | faultClear tag p => exact hrequest 0x51 tag p
  | touchRead tag p => exact hrequest 0x60 tag p
  | unknownKind kind tag =>
    rw [commandEffect]
    split
    · exact ok
    · exact boardOk_takeRequest (fun hu => boardOk_refuse _ _ hu _) ok
  | badLengthByte len =>
    rw [commandEffect, badLength]
    split
    · exact boardOk_enterResync 0 (ok.of_view rfl)
    · exact ok
  | badCharacter =>
    rw [commandEffect, badChar]
    split
    · exact boardOk_enterResync 2 (ok.of_view rfl)
    · exact ok.of_view rfl
  | gapTimeout =>
    rw [commandEffect, gapExpired]
    split
    · exact boardOk_enterResync 1 (ok.of_view rfl)
    · exact ok
  | crcMismatch => exact boardOk_enterResync 3 (ok.of_view rfl)
  | resyncIdle =>
    rw [commandEffect, idleLine]
    split
    · exact ok.of_view rfl
    · exact ok
  | overrun =>
    rw [commandEffect, overrun]
    split
    · exact boardOk_report 0 4 (ok.of_view rfl)
    · exact ok
  | txFrameEnd =>
    rw [commandEffect, txEnd]
    split
    · exact ok
    · exact ok.of_view (by simp [boardView])
    · exact ok.of_view (by simp [boardView])
  | saveCompletion verified => exact boardOk_saveCompletion verified ok
  | goodCharacter b => exact boardOk_goodChar b ok

theorem boardOk_exec (c : Instr) {t : State} (ok : BoardOk R (fun _ => False) s) (hT : R → TablesOk s)
    (ht : exec c s = .next t) : BoardOk R (fun _ => False) t := by
  by_cases hon : ∃ r, c = .partPowerOn r
  · obtain ⟨rate, rfl⟩ := hon
    cases ht
    exact (boardOk_powerOn rate s.pending fun hR => (hT hR).imageAfterLoss_ok).of_view (by simp [boardView])
  by_cases hoff : c = .partPowerOff
  · subst hoff
    cases ht
    split
    · exact (boardOk_atPowerOn false defaultTables .defaults (imageAfterLoss s.tbs) s.pending
        fun _ => builtInTables_inRange).of_view rfl
    · exact ok
  rw [exec_eq_effect c s (fun r hr => hon ⟨r, hr⟩) hoff, whenPowered] at ht
  split at ht <;> cases ht
  · exact (boardOk_commandEffect c ok).of_view (by simp [boardView])
  · exact ok

/-- Where no command is next, none of the part's own events falls due within a tick. -/
theorem not_due_of_nextDue (h : nextDue s = none) : ∀ e ∈ ownEvents s, dueWithin 1 e = false := by
  unfold nextDue at h
  split at h
  next => exact absurd h (Option.some_ne_none _)
  next =>
    rw [Option.map_eq_none_iff, List.find?_eq_none] at h
    exact fun e he => Bool.not_eq_true _ ▸ h e he

/-- While no command waits a tick passes only where none of the part's own events falls due within it. -/
theorem boardOk_idle_step (ok : BoardOk R (fun _ => False) s) : BoardOk R (fun _ => False) (Machine.idle s) := by
  unfold Machine.idle
  (repeat' split)
  · exact ok.of_view rfl
  next hdue =>
    refine boardOk_elapse 1 ok fun e he => boardTimers_elapse (fun e he => ?_) e he
    exact not_due_of_nextDue hdue _ (board_mem_ownEvents s he)
  · exact ok

/-- A step runs the front command, or idles. -/
theorem boardOk_step {t : State} (ok : BoardOk R (fun _ => False) s) (hT : R → TablesOk s) (ht : step s = .next t) :
    BoardOk R (fun _ => False) t := by
  unfold step at ht
  split at ht
  next c rest _ => exact boardOk_exec c (ok.of_view (t := { s with pending := rest }) rfl) hT ht
  next =>
    cases ht
    exact boardOk_idle_step ok

end

/-! STATUS READ's times -/

/-- R85. In a supervisor without expired timers the time left of a state is 0 exactly where no timer decides it. -/
theorem decidingTimer_eq_zero_iff {m : Mbs} (h : m.runsOn) : decidingTimer m = 0 ↔
    m.state = .off ∨ m.state = .heatHold ∨ (m.state = .lockout ∧ m.lockoutTimer = none) := by
  obtain ⟨hz, hpow, hboot, hrun, hreset, hcycle⟩ := h
  obtain ⟨-, -, hzr, hzb, hzh, hzc, hzl⟩ := boardTimers_iff.1 hz
  have hpos : ∀ {t : Option Nat}, t.isSome = true → t ≠ some 0 → t.getD 0 ≠ 0 := by
    rintro (_ | n) ht hn
    · exact absurd ht Bool.false_ne_true
    · exact fun h => hn (congrArg some h)
  unfold decidingTimer
  cases hm : m.state with
  | off | heatHold => simp
  | powering =>
    have hleft := (hpow hm).1
    cases ht : m.resetTimer with
    | none => simpa using hleft.ne'
    | some n => simpa using fun h => hzr (ht.trans (congrArg some h))
  | boot => simpa using hpos (hboot hm) hzb
  | run => simpa using hpos (hrun (.inl hm)) hzh
  | warn => simpa using hpos (hrun (.inr hm)) hzh
  | resetting => simpa using hpos (hreset hm) hzr
  | cycling => simpa using hpos (hcycle hm) hzc
  | lockout =>
    cases hl : m.lockoutTimer with
    | none => simp
    | some n => simpa using fun h => hzl (hl.trans (congrArg some h))

/-- R82, R85. So is the time left of a pending shutdown where none is pending. -/
theorem shutdownSeconds_eq_zero_iff {m : Mbs} (h : m.runsOn) : shutdownSeconds m = 0 ↔ m.shutdown = none := by
  have hz := (boardTimers_iff.1 h.1).1
  unfold shutdownSeconds
  cases hs : m.shutdown with
  | none => simp
  | some n =>
    rw [hs] at hz
    have hn : n ≠ 0 := fun h => hz (congrArg some h)
    simp
    omega

/-- Settles O7: by the supervisor's invariant over the commands, of whatever tables. -/
theorem everyStepKeepsTheSupervisorConsistent : Obligations.EveryStepKeepsTheSupervisorConsistent := fun _ _ hs ht =>
  (boardOk_step (R := False) ⟨hs, False.elim⟩ False.elim ht).board

/-- Settles O8: by the same walk with the clock, under tables in range. -/
theorem everyStepLeavesNoTimerExpired : Obligations.EveryStepLeavesNoTimerExpired := by
  refine ⟨fun s t hs hT hr ht => ?_, fun m hr => ⟨decidingTimer_eq_zero_iff hr, shutdownSeconds_eq_zero_iff hr⟩⟩
  have ok := boardOk_step (R := True) ⟨hs, fun _ => ⟨hT.1, Mbs.runsOn_iff.1 hr⟩⟩ (fun _ => hT) ht
  exact Mbs.runsOn_iff.2 (ok.ticks trivial).2

end Sys2Proof.Machine
end

section
/-! The supervisor's samples and expiries as commands (R66 to R72, R74, R78, R79, R82), and the model's own clock (log
entry 1). -/

namespace Sys2Proof.Machine

/-! The commands of the supervisor's timers -/

section
variable {n : Nat} {s : State} {e : BoardExpiry}

theorem exec_boardExpiry (he : e ∈ boardExpiries) (hp : s.powered = true) :
    exec e.cmd s = .next (drivePins (expire e.cmd (e.timer s.mbs) e.act s)) := by
  simp only [boardExpiries, List.mem_cons, List.not_mem_nil, or_false] at he
  rcases he with rfl | rfl | rfl | rfl | rfl | rfl | rfl <;> exact whenPowered_on s _ hp

/-- An expiry that alone falls due acts once its ticks have passed. -/
theorem exec_boardExpiry_alone (he : e ∈ boardExpiries) (hp : s.powered = true) (hn : e.timer s.mbs = some n)
    (hd : onlyDue e.cmd n s = true) : exec e.cmd s = .next (drivePins (e.act (elapse n s))) := by
  have hown : ∀ f ∈ ownEvents s, f.1 = e.cmd → f.2 = some n := fun f hf hc => by
    rw [← hn]
    obtain ⟨hshut, hpg, hreset, hboot, hbeat, hcycle, hlock, -⟩ := ownEvents_left s f hf
    simp only [boardExpiries, List.mem_cons, List.not_mem_nil, or_false] at he
    rcases he with rfl | rfl | rfl | rfl | rfl | rfl | rfl
    exacts [hshut hc, hpg hc, hreset hc, hboot hc, hbeat hc, hcycle hc, hlock hc]
  rw [exec_boardExpiry he hp, hn, expire_alone _ _ _ _ hd hown]

end

/-! A restart that its source reports first -/

/-- R75, R78, R91, R92, R155. An occurrence that restarts nothing by itself, and the restart decision of its source.
What the report has moved, and the level of MAIN_PG, do not show in how the departure follows. -/
theorem restartedBy_reported {k : FaultKind} {s : State} (cause : Cause) (d n : Nat) (level : Bool) (hk : k ≠ 15)
    (hr : (reactionInForce s.tbs.tables k).restart = false) (hs : s.mbs.state.takesRestart = true) :
    let t := drivePins (restartDecision cause n (report k d (s.setMbs { s.mbs with mainPg := level })))
    t.tick = s.tick ∧ RestartedBy s t cause n ∧ Counted s t k d := by
  have hmoved : RecordsMoved (s.setMbs { s.mbs with mainPg := level })
      (report k d (s.setMbs { s.mbs with mainPg := level })) := recordsMoved_report (by exact hr) d
  have hrecord := report_record_same hk d (s.setMbs { s.mbs with mainPg := level })
  dsimp only
  generalize report k d (s.setMbs { s.mbs with mainPg := level }) = u at *
  have htakes : u.mbs.state.takesRestart = true := by rw [hmoved.mbs]; exact hs
  have hrestart := ((aRestartDecisionClimbsTheLadder cause n u).1 (takesRestart_iff.1 htakes)).1
  have hkept := restartDecision_record_ne hk cause n u
  have htick : (restartDecision cause n u).tick = s.tick := (restartDecision_keeps cause n u).2.1.trans hmoved.tick
  generalize restartDecision cause n u = t at *
  refine ⟨htick, ?_, .of_occur htick (hkept.trans hrecord)⟩
  unfold RecordsMoved at hmoved
  generalize u.fcl = f, u.keq.queue = q, u.slp.tx = x at hmoved
  subst hmoved
  exact hrestart

theorem pgLow_tick (s : State) : (pgLow s).tick = s.tick := by
  unfold pgLow
  dsimp only
  (repeat' split) <;> simp

/-- Settles O33: by the two samples in the states that judge them. -/
theorem mainPgSamplesAreJudgedByState : Obligations.MainPgSamplesAreJudgedByState := by
  refine ⟨fun s hp => ⟨_, whenPowered_on s _ hp, fun hm hrun => ?_, fun h => ?_⟩,
    fun s hp hr => ⟨_, whenPowered_on s _ hp, ?_⟩⟩
  · exact drivePins_of_eq (if_pos ⟨hm, hrun⟩)
  · exact drivePins_of_eq (if_neg fun ⟨hm, hrun⟩ => h.elim (· hm) fun h =>
      absurd (h.symm.trans hrun) Bool.false_ne_true)
  · have hlost : ∀ d, pgLossDetail s.mbs.state = some d →
        pgLow s = restartDecision .pgLost d (report 4 d (s.setMbs { s.mbs with mainPg := false })) := fun d hd => by
      simp only [pgLow, hd]
    have hkept : pgLossDetail s.mbs.state = none → pgLow s =
        if s.mbs.state = .powering ∧ s.mbs.resetTimer.isSome = true then
          s.setMbs { s.mbs with mainPg := false, resetTimer := none, pgRunning := true }
        else s.setMbs { s.mbs with mainPg := false } := fun hd => by
      simp only [pgLow, hd]
      rfl
    have hjudged := fun d (hd : pgLossDetail s.mbs.state = some d) (hs : s.mbs.state.takesRestart = true) => by
      have h := restartedBy_reported (k := 4) .pgLost d d false (by decide) hr hs
      rw [← hlost d hd] at h
      exact h
    refine ⟨pgLow_tick s, fun hm => ?_, fun hm => ?_, fun hm => ?_, fun hm hreset => ?_, fun hb hrun hw h => ?_⟩
    · exact (hjudged 0 (by rw [hm]; rfl) (by rw [hm]; rfl)).2
    · exact (hjudged 1 (by rw [hm]; rfl) (by rw [hm]; rfl)).2
    · exact (hjudged 2 (by rw [hm]; rfl) (by rw [hm]; rfl)).2
    · exact drivePins_of_eq ((hkept (by rw [hm]; rfl)).trans (if_pos ⟨hm, hreset⟩))
    · have hd : pgLossDetail s.mbs.state = none := by
        cases hm : s.mbs.state <;> first | rfl | contradiction
      exact drivePins_of_eq ((hkept hd).trans (if_neg fun ⟨hm, hreset⟩ => h.elim (· hm) fun h => by simp [h] at hreset))

/-! The watchdogs -/

/-- R66, R68, R71, R72. The expiry of a watchdog that is reported and restarts. -/
theorem exec_watchdog {e : BoardExpiry} (he : e ∈ boardExpiries) {n : Nat} {s : State} {k : FaultKind} {cause : Cause}
    {d : Nat} (hk : k ≠ 15) (hp : s.powered = true) (hn : e.timer s.mbs = some n) (hd : onlyDue e.cmd n s = true)
    (hr : (reactionInForce s.tbs.tables k).restart = false) (hs : s.mbs.state.takesRestart = true)
    (hact : e.act (elapse n s) = restartDecision cause d (report k d (elapse n s))) :
    ∃ t, exec e.cmd s = .next t ∧ t.tick = s.tick + n ∧ RestartedBy (elapse n s) t cause d ∧ Counted s t k d := by
  obtain ⟨-, -, -, -, hfcl, -, htbs, -⟩ := elapse_keeps n s
  obtain ⟨htick, hrestarted, hcounted⟩ := restartedBy_reported (s := elapse n s) cause d d (elapse n s).mbs.mainPg hk
    (by rw [htbs]; exact hr) (by rw [elapse_mbs]; exact hs)
  refine ⟨_, exec_boardExpiry_alone he hp hn hd, ?_⟩
  rw [hact]
  unfold Counted at hcounted ⊢
  rw [hfcl] at hcounted
  exact ⟨htick.trans (elapse_tick n s), hrestarted, hcounted⟩

/-- R71. WARN entered with the transmitter busy and room in the queue. -/
theorem enterWarn_busy {s : State} (htx : s.slp.tx ≠ .idle) (hroom : reportedCount s.keq + s.keq.queue.length < 32) :
    enterWarn s = { s with
      mbs := { s.mbs with state := .warn, heartbeatTimer := some (s.tbs.tables.policy.heartbeatLimit * 10) }
      keq := { s.keq with queue := s.keq.queue ++
        [⟨.warn, 0, .normal, s.tbs.tables.policy.heartbeatLimit, false, s.tick % 65536⟩] } } := by
  unfold enterWarn
  dsimp only
  rw [offer_admitted]
  · exact kickTx_busy _ htx
  · have : reportedCount s.keq < Config.queueDepth - s.keq.queue.length := by
      unfold Config.queueDepth
      omega
    exact (if_pos rfl).trans (if_pos (decide_eq_true this))

/-- Settles O34: by the expiry of each watchdog once its ticks have passed. -/
theorem watchdogExpiriesWarnOrRestart : Obligations.WatchdogExpiriesWarnOrRestart := by
  have hbeat : ⟨.heartbeatExpiry, Mbs.heartbeatTimer, heartbeatExpired⟩ ∈ boardExpiries :=
    .tail _ (.tail _ (.tail _ (.tail _ (.head _))))
  refine ⟨fun n s hp hm hn hw htx hroom hd => ?_, fun n s hp => ⟨fun hm hrun hr hd => ?_, fun hm hn hr hd => ?_,
    fun hm hn hw hr hd => ?_, fun hm hn hr hd => ?_⟩⟩
  · obtain ⟨-, -, -, hpog, -, hslp, htbs, -⟩ := elapse_keeps n s
    have hwarn : heartbeatExpired (elapse n s) = enterWarn (elapse n s) := by
      rw [heartbeatExpired_run (by rw [elapse_mbs]; exact hm), htbs, if_pos hw]
    have hbusy := enterWarn_busy (s := elapse n s) (by rw [hslp]; exact htx)
      (by rw [reportedCount_elapse, elapse_queue]; exact hroom)
    rw [← hwarn] at hbusy
    refine ⟨_, exec_boardExpiry_alone hbeat hp hn hd, ?_, ?_⟩
    · change (heartbeatExpired (elapse n s)).tick = _
      rw [hbusy]
      exact elapse_tick n s
    · rw [← hpog, ← htbs, ← elapse_queue n s, ← elapse_tick n s]
      exact drivePins_of_eq hbusy
  · exact exec_watchdog (.tail _ (.head _)) (by decide) hp (if_pos ⟨hm, hrun⟩) hd hr (by rw [hm]; rfl) rfl
  · exact exec_watchdog (.tail _ (.tail _ (.tail _ (.head _)))) (by decide) hp hn hd hr (by rw [hm]; rfl) rfl
  · refine exec_watchdog hbeat (by decide) hp hn hd hr (by rw [hm]; rfl) ((heartbeatExpired_run ?_).trans (if_neg ?_))
    · rw [elapse_mbs]
      exact hm
    · simp [hw]
  · refine exec_watchdog hbeat (by decide) hp hn hd hr (by rw [hm]; rfl) (heartbeatExpired_warn ?_)
    rw [elapse_mbs]
    exact hm

/-! BOOT -/

/-- R67, R79. BOOT entered: what the offered RESTART event moves apart. -/
theorem enterBoot_eq (s : State) : enterBoot s = { s with
    mbs := { s.mbs.leave with
      state := .boot, rstN := true, token := none, bootTimer := some (s.tbs.tables.policy.bootWindow * 100) }
    tbs := { s.tbs with locks := tab fun _ => true }
    pog := { s.pog with requested := tab fun i => defaultLevel s.tbs.tables i }
    keq := { s.keq with queue := (enterBoot s).keq.queue }
    slp := { s.slp with tx := (enterBoot s).slp.tx } } := by
  conv_lhs => unfold enterBoot
  dsimp only
  rw [offer_eq]
  rfl

/-- R175. Outside RUN and WARN the transmitter takes no record. -/
theorem kickTx_queue_waits {s : State} (h : s.mbs.state.sendsEvents = false) : (kickTx s).keq.queue = s.keq.queue := by
  rcases kickTx_cases s with hk | ⟨-, f, -, hk⟩ | ⟨-, -, hm, -⟩
  · rw [hk]
  · rw [hk]
    rfl
  · exact absurd (h.symm.trans hm) Bool.false_ne_true

/-- R67. The RESTART event at BOOT, where the queue is empty and no channel is reported. -/
theorem enterBoot_queue {s : State} (hq : s.keq.queue = []) (hr : reportedCount s.keq = 0) :
    (enterBoot s).keq.queue = [⟨.restart, 0, s.mbs.bootCause, s.mbs.count, false, s.tick % 65536⟩] := by
  unfold enterBoot
  dsimp only
  rw [offer_admitted]
  · rw [kickTx_queue_waits (by rfl)]
    change s.keq.queue ++ _ = _
    rw [hq]
    rfl
  · have : reportedCount s.keq < Config.queueDepth - s.keq.queue.length := by
      rw [hr, hq]
      decide
    exact (if_pos rfl).trans (if_pos (decide_eq_true this))

/-- Settles O35: by the entry into BOOT from the state that the ticks left leave. -/
theorem theResetPulseExpiryEntersBoot : Obligations.TheResetPulseExpiryEntersBoot := by
  intro n s hp hn hd
  obtain ⟨-, -, -, hpog, -, hslp, htbs, -⟩ := elapse_keeps n s
  have hboot := enterBoot_eq (elapse n s)
  have hqueue := enterBoot_queue (s := elapse n s)
  rw [reportedCount_elapse, elapse_queue, elapse_tick] at hqueue
  rw [htbs, hslp] at hboot
  have hexec := exec_boardExpiry_alone (.tail _ (.tail _ (.head _))) hp hn hd
  dsimp only at hexec
  generalize enterBoot (elapse n s) = t at *
  have hlevels : ∀ i : Fin 6, t.pog.requested[i] = defaultLevel s.tbs.tables i := fun i => by
    rw [hboot]
    exact Vector.getElem_ofFn i.isLt
  have hlocks : ∀ i : Fin 7, t.tbs.locks[i] = true := fun i => by
    rw [hboot]
    exact Vector.getElem_ofFn i.isLt
  have htick : t.tick = s.tick + n := (congrArg State.tick hboot).trans (elapse_tick n s)
  have hmbs := congrArg State.mbs hboot
  rw [elapse_mbs] at hmbs hqueue
  dsimp only at hmbs
  refine ⟨_, hexec, htick, ?_⟩
  refine ⟨(congrArg Mbs.state hmbs :), (congrArg Mbs.rstN hmbs :), (congrArg Mbs.token hmbs :),
    (congrArg Mbs.bootTimer hmbs :), (congrArg Mbs.resetTimer hmbs :), (congrArg Mbs.pwrEn hmbs :),
    (congrArg Mbs.count hmbs :), (congrArg Mbs.bootCause hmbs :), (congrArg Mbs.shutdown hmbs :), hlocks, ?_, ?_,
    hlevels, hqueue⟩
  · rw [elapse_mbs]
    exact hmbs
  · generalize t.keq.queue = q, t.slp.tx = x at hboot
    subst hboot
    rfl

/-! The stable time and the pending shutdown -/

/-- R70. STABLE_TIME_REACHED that alone falls due. -/
theorem exec_stableTimeReached {n : Nat} {s : State} (hp : s.powered = true) (hn : stableLeft s.mbs = some n)
    (hd : onlyDue .stableTimeReached n s = true) :
    exec .stableTimeReached s = .next (drivePins (stableReached (elapse n s))) := by
  have hown : ∀ e ∈ ownEvents s, e.1 = .stableTimeReached → e.2 = some n := fun e he hc => by
    obtain ⟨-, -, -, -, -, -, -, h, -⟩ := ownEvents_left s e he
    rw [h hc, hn]
  refine (whenPowered_on s _ hp).trans ?_
  rw [hn, expire_alone _ _ _ _ hd hown]

/-- R29, R33. In OFF and LOCKOUT every duty that a recomputation outside a rail change gives is 0. -/
theorem newDuty_unheated {s : State} (hs : s.mbs.state.unheated = true) (hr : s.hfd.railChange = .none) (i : Fin 3) :
    newDuty s i = 0 := by
  have h0 : effectiveDemand s i = 0 := by simp [effectiveDemand, heatGated, hs]
  rw [newDuty_eq s hr i]
  have := scaledDuty_le s.tbs.tables (effectiveDemand s) (allotment s) i
  omega

/-- R34, R35. What a rail that has moved leaves of duties and fan. -/
theorem railMoved_drive (s : State) :
    (∀ i : Fin 3, ((railMoved s).hfd.channels[i]).applied = newDuty (setRailChange .none s) i) ∧
    (railMoved s).hfd.fanDuty = fanDutyNow (recomputeDuties (setRailChange .none s)) := by
  have hhfd : (railMoved s).hfd = (recomputeFan (recomputeDuties (setRailChange .none s))).hfd := by simp [railMoved]
  rw [hhfd]
  refine ⟨fun i => ?_, rfl⟩
  exact congrArg HeaterChannel.applied (recomputeDuties_channel _ i)

/-- R31, R34. A departure to OFF leaves every duty and the fan at 0. -/
theorem depart_off_drive (cause : Cause) (d : Nat) (s : State) :
    (∀ i : Fin 3, ((depart cause d .off s).hfd.channels[i]).applied = 0) ∧ (depart cause d .off s).hfd.fanDuty = 0 := by
  have hoff : ∃ w, depart cause d .off s = railMoved w ∧ w.mbs.state = .off ∧ w.mbs.pwrEn = false :=
    ⟨_, rfl, rfl, rfl⟩
  obtain ⟨w, hw, hstate, hpwr⟩ := hoff
  obtain ⟨hduty, hfan⟩ := railMoved_drive w
  rw [hw, hfan]
  refine ⟨fun i => (hduty i).trans (newDuty_unheated ?_ rfl i), ?_⟩
  · exact congrArg MbsState.unheated hstate
  · have hp : (recomputeDuties (setRailChange .none w)).mbs.pwrEn = false := hpwr
    simp only [fanDutyNow, hp, Bool.not_false, if_true]

/-- Settles O39: by the count at the stable time, and by the departure to OFF from the state that the ticks left
leave. -/
theorem stableTimeAndPendingShutdownEnd : Obligations.StableTimeAndPendingShutdownEnd := by
  refine ⟨fun seconds ticks s hp hs hr hd => ?_, fun n s hp hn hm hd => ?_⟩
  · obtain ⟨-, -, -, hpog, -⟩ := elapse_keeps (seconds * 100 - ticks) s
    refine ⟨_, exec_stableTimeReached hp (by rw [stableLeft, hs, hr]) hd, elapse_tick _ s, ?_⟩
    rw [← hpog]
    rfl
  · obtain ⟨-, htmu, hznc, hpog, hfcl, hslp, htbs, -⟩ := elapse_keeps n s
    have hon : (elapse n s).mbs.state.railOn = true := by
      rw [elapse_mbs]
      rcases hm with h | h | h <;> exact h ▸ rfl
    have hexec := exec_boardExpiry_alone (.head _) hp hn hd
    have hdepart : shutdownExpired (elapse n s) = depart .hostRequest 0 .off (elapse n s) := if_pos hon
    have hdeparted := departed_depart .hostRequest 0 .off (elapse n s)
    have hmbs := depart_mbs .hostRequest 0 .off (elapse n s)
    have hstate := depart_state .hostRequest 0 .off (elapse n s)
    obtain ⟨hduty, hfan⟩ := depart_off_drive .hostRequest 0 (elapse n s)
    obtain ⟨hslp', hqueue, -⟩ := depart_keys .hostRequest 0 .off (elapse n s)
    obtain ⟨-, htick, htmu', hznc', hpog', hfcl', htbs', -⟩ := depart_keeps .hostRequest 0 .off (elapse n s)
    have hscan := rescanned_depart .hostRequest 0 .off (elapse n s) (by decide)
    dsimp only at hexec
    rw [hdepart] at hexec
    generalize depart .hostRequest 0 .off (elapse n s) = t at *
    rw [elapse_mbs] at hmbs hdeparted
    refine ⟨_, hexec, htick.trans (elapse_tick n s), hstate, ?_⟩
    refine ⟨(congrArg Mbs.pwrEn hmbs :), (congrArg Mbs.rstN hmbs :), (congrArg Mbs.shutdown hmbs :),
      (congrArg Mbs.count hmbs :), (congrArg Mbs.bootCause hmbs :), hqueue, (congrArg Tsu.mode hscan.1 :), hduty, hfan,
      htbs'.trans htbs, htmu'.trans htmu, hznc'.trans hznc, hfcl'.trans hfcl, hslp'.trans hslp, ?_, ?_, hdeparted⟩
    · exact (congrArg Pog.requested hpog').trans (congrArg Pog.requested hpog)
    · exact (congrArg Tsu.refs hscan.1).trans (elapse_tsu n s).2.1

/-! The model's own clock -/

/-- Settles O2: by what a step without a command does, and by the expiries that do not come. -/
theorem emptyQueuePassesOneTick : Obligations.EmptyQueuePassesOneTick := by
  refine ⟨fun s hq => ?_, fun s hp e he => ⟨fun hn => ?_, fun n hn hb => ?_⟩⟩
  · have hstep : step s = .next (Machine.idle s) := by
      unfold step
      rw [hq]
    rw [hstep]
    refine ⟨fun hp => ?_, fun c hp hdue => ?_, fun hp hdue => ⟨_, rfl, ?_⟩⟩
    · rw [Machine.idle, if_neg (by rw [hp]; exact Bool.false_ne_true)]
    · rw [Machine.idle, if_pos hp, hdue]
    · have hidle : Machine.idle s = elapse 1 s := by rw [Machine.idle, if_pos hp, hdue]
      have hsince : (elapse 1 s).rhs.since = satAdd Config.sinceCap s.rhs.since 1 := rfl
      rw [hidle]
      refine ⟨rfl, rfl, rfl, rfl, rfl, rfl, rfl, rfl, rfl, ?_, elapse_queue 1 s,
        (elapse_tsu 1 s).2.1⟩
      rw [hsince]
      rw [satAdd, Config.sinceCap]
  · refine ⟨_, exec_boardExpiry he hp, drivePins_of_eq ?_⟩
    rw [hn, expire_none]
  · refine ⟨_, exec_boardExpiry he hp, drivePins_of_eq ?_⟩
    rw [hn, expire_later _ _ _ _ hb]

end Sys2Proof.Machine
end

section
/-! Occurrences (R155 to R160). -/

namespace Sys2Proof.Machine

section
variable {k : FaultKind} {s : State} (d : Nat)

/-- R155, R160. An occurrence that offers no FAULT event moves the Fault Collector alone. -/
theorem recordOccurrence_silent
    (h : ¬((s.fcl.records[k]).state = .clear ∧ (reactionInForce s.tbs.tables k).report = true)) :
    recordOccurrence k d s = { s with fcl := (recordOccurrence k d s).fcl } := by
  dsimp only [recordOccurrence]
  rw [if_neg h]
  rfl

/-- R155, R160. One on a CLEAR record with REPORT set offers it as well. -/
theorem recordOccurrence_reported (hc : (s.fcl.records[k]).state = .clear)
    (hr : (reactionInForce s.tbs.tables k).report = true) : recordOccurrence k d s =
      offer ⟨.fault, k.val, .normal, d, false, s.tick % 65536⟩ { s with fcl := (recordOccurrence k d s).fcl } := by
  dsimp only [recordOccurrence]
  rw [if_pos ⟨hc, hr⟩]
  simp only [offer_keeps]
  rfl

/-- R160. A report on a CLEAR record with RESTART set makes the restart decision of its kind. -/
theorem report_restarts (hc : (s.fcl.records[k]).state = .clear)
    (hr : (reactionInForce s.tbs.tables k).restart = true) :
    report k d s = restartDecision .fault k.val (recordOccurrence k d s) := if_pos ⟨hc, hr⟩

end

theorem RecordsMoved.onlyReported {s t : State} (h : RecordsMoved s t) : OnlyReported s t := by
  unfold RecordsMoved at h
  generalize t.fcl = f, t.keq.queue = q, t.slp.tx = x at h
  subst h
  rfl

/-- What records and reports have moved before a restart does not show in it. -/
theorem RestartedBy.of_recordsMoved {s u t : State} {cause : Cause} {d : Nat} (hu : RecordsMoved s u)
    (h : RestartedBy u t cause d) : RestartedBy s t cause d := by
  unfold RecordsMoved at hu
  generalize u.fcl = f, u.keq.queue = q, u.slp.tx = x at hu
  subst hu
  exact h

/-- R75, R77. A restart decision records nothing but F15, and that at LOCKOUT alone. -/
theorem restartDecision_fcl {cause : Cause} {d : Nat} {s : State}
    (hl : (restartDecision cause d s).mbs.state ≠ .lockout) : (restartDecision cause d s).fcl = s.fcl := by
  cases hs : s.mbs.state.takesRestart with
  | false => rw [restartDecision_absorbed cause d s hs]
  | true =>
    rw [restartDecision_taken d hs] at hl ⊢
    rw [depart_state] at hl
    obtain ⟨-, -, -, -, -, hfcl, -⟩ :=
      depart_keeps cause d (decisionStage s.tbs.tables.policy cause (s.mbs.count + 1)) (decided cause s)
    have hstage : decisionStage s.tbs.tables.policy cause (s.mbs.count + 1) ≠ .lockout := fun h => hl (by rw [h]; rfl)
    rw [hfcl, decided, counted, if_neg hstage]
    rfl

/-- Settles O52: by what an occurrence makes of its record, and by the restart decision from the state it leaves. -/
theorem occurrencesMoveTheirRecord : Obligations.OccurrencesMoveTheirRecord := by
  intro k d s
  have hsame := recordOccurrence_record_same k d s
  have hmoved := recordsMoved_recordOccurrence k d s
  have hstate : (s.fcl.records[k]).state = .clear → ((recordOccurrence k d s).fcl.records[k]).state =
      latchedState k (s.fcl.records[k]).cls := fun hc => by
    rw [hsame, FaultRecord.occur, if_pos hc]
  refine ⟨.of_occur (by simp) hsame, fun j hj => recordOccurrence_record_ne hj d s, fun hc hsw => ?_,
    fun hc hhw hlasts => ?_, fun hc hhw hpasses => ?_, fun hn => ?_, hmoved.onlyReported,
    recordOccurrence_reported d, fun hr => ?_, fun hr => report_eq_record k d s (.inr hr), fun hc hr hs => ?_,
    fun hpow hboot hrun hwarn => ?_⟩
  · rw [hstate hc, hsw, latchedState]
  · rw [hstate hc, hhw, latchedState, hlasts]
    rfl
  · rw [hstate hc, hhw, latchedState, hpasses]
    rfl
  · have hsilent := recordOccurrence_silent (k := k) (s := s) d fun h => hn h.1
    exact ⟨(congrArg State.keq hsilent :), (congrArg State.slp hsilent :), report_eq_record k d s (.inl hn)⟩
  · exact recordOccurrence_silent d fun h => absurd (hr.symm.trans h.2) Bool.false_ne_true
  · rw [report_restarts d hc hr]
    rw [← hmoved.mbs] at hs
    obtain ⟨hrestarted, hcounted⟩ := (aRestartDecisionClimbsTheLadder .fault k.val (recordOccurrence k d s)).1 hs
    exact ⟨hrestarted.of_recordsMoved hmoved, hcounted, restartDecision_fcl⟩
  · unfold report
    dsimp only
    split
    · refine (aRestartDecisionClimbsTheLadder .fault k.val (recordOccurrence k d s)).2 ?_ ?_ ?_ ?_ <;>
        rw [hmoved.mbs] <;> assumption
    · rfl

end Sys2Proof.Machine
end

section
/-! HEARTBEAT and POWER REQUEST that meet a free reply buffer (R68 to R72, R76, R78, R81, R82, R136). -/

namespace Sys2Proof.Machine

section
variable {s : State}

/-- R175. After an answer the transmitter is busy. -/
theorem answered_tx (x : Slp) (f : Frame) : (x.answered f).tx ≠ .idle := by
  unfold Slp.answered
  cases x.tx <;> exact nofun

/-! HEARTBEAT -/

/-- R69, R68, R70, R72. What an accepted heartbeat makes of a part whose transmitter is busy. -/
theorem acceptHeartbeat_busy (token : Byte) (htx : s.slp.tx ≠ .idle) :
    (s.mbs.state = .boot → acceptHeartbeat token s = { s with
      mbs := { s.mbs.leave with
        state := .run, token := some token, heartbeatTimer := some (s.tbs.tables.policy.heartbeatLimit * 10)
        runTicks := some 0, stable := some s.tbs.tables.policy.stableTime }
      hfd := { s.hfd with filter := some ⟨0, decide (1000 ≤ s.hfd.fanDuty)⟩ } }) ∧
    (s.mbs.state ≠ .boot → acceptHeartbeat token s = { s with
      mbs := { s.mbs with
        state := .run, token := some token, heartbeatTimer := some (s.tbs.tables.policy.heartbeatLimit * 10) } }) := by
  unfold acceptHeartbeat
  refine ⟨fun h => (if_pos h).trans (kickTx_busy _ htx), fun h => (if_neg h).trans (kickTx_busy _ htx)⟩

/-- R69. The HEARTBEAT that meets a free reply buffer. -/
theorem exec_heartbeat (tag token : Byte) (hp : s.powered = true) (hr : s.slp.reply = none) :
    exec (.heartbeat tag [token]) s = .next (drivePins (heartbeatToken tag token (rxTaken s))) := by
  refine (request_free hp hr _).trans ?_
  rw [serveHeartbeat, withOneByte, byteOf, BitVec.ofNat_toNat, BitVec.setWidth_eq]

end

/-- Settles O36: by the rows of a HEARTBEAT: accepted in BOOT, in RUN and WARN, STALE and refused. -/
theorem aHeartbeatIsAcceptedOrStale : Obligations.AHeartbeatIsAcceptedOrStale := by
  intro tag token s hp hr left
  have hexec := exec_heartbeat tag token hp hr
  have hbusy := fun f => acceptHeartbeat_busy (s := { s with slp := s.slp.answered f }) token (answered_tx s.slp f)
  have hmbs : (rxTaken s).mbs = s.mbs := rfl
  rw [heartbeatToken, hmbs] at hexec
  by_cases ha : s.mbs.state.admits = true
  · have hin := admits_iff.1 ha
    have hout : s.mbs.state ≠ .boot → s.mbs.state ≠ .run → s.mbs.state ≠ .warn → False := fun hb hr hw =>
      hin.elim hb fun h => h.elim hr hw
    rw [if_pos ha] at hexec
    by_cases hst : s.mbs.token = some token
    · rw [if_pos hst] at hexec
      have honly := onlyAnswered_reply s 0x02 tag .stale (be16 (tenths (feedTimer s.mbs)))
      exact ⟨_, hexec, by rw [reply_rxTaken]; rfl, fun _ h => absurd hst h, fun _ h => absurd hst h, fun _ _ => honly,
        fun hb hr hw => (hout hb hr hw).elim⟩
    · rw [if_neg hst, reply_rxTaken] at hexec
      by_cases hb : s.mbs.state = .boot
      · rw [(hbusy _).1 hb] at hexec
        exact ⟨_, hexec, rfl, fun _ _ => ⟨rfl, rfl, rfl⟩, fun h => (h.elim (by simp [hb]) (by simp [hb])),
          fun _ h => absurd h hst, fun h => absurd hb h⟩
      · rw [(hbusy _).2 hb] at hexec
        exact ⟨_, hexec, rfl, fun h => absurd h hb, fun _ _ => ⟨rfl, rfl, rfl⟩, fun _ h => absurd h hst,
          fun hb hr hw => (hout hb hr hw).elim⟩
  · rw [if_neg ha] at hexec
    have hn := fun h => ha (admits_iff.2 h)
    exact ⟨_, hexec, by rw [refuse, reply_rxTaken]; rfl, fun h => absurd (.inl h) hn, fun h => absurd (.inr h) hn,
      fun h => absurd h hn, fun _ _ _ => onlyAnswered_refuse s 0x02 tag .state⟩

/-! POWER REQUEST -/

theorem depart_refs (cause : Cause) (d : Nat) (stage : Stage) (s : State) :
    (depart cause d stage s).tsu.refs = s.tsu.refs := by
  by_cases h : stage = .reset
  · subst h
    rw [depart_tsu_reset]
  · exact (congrArg Tsu.refs (rescanned_depart cause d stage s h).1 :)

/-- R76, R78. A requested restart that is taken departs with the count as it is. -/
theorem requestedRestart_departed (cause : Cause) (d : Nat) (stage : Stage) {s : State}
    (hs : s.mbs.state.takesRestart = true) :
    let t := requestedRestart cause d stage s
    t.tick = s.tick ∧ t.tbs = s.tbs ∧ t.tmu = s.tmu ∧ t.znc = s.znc ∧ t.fcl = s.fcl ∧ t.pog = s.pog ∧
    t.tsu.refs = s.tsu.refs ∧ t.slp = s.slp ∧ t.keq.queue = [] ∧ t.mbs.bootCause = cause ∧
    Departed s t cause d stage s.mbs.count := by
  have heq : requestedRestart cause d stage s = depart cause d stage (s.setMbs { s.mbs with bootCause := cause }) :=
    if_pos hs
  have hdeparted := departed_depart cause d stage (s.setMbs { s.mbs with bootCause := cause })
  have hmbs := depart_mbs cause d stage (s.setMbs { s.mbs with bootCause := cause })
  obtain ⟨hslp, hqueue, -⟩ := depart_keys cause d stage (s.setMbs { s.mbs with bootCause := cause })
  obtain ⟨-, htick, htmu, hznc, hpog, hfcl, htbs, -⟩ :=
    depart_keeps cause d stage (s.setMbs { s.mbs with bootCause := cause })
  have hrefs := depart_refs cause d stage (s.setMbs { s.mbs with bootCause := cause })
  dsimp only
  rw [heq]
  exact ⟨htick, htbs, htmu, hznc, hfcl, hpog, hrefs, hslp, hqueue, (congrArg Mbs.bootCause hmbs :),
    hdeparted.of_decided (.refl _)⟩

/-- R81. The POWER REQUEST that meets a free reply buffer: the first failing check, or the action. -/
theorem exec_powerRequest (tag action delay : Byte) {s : State} (hp : s.powered = true) (hr : s.slp.reply = none) :
    exec (.powerRequest tag [action, delay]) s = .next (drivePins (
      if action.toNat ≤ 2 ∧ ¬(action = 2 ∧ delay = 0) then
        if s.mbs.state.admits then
          powerAction action.toNat delay.toNat { s with slp := s.slp.answered (replyFrame 0xA0 tag 0 []) }
        else refuse 0x20 tag .state (rxTaken s)
      else refuse 0x20 tag .badArg (rxTaken s))) := by
  have hgood : (action.toNat ≤ 2 && (action.toNat != 2 || 1 ≤ delay.toNat)) =
      decide (action.toNat ≤ 2 ∧ ¬(action = 2 ∧ delay = 0)) := by
    have h2 : action = 2 ↔ action.toNat = 2 := ⟨fun h => by rw [h]; rfl, fun h => BitVec.eq_of_toNat_eq h⟩
    have h0 : delay = 0 ↔ delay.toNat = 0 := ⟨fun h => by rw [h]; rfl, fun h => BitVec.eq_of_toNat_eq h⟩
    rw [Bool.eq_iff_iff]
    simp only [Bool.and_eq_true, Bool.or_eq_true, decide_eq_true_eq, bne_iff_ne, h2, h0]
    omega
  refine (request_free hp hr _).trans ?_
  rw [servePowerRequest, withTwoBytes, powerChecks, checkedRequest_two, reply_rxTaken, hgood]
  simp only [decide_eq_true_eq]
  rfl

/-- Settles O38: by the two failing checks and by the three actions. -/
theorem aPowerRequestRestartsOrArms : Obligations.APowerRequestRestartsOrArms := by
  intro tag action delay s hp hr permitted taken
  have hexec := exec_powerRequest tag action delay hp hr
  have hpermitted : permitted ↔ s.mbs.state.admits = true := admits_iff.symm
  by_cases hgood : action.toNat ≤ 2 ∧ ¬(action = 2 ∧ delay = 0)
  · have hnotbad : ¬(2 < action.toNat ∨ (action = 2 ∧ delay = 0)) := fun h => h.elim (by omega) hgood.2
    rw [if_pos hgood] at hexec
    by_cases ha : s.mbs.state.admits = true
    · have hin : permitted := hpermitted.2 ha
      have htakes : taken.mbs.state.takesRestart = true := takesRestart_iff.2 (.inr hin)
      rw [if_pos ha] at hexec
      have hne : ∀ {m n : Byte}, action.toNat = m.toNat → m ≠ n → action ≠ n := fun hm hmn hn =>
        hmn ((BitVec.eq_of_toNat_eq hm).symm.trans hn)
      rcases (by omega : action.toNat = 0 ∨ action.toNat = 1 ∨ action.toNat = 2) with h0 | h1 | h2
      · obtain ⟨htick, htbs, htmu, hznc, hfcl, hpog, hrefs, hslp, hqueue, hboot, hdeparted⟩ :=
          requestedRestart_departed .hostRequest 0 .reset htakes
        have hact : powerAction action.toNat delay.toNat taken = requestedRestart .hostRequest 0 .reset taken := by
          rw [h0]
          rfl
        rw [hact] at hexec
        generalize requestedRestart .hostRequest 0 .reset taken = t at *
        have hgone := hdeparted
        obtain ⟨hstate, hcount, hrst, -, -, -, hpwr, hreset, -⟩ := hgone
        exact ⟨_, hexec, htick, htbs, htmu, hznc, hfcl, (congrArg Pog.requested hpog :), hrefs,
          fun h => absurd h hnotbad, fun _ _ h => absurd hin h,
          fun _ _ => ⟨congrArg Slp.reply hslp, hstate, hcount, hpwr, hrst, hboot, hreset, hqueue, hdeparted⟩,
          fun _ h => absurd h (hne (m := 0) h0 (by decide)), fun _ h => absurd h (hne (m := 0) h0 (by decide))⟩
      · obtain ⟨htick, htbs, htmu, hznc, hfcl, hpog, hrefs, hslp, hqueue, hboot, hdeparted⟩ :=
          requestedRestart_departed .hostRequest 0 .cycle htakes
        have hact : powerAction action.toNat delay.toNat taken = requestedRestart .hostRequest 0 .cycle taken := by
          rw [h1]
          rfl
        rw [hact] at hexec
        generalize requestedRestart .hostRequest 0 .cycle taken = t at *
        have hgone := hdeparted
        obtain ⟨hstate, hcount, -, -, -, -, hpwr, -, hcycle, -⟩ := hgone
        exact ⟨_, hexec, htick, htbs, htmu, hznc, hfcl, (congrArg Pog.requested hpog :), hrefs,
          fun h => absurd h hnotbad, fun _ _ h => absurd hin h, fun _ h => absurd h (hne (m := 1) h1 (by decide)),
          fun _ _ => ⟨congrArg Slp.reply hslp, hstate, hcount, hpwr, hboot, hcycle, hqueue, hdeparted⟩,
          fun _ h => absurd h (hne (m := 1) h1 (by decide))⟩
      · have hact : powerAction action.toNat delay.toNat taken = armShutdown delay.toNat taken := by
          rw [h2]
          rfl
        rw [hact] at hexec
        exact ⟨_, hexec, rfl, rfl, rfl, rfl, rfl, rfl, rfl, fun h => absurd h hnotbad, fun _ _ h => absurd hin h,
          fun _ h => absurd h (hne (m := 2) h2 (by decide)), fun _ h => absurd h (hne (m := 2) h2 (by decide)),
          fun _ _ _ => rfl⟩
    · rw [if_neg ha, refuse, reply_rxTaken] at hexec
      have hn := fun h => ha (hpermitted.1 h)
      exact ⟨_, hexec, rfl, rfl, rfl, rfl, rfl, rfl, rfl, fun h => absurd h hnotbad, fun _ _ _ => rfl,
        fun h => absurd h hn, fun h => absurd h hn, fun h => absurd h hn⟩
  · have hbad : ∀ n : Byte, action = n → n.toNat ≤ 2 → n = 2 ∧ delay = 0 := fun n h hn => by
      by_contra hc
      exact hgood ⟨by rw [h]; exact hn, by rw [h]; exact hc⟩
    rw [if_neg hgood, refuse, reply_rxTaken] at hexec
    exact ⟨_, hexec, rfl, rfl, rfl, rfl, rfl, rfl, rfl, fun _ => rfl, fun h2 h0 => absurd ⟨h2, h0⟩ hgood,
      fun _ h => absurd (hbad _ h (by decide)).1 (by decide), fun _ h => absurd (hbad _ h (by decide)).1 (by decide),
      fun _ h h0 => absurd (hbad _ h (by decide)).2 h0⟩

end Sys2Proof.Machine
end

section
/-! Touch and release transitions at the key mapper, and what a scan hands it (R83, R105, R127 to R134). -/

namespace Sys2Proof.Machine

section
variable {c : Fin 20} {s : State}

/-! Touch transitions -/

/-- R130. The channel marked down, its chords brought up to date. -/
def markedDown (c : Fin 20) (s : State) : State := syncChords (updKey c (fun k => { k with down := true }) s)

/-- R127, R134. The part with key `c` replaced, the queue replaced, and the chords as the touch has brought them. -/
def touchedWith (c : Fin 20) (k : MappedKey) (queue : List Event) (s : State) : State :=
  { s with keq := { keys := s.keq.keys.set c k, chords := (markedDown c s).keq.chords, queue := queue } }

/-- A second change of the touched key. -/
theorem updKey_touchedWith (k : MappedKey) (queue : List Event) (f : MappedKey → MappedKey) :
    updKey c f (touchedWith c k queue s) = touchedWith c (f k) queue s := by
  have hkeys : upd (s.keq.keys.set c k) c f = s.keq.keys.set c (f k) := by simp [upd]
  unfold touchedWith
  rw [← hkeys]
  rfl

theorem markedDown_setQueue (c : Fin 20) (queue : List Event) (s : State) :
    (markedDown c s).setKeq { (markedDown c s).keq with queue := queue } =
      touchedWith c { s.keq.keys[c] with down := true } queue s := rfl

theorem markedDown_key (c : Fin 20) (s : State) :
    (markedDown c s).keq.keys[c] = { s.keq.keys[c] with down := true } :=
  (updKey_key c c _ s).trans (if_pos rfl)

/-- R130. A touch transition by the first case that applies. -/
theorem touchTransition_rows (c : Fin 20) (s : State) :
    ((s.tbs.tables.keymap[c]).valid = false → touchTransition c s = s) ∧
    ((s.tbs.tables.keymap[c]).valid = true → (s.keq.keys[c]).suppressed = true →
      touchTransition c s = markedDown c s) ∧
    ((s.tbs.tables.keymap[c]).valid = true → (s.keq.keys[c]).suppressed = false →
      s.mbs.state = .off ∧ (s.tbs.tables.keymap[c]).wake = true →
      touchTransition c s = wake .key c.val (markedDown c s)) ∧
    ((s.tbs.tables.keymap[c]).valid = true → (s.keq.keys[c]).suppressed = false →
      ¬(s.mbs.state = .off ∧ (s.tbs.tables.keymap[c]).wake = true) →
      touchTransition c s =
        if (s.tbs.tables.keymap[c]).isLocal then markedDown c s else offerKeyDown c (markedDown c s)) := by
  have heq : (s.tbs.tables.keymap[c]).valid = true → touchTransition c s =
      if ((markedDown c s).keq.keys[c]).suppressed then markedDown c s
      else if s.mbs.state = .off ∧ (s.tbs.tables.keymap[c]).wake = true then wakeKey c (markedDown c s)
      else if (s.tbs.tables.keymap[c]).isLocal then markedDown c s
      else offerKeyDown c (markedDown c s) := fun hv => if_pos hv
  rw [markedDown_key] at heq
  refine ⟨fun hv => if_neg (by rw [hv]; exact Bool.false_ne_true), fun hv hs => ?_, fun hv hs hw => ?_,
    fun hv hs hw => ?_⟩
  · rw [heq hv, if_pos hs]
  · rw [heq hv, if_neg (by rw [hs]; exact Bool.false_ne_true), if_pos hw]
    exact if_pos hw.1
  · rw [heq hv, if_neg (by rw [hs]; exact Bool.false_ne_true), if_neg hw]

/-- R127. A key marked down is counted as before. -/
theorem reportedCountWith_markedDown (c d : Fin 20) (s : State) :
    reportedCountWith (markedDown c s).keq d.val = reportedCountWith s.keq d.val := by
  have hkey : ∀ i : Fin 20, ((markedDown c s).keq.keys[i]).reported = (s.keq.keys[i]).reported := fun i => by
    have h := congrArg MappedKey.reported (updKey_key c i (fun k => { k with down := true }) s)
    refine h.trans ?_
    split <;> rfl
  unfold reportedCountWith
  simp only [hkey]

/-- R128 to R130. A KEY_DOWN offered with the transmitter busy: admitted, refused, or discarded. -/
theorem offerKeyDown_rows (c : Fin 20) (s : State) :
    (s.mbs.state.admits = false → offerKeyDown c (markedDown c s) = markedDown c s) ∧
    (s.mbs.state.admits = true → s.slp.tx ≠ .idle → reportedCountWith s.keq c.val < 32 - s.keq.queue.length →
      offerKeyDown c (markedDown c s) = touchedWith c
        { s.keq.keys[c] with
          down := true, reported := some (s.tbs.tables.keymap[c]).code, repeatTimer := 0, nextRepeat := 50
          repeatCount := 0 }
        (s.keq.queue ++ [⟨.keyDown, (s.tbs.tables.keymap[c]).code, .normal, c.val, false, s.tick % 65536⟩]) s) ∧
    ∀ q x, s.mbs.state.admits = true → ¬reportedCountWith s.keq c.val < 32 - s.keq.queue.length →
      s.keq.queue = q ++ [x] → offerKeyDown c (markedDown c s) = touchedWith c
        { s.keq.keys[c] with down := true, unreported := true } (q ++ [{ x with lost := true }]) s := by
  have hjudged : offerJudgement (markedDown c s)
      (newEvent (markedDown c s) .keyDown (s.tbs.tables.keymap[c]).code .normal c.val) =
      if s.mbs.state.admits then
        (if reportedCountWith s.keq c.val < 32 - s.keq.queue.length then .admitted else .refused)
      else .discarded := by
    have hroom : roomFor (markedDown c s).keq
        (newEvent (markedDown c s) .keyDown (s.tbs.tables.keymap[c]).code .normal c.val) =
        decide (reportedCountWith s.keq c.val < 32 - s.keq.queue.length) := by
      rw [← reportedCountWith_markedDown c c s]
      rfl
    unfold offerJudgement
    rw [hroom]
    simp only [decide_eq_true_eq]
    rfl
  have hoffer : offerKeyDown c (markedDown c s) =
      match offerJudgement (markedDown c s)
        (newEvent (markedDown c s) .keyDown (s.tbs.tables.keymap[c]).code .normal c.val) with
      | .admitted => updKey c (MappedKey.report (s.tbs.tables.keymap[c]).code) (offer
        (newEvent (markedDown c s) .keyDown (s.tbs.tables.keymap[c]).code .normal c.val) (markedDown c s))
      | .refused => updKey c (fun k => { k with unreported := true }) (offer
        (newEvent (markedDown c s) .keyDown (s.tbs.tables.keymap[c]).code .normal c.val) (markedDown c s))
      | .discarded => markedDown c s := rfl
  refine ⟨fun ha => ?_, fun ha htx hroom => ?_, fun q x ha hroom hq => ?_⟩
  · rw [if_neg (by rw [ha]; exact Bool.false_ne_true)] at hjudged
    rw [hoffer, hjudged]
  · rw [if_pos ha, if_pos hroom] at hjudged
    rw [hoffer, hjudged]
    dsimp only
    rw [offer_admitted _ _ hjudged, kickTx_busy _ (by exact htx), markedDown_setQueue, updKey_touchedWith]
    rfl
  · rw [if_pos ha, if_neg hroom] at hjudged
    rw [hoffer, hjudged]
    dsimp only
    have hqueue : (markedDown c s).keq.queue = q ++ [x] := hq
    rw [offer_refused _ _ hjudged, hqueue, markNewestLost_concat, markedDown_setQueue, updKey_touchedWith]

/-! Wakes -/

/-- R65, R101. An entry into HEAT_HOLD moves no key. -/
theorem enterHeatHold_keys (fresh : Bool) (s : State) : (enterHeatHold fresh s).keq.keys = s.keq.keys := by
  by_cases h : s.znc.release = true ∧ s.fcl.hold = false
  · rw [(enterHeatHold_rows fresh s).1 h]
    exact (switchOn_keq _).2.1
  · rw [(enterHeatHold_rows fresh s).2 h]
    rfl

/-- R83, R93. A wake key in OFF. -/
theorem wake_key (c : Fin 20) (hs : s.mbs.state = .off) :
    let t := wake .key c.val s
    t.keq.keys = s.keq.keys ∧ t.mbs.bootCause = .key ∧ (t.mbs.state = .heatHold ∨ t.mbs.state = .powering) ∧
    t.mbs.count = s.mbs.count ∧ t.rhs.entries = (⟨s.rhs.nextOrdinal, s.tick % 65536,
      .wake ⟨.key, c.val, .none, .off, s.mbs.count, snapshot s⟩⟩ :: s.rhs.entries).take 16 := by
  have hrhs := wake_rhs .key c.val s
  obtain ⟨-, -, -, -, -, -, hcount, hboot, hstate⟩ := enterHeatHold_rest true (woken .key c.val s)
  have hkeys := enterHeatHold_keys true (woken .key c.val s)
  have hwoken : (woken .key c.val s).mbs.count = s.mbs.count := if_neg (by rw [hs]; decide)
  rw [← wake_eq] at hkeys hcount hboot hstate
  rw [hs, if_neg (by decide)] at hrhs
  dsimp only
  refine ⟨hkeys, hboot, ?_, hcount.trans hwoken, congrArg Rhs.entries hrhs⟩
  rw [hstate]
  split
  · exact .inr rfl
  · exact .inl rfl

/-! Release transitions -/

/-- R131, R134. Once key `c` is released, a chord is held where it was and `c` is none of its members. -/
theorem chordHeld_released {u : State} (htbs : u.tbs = s.tbs)
    (hkeys : ∀ j : Fin 20, keyHeld u j = (decide (j ≠ c) && keyHeld s j)) (i : Fin 8) : chordHeld u i =
      ((s.tbs.tables.chords[i]).valid && !(s.tbs.tables.chords[i]).members.getLsbD c.val && chordHeld s i) := by
  unfold chordHeld
  rw [htbs]
  cases (s.tbs.tables.chords[i]).valid with
  | false => rfl
  | true =>
    rw [Bool.true_and, Bool.true_and, Bool.true_and]
    cases hm : (s.tbs.tables.chords[i]).members.getLsbD c.val with
    | true => exact membersHeld_of_unheld hm (by rw [hkeys]; simp)
    | false =>
      rw [Bool.not_false, Bool.true_and]
      unfold membersHeld
      refine congrArg (List.all _) (funext fun j => ?_)
      rw [hkeys]
      by_cases hj : j = c
      · subst hj
        rw [hm]
        rfl
      · simp [hj]

theorem offerKeyUp_keq (c : Fin 20) (cause : Cause) (s : State) : (offerKeyUp c cause s).keq.chords = s.keq.chords ∧
    ∀ j : Fin 20, (offerKeyUp c cause s).keq.keys[j] =
      if c = j ∧ (s.keq.keys[c]).reported.isSome = true then (s.keq.keys[j]).unreport else s.keq.keys[j] := by
  unfold offerKeyUp
  cases (s.keq.keys[c]).reported with
  | some code =>
    refine ⟨by simp [updKey], fun j => ?_⟩
    simp only [updKey_key, (offer_keys _ _).1, Option.isSome_some, and_true]
  | none => simp only [Option.isSome_none, Bool.false_eq_true, and_false, if_false, implies_true, and_self]

/-- R131, R134. The chords after a release. -/
theorem releaseTransition_chords (c : Fin 20) (cause : Cause) (s : State) :
    (loosenKey c MappedKey.lifted cause s).keq.chords = tab fun i : Fin 8 => chordNext
      ((s.tbs.tables.chords[i]).valid && !(s.tbs.tables.chords[i]).members.getLsbD c.val && chordHeld s i)
      (conditionMatches s.mbs.pwrEn (s.tbs.tables.chords[i]).condition) s.keq.chords[i] := by
  obtain ⟨hchords, hkeys⟩ := offerKeyUp_keq c cause s
  have htbs : (updKey c MappedKey.lifted (offerKeyUp c cause s)).tbs = s.tbs := by simp
  have hmbs : (updKey c MappedKey.lifted (offerKeyUp c cause s)).mbs = s.mbs := by simp
  have hkept : (updKey c MappedKey.lifted (offerKeyUp c cause s)).keq.chords = s.keq.chords := hchords
  have hheld := chordHeld_released (c := c) htbs fun j => by
    unfold keyHeld
    rw [htbs, updKey_key, hkeys]
    by_cases hj : c = j
    · simp [hj, MappedKey.lifted]
    · simp [hj, Ne.symm hj]
  refine vector_eq_iff.2 fun i => ?_
  rw [loosenKey, syncChords_chord, hheld, hmbs, htbs, hkept]
  simp only [Fin.getElem_fin, Vector.getElem_ofFn]

/-- R131. A release transition by the validity of the channel's entry. -/
theorem releaseTransition_rows (c : Fin 20) (cause : Cause) (s : State) :
    ((s.tbs.tables.keymap[c]).valid = false → releaseTransition c cause s = s) ∧
    ((s.tbs.tables.keymap[c]).valid = true →
      releaseTransition c cause s = loosenKey c MappedKey.lifted cause s) :=
  ⟨fun hv => if_neg (by rw [hv]; exact Bool.false_ne_true), fun hv => if_pos hv⟩

/-- R134. The next state of a chord. -/
theorem chordNext_rows (held matching : Bool) (r : ChordRun) :
    (held = false → chordNext held matching r = ⟨.idle, 0⟩) ∧
    (held = true → r.state = .idle → chordNext held matching r = ⟨if matching then .timing else .spent, 0⟩) ∧
    (held = true → r.state = .timing → chordNext held matching r = if matching then r else ⟨.spent, 0⟩) ∧
    (held = true → r.state = .fired ∨ r.state = .spent → chordNext held matching r = r) := by
  unfold chordNext
  refine ⟨fun h => by rw [h]; rfl, fun h hr => ?_, fun h hr => by rw [h, if_pos rfl, hr], fun h hr => ?_⟩
  · rw [h, if_pos rfl, hr]
    cases matching <;> rfl
  · rw [h, if_pos rfl]
    rcases hr with hr | hr <;> rw [hr]

/-! What a scan hands the key mapper -/

/-- R105. From `s` to `t` the key mapper, the records and what the transmitter sends have moved alone. -/
def MapperMoved (s t : State) : Prop := t = { s with keq := t.keq, fcl := t.fcl, slp := { s.slp with tx := t.slp.tx } }

theorem MapperMoved.trans {s t u : State} (h : MapperMoved s t) (h' : MapperMoved t u) : MapperMoved s u := by
  unfold MapperMoved at *
  rw [h] at h'
  exact h'

theorem MapperMoved.mbs {s t : State} (h : MapperMoved s t) : t.mbs = s.mbs := (congrArg State.mbs h :)
theorem MapperMoved.znc {s t : State} (h : MapperMoved s t) : t.znc = s.znc := (congrArg State.znc h :)
theorem MapperMoved.tsu {s t : State} (h : MapperMoved s t) : t.tsu = s.tsu := (congrArg State.tsu h :)
theorem MapperMoved.tbs {s t : State} (h : MapperMoved s t) : t.tbs = s.tbs := (congrArg State.tbs h :)

theorem RecordsMoved.mapperMoved {s t : State} (h : RecordsMoved s t) : MapperMoved s t := by
  unfold RecordsMoved at h
  generalize t.fcl = f, t.keq.queue = q, t.slp.tx = x at h
  subst h
  rfl

theorem MapperMoved.setKeq {s t : State} (h : MapperMoved s t) (q : Keq) : MapperMoved s (t.setKeq q) := by
  unfold MapperMoved at *
  rw [h]
  rfl

theorem recordsMoved_offer (e : Event) (s : State) : RecordsMoved s (offer e s) := by
  have h := offer_eq e s
  generalize offer e s = t at *
  generalize t.keq.queue = q, t.slp.tx = x at h
  subst h
  rfl

theorem mapperMoved_offerKeyUp (c : Fin 20) (cause : Cause) (s : State) : MapperMoved s (offerKeyUp c cause s) := by
  unfold offerKeyUp
  split
  · exact (recordsMoved_offer _ s).mapperMoved.setKeq _
  · rfl

theorem mapperMoved_loosenKey (c : Fin 20) (f : MappedKey → MappedKey) (cause : Cause) (s : State) :
    MapperMoved s (loosenKey c f cause s) := ((mapperMoved_offerKeyUp c cause s).setKeq _).setKeq _

/-- R129, R130. An offered KEY_DOWN moves marks of its key alone, and not the down mark. -/
theorem offerKeyDown_moved (c : Fin 20) (s : State) : MapperMoved s (offerKeyDown c s) ∧
    (∀ j : Fin 20, j ≠ c → (offerKeyDown c s).keq.keys[j] = s.keq.keys[j]) ∧
    ((offerKeyDown c s).keq.keys[c]).down = (s.keq.keys[c]).down := by
  have hupd : ∀ (f : MappedKey → MappedKey) (e : Event), (∀ k, (f k).down = k.down) →
      MapperMoved s (updKey c f (offer e s)) ∧
      (∀ j : Fin 20, j ≠ c → (updKey c f (offer e s)).keq.keys[j] = s.keq.keys[j]) ∧
      ((updKey c f (offer e s)).keq.keys[c]).down = (s.keq.keys[c]).down := fun f e hf => by
    refine ⟨(recordsMoved_offer e s).mapperMoved.setKeq _, fun j hj => ?_, ?_⟩
    · rw [updKey_key, if_neg (Ne.symm hj), (offer_keys e s).1]
    · rw [updKey_key, if_pos rfl, hf, (offer_keys e s).1]
  unfold offerKeyDown
  dsimp only
  split
  · exact hupd _ _ fun _ => rfl
  · exact hupd _ _ fun _ => rfl
  · exact ⟨rfl, fun _ _ => rfl, rfl⟩

/-- R105, R130, R131. What a transition makes of its key: `k` before it, `m` after. -/
def Handed (t : KeyTransition) (valid : Bool) (k m : MappedKey) : Prop :=
  (t = .none ∨ valid = false → m = k) ∧ (t = .touch → valid = true → m.down = true) ∧
  ∀ cause, t = .release cause → valid = true →
    m.down = false ∧ m.reported = none ∧ m.unreported = false ∧ m.suppressed = false

theorem Handed.none {valid : Bool} {k : MappedKey} {t : KeyTransition} (h : t = .none ∨ valid = false) :
    Handed t valid k k := by
  have hout : t ≠ .none → valid = true → False := fun ht hv => absurd (hv.symm.trans (h.resolve_left ht)) nofun
  exact ⟨fun _ => rfl, fun ht hv => (hout (ht ▸ nofun) hv).elim, fun _ ht hv => (hout (ht ▸ nofun) hv).elim⟩

/-- R130, R131. One transition outside OFF moves its own key and the chords of the key mapper. -/
theorem handTransition_handed (c : Fin 20) (t : KeyTransition) (hs : s.mbs.state ≠ .off) :
    MapperMoved s (handTransition c t s) ∧
    (∀ j : Fin 20, j ≠ c → (handTransition c t s).keq.keys[j] = s.keq.keys[j]) ∧
    Handed t (s.tbs.tables.keymap[c]).valid s.keq.keys[c] (handTransition c t s).keq.keys[c] := by
  cases hv : (s.tbs.tables.keymap[c]).valid with
  | false =>
    have heq : handTransition c t s = s := by
      cases t with
      | none => rfl
      | touch => exact (touchTransition_rows c s).1 hv
      | release cause => exact (releaseTransition_rows c cause s).1 hv
    rw [heq]
    exact ⟨rfl, fun _ _ => rfl, .none (.inr rfl)⟩
  | true =>
    cases t with
    | none => exact ⟨rfl, fun _ _ => rfl, .none (.inl rfl)⟩
    | touch =>
      obtain ⟨-, hsupp, -, hrest⟩ := touchTransition_rows c s
      have hmarked : MapperMoved s (markedDown c s) := rfl
      have hother : ∀ j : Fin 20, j ≠ c → (markedDown c s).keq.keys[j] = s.keq.keys[j] := fun j hj =>
        (updKey_key c j _ s).trans (if_neg (Ne.symm hj))
      have hdown : ((markedDown c s).keq.keys[c]).down = true := by rw [markedDown_key]
      have hstays : MapperMoved s (markedDown c s) ∧
          (∀ j : Fin 20, j ≠ c → (markedDown c s).keq.keys[j] = s.keq.keys[j]) ∧
          Handed .touch true s.keq.keys[c] (markedDown c s).keq.keys[c] :=
        ⟨hmarked, hother, fun h => h.elim nofun nofun, fun _ _ => hdown, nofun⟩
      obtain ⟨hoffered, hothers, hkept⟩ := offerKeyDown_moved c (markedDown c s)
      change MapperMoved s (touchTransition c s) ∧ (∀ j : Fin 20, j ≠ c →
        (touchTransition c s).keq.keys[j] = s.keq.keys[j]) ∧ Handed _ _ _ (touchTransition c s).keq.keys[c]
      cases hk : (s.keq.keys[c]).suppressed with
      | true =>
        rw [hsupp hv hk]
        exact hstays
      | false =>
        rw [hrest hv hk fun h => hs h.1]
        split
        · exact hstays
        · exact ⟨hmarked.trans hoffered, fun j hj => (hothers j hj).trans (hother j hj), fun h => h.elim nofun nofun,
            fun _ _ => hkept.trans hdown, nofun⟩
    | release cause =>
      have hkeys : ∀ j : Fin 20, (loosenKey c MappedKey.lifted cause s).keq.keys[j] =
          if c = j then ((offerKeyUp c cause s).keq.keys[j]).lifted else (offerKeyUp c cause s).keq.keys[j] := fun j =>
        updKey_key c j _ _
      obtain ⟨-, hup⟩ := offerKeyUp_keq c cause s
      change MapperMoved s (releaseTransition c cause s) ∧ (∀ j : Fin 20, j ≠ c →
        (releaseTransition c cause s).keq.keys[j] = s.keq.keys[j]) ∧
        Handed _ _ _ (releaseTransition c cause s).keq.keys[c]
      rw [(releaseTransition_rows c cause s).2 hv]
      refine ⟨mapperMoved_loosenKey c _ cause s, fun j hj => ?_, nofun, nofun, fun _ _ _ => ?_⟩
      · rw [hkeys, if_neg (Ne.symm hj), hup, if_neg fun h => hj h.1.symm]
      · rw [hkeys, if_pos rfl, hup]
        refine ⟨rfl, ?_, rfl, rfl⟩
        split
        · rfl
        next h => exact (by simpa using h : (s.keq.keys[c]).reported = none)

/-- R105. The transitions of a scan, handed in ascending channel order outside OFF: each moves its own key. -/
theorem handTransitions_handed (f : Fin 20 → KeyTransition) (l : List (Fin 20)) (hl : l.Nodup)
    (hs : s.mbs.state ≠ .off) :
    MapperMoved s (l.foldl (fun acc c => handTransition c (f c) acc) s) ∧
    ∀ c : Fin 20, let m := (l.foldl (fun acc c => handTransition c (f c) acc) s).keq.keys[c]
      (c ∉ l → m = s.keq.keys[c]) ∧ (c ∈ l → Handed (f c) (s.tbs.tables.keymap[c]).valid s.keq.keys[c] m) := by
  induction l generalizing s with
  | nil => exact ⟨rfl, fun c => ⟨fun _ => rfl, fun h => absurd h List.not_mem_nil⟩⟩
  | cons d l ih =>
    obtain ⟨hd, hl⟩ := List.nodup_cons.1 hl
    obtain ⟨hmoved, hother, hhanded⟩ := handTransition_handed d (f d) hs
    obtain ⟨hmoved', hkeys⟩ := ih (s := handTransition d (f d) s) hl (by rw [hmoved.mbs]; exact hs)
    refine ⟨hmoved.trans hmoved', fun c => ?_⟩
    obtain ⟨hout, hin⟩ := hkeys c
    rw [hmoved.tbs] at hin
    rw [List.foldl_cons]
    refine ⟨fun hc => ?_, fun hc => ?_⟩
    · rw [List.mem_cons, not_or] at hc
      exact (hout hc.2).trans (hother c hc.1)
    · rcases List.mem_cons.1 hc with rfl | hc
      · rw [hout hd]
        exact hhanded
      · have hne : c ≠ d := fun h => hd (h ▸ hc)
        rw [← hother c hne]
        exact hin hc

/-- R105, R108, R156. The reports of a scan, while F11, F12 and F13 restart nothing and nothing is switched on. -/
theorem recordsMoved_reportScan (before : Tsu) (stuck : List Nat)
    (hr : ∀ k ∈ ([11, 12, 13] : List FaultKind), (reactionInForce s.tbs.tables k).restart = false)
    (hstay : s.mbs.state ≠ .heatHold ∨ s.znc.release = false) : RecordsMoved s (reportScan before stuck s) := by
  have hreports : RecordsMoved s (reportAll 12 stuck (reportAll 13
      (if !before.disagreement && s.tsu.disagreement then [0] else [])
      (reportAll 11 (faultEntries before s.tsu) s))) := by
    have h11 := recordsMoved_reportAll (hr 11 (by decide)) (faultEntries before s.tsu)
    have h13 := h11.trans (recordsMoved_reportAll (k := 13) (by rw [h11.tbs]; exact hr 13 (by decide))
      (if !before.disagreement && s.tsu.disagreement then [0] else []))
    exact h13.trans (recordsMoved_reportAll (k := 12) (by rw [h13.tbs]; exact hr 12 (by decide)) stuck)
  have hended := hreports.trans (recordsMoved_conditionChanged 11 (.inr (by
    rw [hreports.mbs, hreports.znc]
    exact hstay)))
  exact hended.trans (recordsMoved_conditionChanged 13 (.inr (by
    rw [hended.mbs, hended.znc]
    exact hstay)))

theorem clearIdleSuppressed_key (c : Fin 20) (s : State) : (clearIdleSuppressed s).keq.keys[c] =
    { s.keq.keys[c] with suppressed := (s.keq.keys[c]).suppressed && (s.tsu.keys[c]).state != .idle } :=
  Vector.getElem_ofFn c.isLt

end

theorem bne_idle (x : KeyState) : (x != .idle) = !decide (x = .idle) := by cases x <;> rfl

/-- R105. A scan outside OFF that switches nothing on, while its faults restart nothing. -/
theorem scanInstant_moved (raw : Vector (BitVec 16) 22) {s : State} (hoff : s.mbs.state ≠ .off)
    (hstay : s.mbs.state ≠ .heatHold ∨ s.znc.release = false)
    (hr : ∀ k ∈ ([11, 12, 13] : List FaultKind), (reactionInForce s.tbs.tables k).restart = false) :
    MapperMoved (s.setTsu (scanned raw s)) (scanInstant raw s) ∧
    ∀ c : Fin 20, ∃ k, Handed (scanKey raw s c).2 (s.tbs.tables.keymap[c]).valid s.keq.keys[c] k ∧
      (scanInstant raw s).keq.keys[c] =
        { k with suppressed := k.suppressed && ((scanned raw s).keys[c]).state != .idle } := by
  obtain ⟨hmoved, hkeys⟩ := handTransitions_handed (s := s.setTsu (scanned raw s)) (fun c => (scanKey raw s c).2)
    (List.finRange 20) (List.nodup_finRange 20) hoff
  unfold scanInstant
  dsimp only at hkeys ⊢
  generalize List.foldl _ _ (List.finRange 20) = u at *
  have hreports := recordsMoved_reportScan s.tsu (stuckKeys raw s) (s := u) (by rw [hmoved.tbs]; exact hr)
    (by rw [hmoved.mbs, hmoved.znc]; exact hstay)
  generalize reportScan s.tsu (stuckKeys raw s) u = v at *
  refine ⟨((hmoved.trans hreports.mapperMoved).setKeq _).setKeq _, fun c => ⟨_, (hkeys c).2 (List.mem_finRange c), ?_⟩⟩
  rw [clearIdleSuppressed_key, hreports.keys, hreports.tsu, hmoved.tsu]
  rfl

/-- Settles O48: by the rows of the two transitions and of a chord, and by the fold of a scan's transitions. -/
theorem keysAndChordsFollowTheirTransitions : Obligations.KeysAndChordsFollowTheirTransitions := by
  refine ⟨fun c s => ?_, fun c cause s => ?_, chordNext_rows, fun raw s hp hscan hoff hstay hr => ?_⟩
  · obtain ⟨hinvalid, hsupp, hwake, hrest⟩ := touchTransition_rows c s
    obtain ⟨hdiscarded, hadmitted, hrefused⟩ := offerKeyDown_rows c s
    dsimp only
    refine ⟨hinvalid, fun hv hs => hsupp hv hs, fun hv hs hw => ?_, fun hv hs hw hl => ?_, fun hv hs hl ha htx => ?_⟩
    · rw [hwake hv hs hw]
      obtain ⟨hkeys, hrest⟩ := wake_key (s := markedDown c s) c hw.1
      exact ⟨by rw [hkeys, markedDown_key], hrest⟩
    · rw [hrest hv hs hw]
      split
      · rfl
      next hn => exact hdiscarded (hl.resolve_left hn)
    · have hw : ¬(s.mbs.state = .off ∧ (s.tbs.tables.keymap[c]).wake = true) := fun h => by
        rw [h.1] at ha
        exact absurd ha (by decide)
      rw [hrest hv hs hw, if_neg (by rw [hl]; exact Bool.false_ne_true)]
      exact ⟨fun hroom => hadmitted ha htx hroom, fun q x hroom hq => hrefused q x ha hroom hq⟩
  · obtain ⟨hinvalid, hvalid⟩ := releaseTransition_rows c cause s
    have hchords := releaseTransition_chords c cause s
    refine ⟨hinvalid, fun hv hk => ?_, fun code hv hk ha htx => ?_⟩
    · dsimp only
      rw [hvalid hv, loosenKey_unreported cause hk, hchords]
      rfl
    · dsimp only
      rw [hvalid hv, loosenKey_reported cause hk ha htx, hchords]
      rfl
  · have hexec : exec (.scan raw) s = .next (drivePins (scanInstant raw s)) :=
      (whenPowered_on s _ hp).trans (by rw [if_pos hscan])
    obtain ⟨hmoved, hkeys⟩ := scanInstant_moved raw hoff hstay hr
    generalize scanInstant raw s = u at *
    have htsu := hmoved.tsu
    refine ⟨_, hexec, ?_, fun c => ?_⟩
    · unfold MapperMoved at hmoved
      generalize u.keq = q, u.fcl = f, u.slp.tx = x at hmoved
      subst hmoved
      rfl
    · obtain ⟨k, ⟨hnone, htouch, hrelease⟩, hkey⟩ := hkeys c
      have htstate : (drivePins u).tsu.keys[c] = (scanned raw s).keys[c] := congrArg (fun t : Tsu => t.keys[c]) htsu
      have hdriven : (drivePins u).keq.keys[c] = u.keq.keys[c] := rfl
      dsimp only
      rw [hdriven, htstate, hkey]
      refine ⟨fun h => ?_, fun ht hv => htouch ht hv, fun cause ht hv => ?_⟩
      · rw [hnone h, bne_idle]
      · obtain ⟨hdown, hreported, hunreported, hsuppressed⟩ := hrelease cause ht hv
        exact ⟨hdown, hreported, hunreported, by rw [hsuppressed, Bool.false_and]⟩

end Sys2Proof.Machine
end

section
/-! SUPPORT. What keeps the history in order (R87, R88, R98), operation by operation: departures, wakes and marks push
an entry with the next ordinal, and all else leaves entries and ordinal as they are. -/

namespace Sys2Proof.Machine

/-! What the invariant reads -/

section
variable {s t : State}

/-- The invariant reads the entries and the next ordinal alone. -/
theorem HistoryOk.of_entries (h : HistoryOk s) (he : t.rhs.entries = s.rhs.entries)
    (hn : t.rhs.nextOrdinal = s.rhs.nextOrdinal) : HistoryOk t := by
  unfold HistoryOk
  rw [he, hn]
  exact h

theorem HistoryOk.of_rhs (h : HistoryOk s) (e : t.rhs = s.rhs) : HistoryOk t :=
  h.of_entries (congrArg Rhs.entries e) (congrArg Rhs.nextOrdinal e)

/-- R98. An empty history is in order, whatever ordinal comes next. -/
theorem historyOk_of_empty (he : s.rhs.entries = []) : HistoryOk s := by
  unfold HistoryOk
  rw [he]
  exact ⟨Nat.zero_le _, nofun⟩

/-- R87, R88. An entry pushed under the next ordinal leaves each older one a depth deeper, one further below the next
ordinal, but for the oldest of a full stack. -/
theorem HistoryOk.push (h : HistoryOk s) {stamp since : Nat} {body : HistoryBody}
    (e : t.rhs = ⟨(⟨s.rhs.nextOrdinal, stamp, body⟩ :: s.rhs.entries).take Config.historyDepth,
      s.rhs.nextOrdinal + 1, since⟩) : HistoryOk t := by
  obtain ⟨-, hord⟩ := h
  unfold HistoryOk
  rw [e]
  refine ⟨List.length_take_le _ _, fun i x hx => ?_⟩
  have hlt : i < Config.historyDepth := (List.getElem?_eq_some_iff.1 hx).1.trans_le (List.length_take_le _ _)
  rw [List.getElem?_take_of_lt hlt] at hx
  cases i with
  | zero =>
    cases hx
    exact BitVec.add_zero _
  | succ i =>
    have hold : x.ordinal + 1 + BitVec.ofNat 16 i = s.rhs.nextOrdinal := hord i x hx
    rw [BitVec.ofNat_add, ← BitVec.add_assoc, hold]
    rfl

end

section
variable {s : State}

/-! Departures and wakes -/

theorem historyOk_pushHistory (body : HistoryBody) (h : HistoryOk s) : HistoryOk (pushHistory body s) :=
  h.push (pushHistory_rhs body s)

theorem historyOk_pushWake (cause : Cause) (d : Nat) (stage : Stage) (m : MbsState) (h : HistoryOk s) :
    HistoryOk (pushWake cause d stage m s) := historyOk_pushHistory _ h

theorem historyOk_depart (cause : Cause) (d : Nat) (stage : Stage) (h : HistoryOk s) :
    HistoryOk (depart cause d stage s) := h.push (depart_rhs cause d stage s)

theorem historyOk_wake (cause : Cause) (d : Nat) (h : HistoryOk s) : HistoryOk (wake cause d s) :=
  h.push (wake_rhs cause d s)

theorem historyOk_restartDecision (cause : Cause) (d : Nat) (h : HistoryOk s) :
    HistoryOk (restartDecision cause d s) := by
  unfold restartDecision
  dsimp only
  (repeat' split)
  · exact historyOk_depart _ _ _ (h.of_rhs (by simp))
  · exact historyOk_depart _ _ _ (h.of_rhs rfl)
  · exact h

theorem historyOk_requestedRestart (cause : Cause) (d : Nat) (stage : Stage) (h : HistoryOk s) :
    HistoryOk (requestedRestart cause d stage s) := by
  unfold requestedRestart
  split
  · exact historyOk_depart _ _ _ (h.of_rhs rfl)
  · exact h

theorem historyOk_report (k : FaultKind) (d : Nat) (h : HistoryOk s) : HistoryOk (report k d s) := by
  have hr : HistoryOk (recordOccurrence k d s) := h.of_rhs (by simp)
  unfold report
  dsimp only
  split
  · exact historyOk_restartDecision _ _ hr
  · exact hr

theorem historyOk_reportAll (k : FaultKind) (l : List Nat) (h : HistoryOk s) : HistoryOk (reportAll k l s) := by
  unfold reportAll
  induction l generalizing s with
  | nil => exact h
  | cons d l ih => exact ih (historyOk_report k d h)

theorem historyOk_wakeKey (c : Fin 20) (h : HistoryOk s) : HistoryOk (wakeKey c s) := by
  unfold wakeKey
  split
  · exact historyOk_wake _ _ h
  · exact h

theorem historyOk_powerOnChord (i : Fin 8) (h : HistoryOk s) : HistoryOk (powerOnChord i s) := by
  unfold powerOnChord
  split
  · exact historyOk_wake _ _ h
  · exact h

theorem historyOk_powerOffChord (i : Fin 8) (h : HistoryOk s) : HistoryOk (powerOffChord i s) := by
  unfold powerOffChord
  split
  case h_1 => exact h
  case h_2 | h_3 => exact h.of_rhs (by simp)
  case h_4 =>
    exact (historyOk_pushWake .chord i.val .off .lockout
      (h.of_rhs (t := s.setMbs { s.mbs with count := 0 }) rfl)).of_rhs (by simp)
  all_goals exact historyOk_depart _ _ _ h

/-! The supervisor's events -/

theorem historyOk_pgLow (h : HistoryOk s) : HistoryOk (pgLow s) := by
  unfold pgLow
  dsimp only
  (repeat' split)
  · exact historyOk_restartDecision _ _ (historyOk_report _ _ (h.of_rhs rfl))
  all_goals exact h.of_rhs rfl

theorem historyOk_heartbeatExpired (h : HistoryOk s) : HistoryOk (heartbeatExpired s) := by
  unfold heartbeatExpired
  (repeat' split)
  · exact h.of_rhs (by simp)
  · exact historyOk_restartDecision _ _ (historyOk_report _ _ h)
  · exact historyOk_restartDecision _ _ (historyOk_report _ _ h)
  · exact h

theorem historyOk_shutdownExpired (h : HistoryOk s) : HistoryOk (shutdownExpired s) := by
  unfold shutdownExpired
  split
  · exact historyOk_depart _ _ _ h
  · exact h

/-! Time and expiries -/

theorem historyOk_elapse (n : Nat) (h : HistoryOk s) : HistoryOk (elapse n s) :=
  h.of_entries (elapse_rhs n s).1 (elapse_rhs n s).2

theorem historyOk_boardExpiry {e : BoardExpiry} (he : e ∈ boardExpiries) (h : HistoryOk s) : HistoryOk (e.act s) := by
  simp only [boardExpiries, List.mem_cons, List.not_mem_nil, or_false] at he
  rcases he with rfl | rfl | rfl | rfl | rfl | rfl | rfl
  · exact historyOk_shutdownExpired h
  · exact historyOk_restartDecision _ _ (historyOk_report _ _ h)
  · exact h.of_rhs (by simp)
  · exact historyOk_restartDecision _ _ (historyOk_report _ _ h)
  · exact historyOk_heartbeatExpired h
  · exact h.of_rhs (by simp)
  · exact historyOk_wake _ _ h

theorem historyOk_settle (c : Instr) (u : State) (h : HistoryOk s) : HistoryOk (settle c u s) := by
  unfold settle
  refine List.foldlRecOn boardExpiries _ h fun t ht e he => ?_
  split
  · exact historyOk_boardExpiry he ht
  · exact ht

theorem historyOk_expire (c : Instr) (left : Option Nat) {act : State → State}
    (hact : ∀ {u}, HistoryOk u → HistoryOk (act u)) (h : HistoryOk s) : HistoryOk (expire c left act s) := by
  unfold expire
  (repeat' split)
  · exact historyOk_settle _ _ (hact (historyOk_elapse _ h))
  all_goals exact h

/-- R66 to R84. The expiry command of a supervisor timer. -/
theorem historyOk_expire_board {e : BoardExpiry} (he : e ∈ boardExpiries) (h : HistoryOk s) :
    HistoryOk (expire e.cmd (e.timer s.mbs) e.act s) :=
  historyOk_expire _ _ (historyOk_boardExpiry he) h

/-! Keys and chords -/

theorem historyOk_touchTransition (c : Fin 20) (h : HistoryOk s) : HistoryOk (touchTransition c s) := by
  have hdown : HistoryOk (syncChords (updKey c (fun k => { k with down := true }) s)) := h.of_rhs rfl
  unfold touchTransition
  dsimp only
  (repeat' split)
  · exact hdown
  · exact historyOk_wakeKey c hdown
  · exact hdown
  · exact hdown.of_rhs (by simp)
  · exact h

theorem historyOk_handTransition (c : Fin 20) (t : KeyTransition) (h : HistoryOk s) :
    HistoryOk (handTransition c t s) := by
  cases t with
  | none => exact h
  | touch => exact historyOk_touchTransition c h
  | release cause => exact h.of_rhs (by simp [handTransition])

theorem historyOk_conditionChanged (k : FaultKind) (h : HistoryOk s) : HistoryOk (conditionChanged k s) :=
  h.of_rhs (by simp)

theorem historyOk_reportScan (before : Tsu) (stuck : List Nat) (h : HistoryOk s) :
    HistoryOk (reportScan before stuck s) :=
  historyOk_conditionChanged _ (historyOk_conditionChanged _ (historyOk_reportAll _ _ (historyOk_reportAll _ _
    (historyOk_reportAll _ _ h))))

theorem historyOk_scanInstant (raw : Vector (BitVec 16) 22) (h : HistoryOk s) : HistoryOk (scanInstant raw s) := by
  have hhanded : HistoryOk ((List.finRange 20).foldl (fun u c => handTransition c (scanKey raw s c).2 u)
      (s.setTsu (scanned raw s))) :=
    List.foldlRecOn (List.finRange 20) _ (h.of_rhs rfl) fun _ hu c _ => historyOk_handTransition c _ hu
  exact (historyOk_reportScan s.tsu (stuckKeys raw s) hhanded).of_rhs (by simp [scanInstant])

theorem historyOk_chordAction (i : Fin 8) (a : ChordAction) (h : HistoryOk s) : HistoryOk (chordAction i a s) := by
  cases a with
  | restart | cycle => exact historyOk_requestedRestart _ _ _ h
  | powerOff => exact historyOk_powerOffChord i h
  | powerOn => exact historyOk_powerOnChord i h
  | heatOverride => exact h.of_rhs (by simp only [chordAction, overrideHeat]; split <;> rfl)
  | report => exact h

theorem historyOk_fireUpTo (i : Fin 8) (h : HistoryOk s) : HistoryOk (fireUpTo i s) := by
  refine List.foldlRecOn _ _ h fun u hu j _ => ?_
  unfold fireIfDue
  split
  · exact historyOk_chordAction j _ (hu.of_rhs (by simp [markFired]))
  · exact hu

/-! Conversions, the filter window, periods and the fan -/

theorem historyOk_reportFilter (l : Option Nat) (h : HistoryOk s) : HistoryOk (reportFilter l s) := by
  cases l with
  | none => exact h
  | some d => exact historyOk_report _ _ h

theorem historyOk_filterEnd (h : HistoryOk s) : HistoryOk (filterEnd s) := historyOk_reportFilter _ (h.of_rhs rfl)

theorem historyOk_countFilterSet (h : HistoryOk s) : HistoryOk (countFilterSet s) := by
  unfold countFilterSet
  dsimp only
  (repeat' split)
  · exact h
  · exact historyOk_reportFilter _ (h.of_rhs rfl)
  · exact h.of_rhs rfl

theorem historyOk_handRelease (r : Bool) (h : HistoryOk s) : HistoryOk (handRelease r s) := h.of_rhs (by simp)

theorem historyOk_secondBoundary (h : HistoryOk s) : HistoryOk (secondBoundary s) := by
  have hset : HistoryOk (recomputeFan (measureSpeed (zoneComputation
      (s.setTmu (s.tmu.boundary (validPoints s.tbs.tables.curve)))))) :=
    h.of_rhs (by simp [measureSpeed, zoneComputation, computeTimers, computeCutOuts])
  exact historyOk_handRelease _ (historyOk_conditionChanged 8 (historyOk_reportAll 8 _ (historyOk_countFilterSet hset)))

theorem historyOk_conversionInstant (codes : Vector (BitVec 12) 4) (h : HistoryOk s) :
    HistoryOk (conversionInstant codes s) := by
  have hconverted := historyOk_conditionChanged 5 (historyOk_reportAll 5 (newlyFailed s.tmu (s.tmu.convert codes))
    (h.of_rhs (t := s.setTmu (s.tmu.convert codes)) rfl))
  unfold conversionInstant
  dsimp only
  split
  · exact historyOk_secondBoundary hconverted
  · exact hconverted

theorem historyOk_closePeriods (peaks : Fin 3 → Nat) (h : HistoryOk s) : HistoryOk (closePeriods peaks s) :=
  historyOk_conditionChanged _ (historyOk_conditionChanged _ (historyOk_reportAll _ _ (h.of_rhs (by simp))))

theorem historyOk_openPeriods (h : HistoryOk s) : HistoryOk (openPeriods s) := h.of_rhs rfl

theorem historyOk_heaterTrip (i : Fin 3) (current : Nat) (h : HistoryOk s) : HistoryOk (heaterTrip i current s) := by
  have hreported := historyOk_report 6 i.val (h.of_rhs (t := noteTrip i s) rfl)
  unfold heaterTrip actOnTrip
  dsimp only
  (repeat' split)
  · exact hreported.of_rhs (by simp)
  · exact hreported.of_rhs rfl
  · exact h

theorem historyOk_tachPulse (h : HistoryOk s) : HistoryOk (tachPulse s) := by
  unfold tachPulse
  dsimp only
  (repeat' split)
  · exact h.of_rhs rfl
  · exact historyOk_conditionChanged 9 (h.of_rhs rfl)
  · exact h.of_rhs rfl

theorem historyOk_stallFan (h : HistoryOk s) : HistoryOk (stallFan s) := historyOk_report 9 0 (h.of_rhs rfl)

end

end Sys2Proof.Machine
end

section
/-! Every step keeps the history in order (R87, R88, R98). -/

namespace Sys2Proof.Machine

section
variable {s : State}

/-! Table changes -/

/-- R181. A change notice reaches the history by the restart alone that an F8 or F5 occurrence may decide. -/
theorem historyOk_notice (t : Nat) (old : Tables) (named : List Nat) (h : HistoryOk s) :
    HistoryOk (notice t old named s) := by
  by_cases hheat : t = 2
  · subst hheat
    unfold notice
    split
    · exact h
    · exact historyOk_conditionChanged 8 (historyOk_reportAll 8 _ (h.of_rhs (by simp [zonesChanged])))
  by_cases hcurve : t = 4
  · subst hcurve
    unfold notice
    split
    · exact h
    · exact historyOk_conditionChanged 5 (historyOk_reportAll 5 _ (h.of_rhs rfl))
  exact h.of_rhs (notice_rhs s hheat hcurve old named)

theorem historyOk_changeTables (t : Fin 7) (T : Tables) (named : List Nat) (h : HistoryOk s) :
    HistoryOk (changeTables t T named s) := historyOk_notice _ _ _ (h.of_rhs rfl)

/-! Requests -/

theorem historyOk_reply (kind tag : Byte) (st : Status) (items : List Byte) (h : HistoryOk s) :
    HistoryOk (reply kind tag st items s) := h.of_rhs (by simp)

theorem historyOk_refuse (kind tag : Byte) (h : HistoryOk s) (st : Status) : HistoryOk (refuse kind tag st s) :=
  historyOk_reply _ _ _ _ h

theorem historyOk_serveHeartbeat (tag : Byte) (p : List Byte) (h : HistoryOk s) :
    HistoryOk (serveHeartbeat tag p s) := by
  refine withOneByte_induction HistoryOk (historyOk_refuse _ _ h) fun a => ?_
  unfold heartbeatToken acceptHeartbeat
  dsimp only
  (repeat' split) <;> exact h.of_rhs (by simp [refuse])

theorem historyOk_serveTableWrite (tag : Byte) (p : List Byte) (h : HistoryOk s) :
    HistoryOk (serveTableWrite tag p s) := by
  unfold serveTableWrite writeTable writeUnlocked
  (repeat' split) <;> try exact historyOk_refuse _ _ h _
  exact historyOk_changeTables _ _ _ (historyOk_reply _ _ _ _ h)

theorem historyOk_serveTableInvalidate (tag : Byte) (p : List Byte) (h : HistoryOk s) :
    HistoryOk (serveTableInvalidate tag p s) := by
  refine withThreeBytes_induction HistoryOk (historyOk_refuse _ _ h) fun t first extra => ?_
  unfold invalidateTable
  (repeat' split) <;> try exact historyOk_refuse _ _ h _
  exact checkedRequest_induction HistoryOk (historyOk_refuse _ _ h)
    (historyOk_changeTables _ _ _ (historyOk_reply _ _ _ _ h))

theorem historyOk_servePowerRequest (tag : Byte) (p : List Byte) (h : HistoryOk s) :
    HistoryOk (servePowerRequest tag p s) := by
  refine withTwoBytes_induction HistoryOk (historyOk_refuse _ _ h) fun a b =>
    checkedRequest_induction HistoryOk (historyOk_refuse _ _ h) ?_
  have hr : HistoryOk (reply 0x20 tag .ok [] s) := historyOk_reply _ _ _ _ h
  unfold powerAction
  split
  · exact historyOk_requestedRestart _ _ _ hr
  · exact historyOk_requestedRestart _ _ _ hr
  · exact hr.of_rhs rfl

/-- R97. A mark is an entry pushed. -/
theorem historyOk_serveHistoryMark (tag : Byte) (p : List Byte) (h : HistoryOk s) :
    HistoryOk (serveHistoryMark tag p s) :=
  checkedRequest_induction HistoryOk (historyOk_refuse _ _ h) (historyOk_pushHistory _ (historyOk_reply _ _ _ _ h))

/-- R98. A clear leaves the ordinal and no entry. -/
theorem historyOk_serveHistoryClear (tag : Byte) (p : List Byte) (h : HistoryOk s) :
    HistoryOk (serveHistoryClear tag p s) :=
  withNoPayload_induction HistoryOk (historyOk_refuse _ _ h) (historyOk_of_empty rfl)

theorem historyOk_clearFaults (kind : Nat) (h : HistoryOk s) : HistoryOk (clearFaults kind s) := by
  unfold clearFaults
  dsimp only
  split <;> exact h.of_rhs (by simp [clearRecords, releaseHeaters])

theorem historyOk_serveFaultClear (tag : Byte) (p : List Byte) (h : HistoryOk s) :
    HistoryOk (serveFaultClear tag p s) :=
  withOneByte_induction HistoryOk (historyOk_refuse _ _ h) fun _ =>
    checkedRequest_induction HistoryOk (historyOk_refuse _ _ h) (historyOk_clearFaults _ (historyOk_reply _ _ _ _ h))

/-- R173. A request of whatever KIND. -/
theorem historyOk_serveKind (kind tag : Byte) (p : List Byte) (h : HistoryOk s) :
    HistoryOk (serveKind kind tag p s) := by
  have hr := fun kind items => historyOk_reply kind tag .ok items h
  have hn := fun kind => historyOk_refuse kind tag h
  unfold serveKind
  split
  case h_1 => exact withNoPayload_induction HistoryOk (hn _) (hr _ _)
  case h_2 => exact historyOk_serveHeartbeat tag p h
  case h_3 | h_16 => exact withOneByte_induction HistoryOk (hn _) fun _ =>
    checkedRequest_induction HistoryOk (hn _) (hr _ _)
  case h_4 => exact withThreeBytes_induction HistoryOk (hn _) fun _ _ _ =>
    checkedRequest_induction HistoryOk (hn _) (hr _ _)
  case h_5 => exact historyOk_serveTableWrite tag p h
  case h_6 => exact historyOk_serveTableInvalidate tag p h
  case h_7 => exact withTwoBytes_induction HistoryOk (hn _) fun _ _ =>
    checkedRequest_induction HistoryOk (hn _) ((hr _ _).of_rhs rfl)
  case h_8 =>
    refine withNoPayload_induction HistoryOk (hn _) ?_
    unfold saveStore
    split
    · exact hn _ _
    · exact (hr _ _).of_rhs rfl
  case h_9 => exact historyOk_servePowerRequest tag p h
  case h_10 =>
    refine withTwoBytes_induction HistoryOk (hn _) fun _ _ => checkedRequest_induction HistoryOk (hn _) ?_
    unfold readDepth
    (repeat' split) <;> exact historyOk_reply _ _ _ _ h
  case h_11 => exact historyOk_serveHistoryMark tag p h
  case h_12 => exact historyOk_serveHistoryClear tag p h
  case h_13 =>
    refine withThreeBytes_induction HistoryOk (hn _) fun _ _ _ => ?_
    unfold panelLevel
    split
    · exact checkedRequest_induction HistoryOk (hn _) (historyOk_reply _ _ _ _ (h.of_rhs rfl))
    · exact hn _ _
  case h_14 =>
    refine withOneByte_induction HistoryOk (hn _) fun _ => ?_
    unfold readFault
    split
    · exact hr _ _
    · exact hn _ _
  case h_15 => exact historyOk_serveFaultClear tag p h
  case h_17 => exact hn _ _

/-! The link and the store -/

theorem historyOk_saveCompletion (verified : Bool) (h : HistoryOk s) : HistoryOk (saveCompletion verified s) := by
  unfold saveCompletion
  (repeat' split)
  · exact h.of_rhs (by simp [saveMatched, offerStore])
  · exact (historyOk_report 14 1 (h.of_rhs (t := s.setTbs { s.tbs with
      store := .idle, result := .failed, image := .rejected, changed := tab fun _ => true }) rfl)).of_rhs
      (by simp [saveMismatched, offerStore])
  · exact h

theorem historyOk_takeRequest {serve : State → State} (hs : ∀ {u}, HistoryOk u → HistoryOk (serve u))
    (h : HistoryOk s) : HistoryOk (takeRequest serve s) := by
  have hr : HistoryOk (rxTaken s) := h.of_rhs rfl
  unfold takeRequest
  split
  · exact historyOk_report 0 4 hr
  · exact hs hr

theorem historyOk_enterResync (d : Nat) (h : HistoryOk s) : HistoryOk (enterResync d s) :=
  historyOk_report 0 d (h.of_rhs rfl)

theorem historyOk_checkFrame (h : HistoryOk s) : HistoryOk (checkFrame s) := by
  unfold checkFrame
  (repeat' split)
  · exact historyOk_takeRequest (historyOk_serveKind _ _ _) h
  · exact h
  · exact historyOk_enterResync 3 h

theorem historyOk_goodChar (b : Byte) (h : HistoryOk s) : HistoryOk (goodChar b s) := by
  have hb : HistoryOk (lineBusy s) := h.of_rhs rfl
  unfold goodChar takeHunt takeLength takeBody
  dsimp only
  (repeat' split)
  case h_2.isFalse => exact historyOk_enterResync 0 hb
  case h_3.isTrue => exact historyOk_checkFrame (hb.of_rhs rfl)
  all_goals exact hb.of_rhs rfl

/-! Power -/

/-- R90. At power-on the history holds the entry of the load alone. -/
theorem historyOk_powerOn (rate : Bool) (image : Image) (pending : List Instr) :
    HistoryOk (powerOn rate image pending) := by
  have h0 : ∀ T load, HistoryOk (State.atPowerOn rate T load image pending) := fun T load => by
    refine ⟨Nat.one_le_ofNat, fun i e he => ?_⟩
    cases i with
    | zero => cases he; rfl
    | succ i => cases he
  cases hl : image.load with
  | none =>
    rw [powerOn_unusable hl]
    exact (h0 defaultTables .defaults).of_rhs (by simp)
  | some T =>
    obtain ⟨-, -, -, hrhs, -⟩ := powerOn_usable_blocks hl rate pending
    exact (h0 T .retained).of_rhs hrhs

/-! Commands -/

theorem historyOk_commandEffect (c : Instr) (h : HistoryOk s) : HistoryOk (commandEffect c s) := by
  have hboard := fun {e : BoardExpiry} (he : e ∈ boardExpiries) => historyOk_expire_board he h
  have hrequest : ∀ kind tag p, HistoryOk (takeRequest (serveKind kind tag p) s) := fun kind tag p =>
    historyOk_takeRequest (historyOk_serveKind kind tag p) h
  cases c with
  | partPowerOn | partPowerOff => exact h
  | conversionInstant => exact historyOk_conversionInstant _ h
  | suspectTimerExpiry i =>
    rw [commandEffect, suspectExpiry]
    split
    · exact historyOk_conversionInstant _ h
    · exact h
  | filterWindowEnd => exact historyOk_filterEnd h
  | periodStart => exact historyOk_openPeriods (historyOk_closePeriods _ h)
  | heaterTrip => exact historyOk_heaterTrip _ _ h
  | heaterOnTimeEnd =>
    rw [commandEffect, onTimeEnd]
    exact h.of_rhs (by dsimp only; split <;> rfl)
  | fanTachPulse => exact historyOk_tachPulse h
  | stallTimerExpiry => exact historyOk_expire _ _ historyOk_stallFan h
  | mainPgHigh =>
    rw [commandEffect, pgHigh]
    exact h.of_rhs (by dsimp only; split <;> rfl)
  | powerGoodLoss => exact historyOk_pgLow h
  | pendingShutdownExpiry => exact hboard (.head _)
  | pgTimeout => exact hboard (.tail _ (.head _))
  | resetPulseExpiry => exact hboard (.tail _ (.tail _ (.head _)))
  | bootTimeout => exact hboard (.tail _ (.tail _ (.tail _ (.head _))))
  | heartbeatExpiry => exact hboard (.tail _ (.tail _ (.tail _ (.tail _ (.head _)))))
  | cycleTimerExpiry => exact hboard (.tail _ (.tail _ (.tail _ (.tail _ (.tail _ (.head _))))))
  | lockoutRetryExpiry => exact hboard (.tail _ (.tail _ (.tail _ (.tail _ (.tail _ (.tail _ (.head _)))))))
  | stableTimeReached => exact historyOk_expire _ _ (fun hu => hu.of_rhs rfl) h
  | scan raw =>
    rw [commandEffect]
    dsimp only
    split
    · exact historyOk_scanInstant raw h
    · exact h
  | stuckTimerExpiry => exact historyOk_expire _ _ (historyOk_scanInstant _) h
  | repeatDue c =>
    exact historyOk_expire _ _ (fun hu => hu.of_rhs (by
      unfold repeatFires repeatKey; dsimp only; (repeat' split) <;> simp)) h
  | chordFire => exact historyOk_expire _ _ (historyOk_fireUpTo _) h
  | ident tag p => exact hrequest 0x01 tag p
  | heartbeat tag p => exact hrequest 0x02 tag p
  | statusRead tag p => exact hrequest 0x03 tag p
  | tableRead tag p => exact hrequest 0x10 tag p
  | tableWrite tag p => exact hrequest 0x11 tag p
  | tableInvalidate tag p => exact hrequest 0x12 tag p
  | tableLock tag p => exact hrequest 0x13 tag p
  | storeSave tag p => exact hrequest 0x14 tag p
  | powerRequest tag p => exact hrequest 0x20 tag p
  | historyRead tag p => exact hrequest 0x30 tag p
  | historyMark tag p => exact hrequest 0x31 tag p
  | historyClear tag p => exact hrequest 0x32 tag p
  | panelSet tag p => exact hrequest 0x40 tag p
  | faultRead tag p => exact hrequest 0x50 tag p
  | faultClear tag p => exact hrequest 0x51 tag p
  | touchRead tag p => exact hrequest 0x60 tag p
  | unknownKind kind tag =>
    rw [commandEffect]
    split
    · exact h
    · exact historyOk_takeRequest (fun hu => historyOk_refuse _ _ hu _) h
  | badLengthByte len =>
    rw [commandEffect, badLength]
    split
    · exact historyOk_enterResync 0 (h.of_rhs rfl)
    · exact h
  | badCharacter =>
    rw [commandEffect, badChar]
    split
    · exact historyOk_enterResync 2 (h.of_rhs rfl)
    · exact h.of_rhs rfl
  | gapTimeout =>
    rw [commandEffect, gapExpired]
    split
    · exact historyOk_enterResync 1 (h.of_rhs rfl)
    · exact h
  | crcMismatch => exact historyOk_enterResync 3 (h.of_rhs rfl)
  | resyncIdle =>
    rw [commandEffect, idleLine]
    exact h.of_rhs (by split <;> rfl)
  | overrun =>
    rw [commandEffect, overrun]
    split
    · exact historyOk_report 0 4 (h.of_rhs rfl)
    · exact h
  | txFrameEnd =>
    rw [commandEffect, txEnd]
    exact h.of_rhs (by split <;> simp)
  | saveCompletion verified => exact historyOk_saveCompletion verified h
  | goodCharacter b => exact historyOk_goodChar b h

theorem historyOk_exec (c : Instr) {t : State} (h : HistoryOk s) (ht : exec c s = .next t) : HistoryOk t := by
  by_cases hon : ∃ r, c = .partPowerOn r
  · obtain ⟨rate, rfl⟩ := hon
    cases ht
    exact (historyOk_powerOn rate (imageAfterLoss s.tbs) s.pending).of_rhs (by simp)
  by_cases hoff : c = .partPowerOff
  · subst hoff
    cases ht
    split
    · exact historyOk_of_empty rfl
    · exact h
  rw [exec_eq_effect c s (fun r hr => hon ⟨r, hr⟩) hoff, whenPowered] at ht
  split at ht <;> cases ht
  · exact (historyOk_commandEffect c h).of_rhs (by simp)
  · exact h

/-- While no command waits at most a tick passes. -/
theorem historyOk_idle (h : HistoryOk s) : HistoryOk (idle s) := by
  unfold idle
  (repeat' split)
  · exact h.of_rhs rfl
  · exact historyOk_elapse 1 h
  · exact h

end

/-- Settles O12: a step runs the front command, or idles. -/
theorem everyStepKeepsTheHistoryInOrder : Obligations.EveryStepKeepsTheHistoryInOrder := by
  intro s t h ht
  unfold step at ht
  split at ht
  next c rest _ => exact historyOk_exec c (h.of_rhs (t := { s with pending := rest }) rfl) ht
  next =>
    cases ht
    exact historyOk_idle h

end Sys2Proof.Machine
end

section
/-! HISTORY MARK and HISTORY CLEAR that meet a free reply buffer (R97, R98), and a loss of supply (R90, R140, R179,
R192). -/

namespace Sys2Proof.Machine

/-! Marking and clearing -/

/-- R97. The mark's length, then its state. -/
theorem serveHistoryMark_eq {bytes : List Byte} (hl : bytes.length = 8) (tag : Byte) (u : State) :
    serveHistoryMark tag bytes u =
      if u.mbs.state.takesMark then markHistory tag bytes u else refuse 0x31 tag .state u := by
  unfold serveHistoryMark checkedRequest
  cases u.mbs.state.takesMark <;> simp [hl]

/-- R97. -/
theorem takesMark_iff {m : MbsState} : m.takesMark = true ↔ m = .run ∨ m = .warn := by cases m <;> decide

/-- R97, R87 to R89. A permitted mark answers with the ordinal that its entry takes. -/
theorem markHistory_rxTaken (s : State) (tag : Byte) (bytes : List Byte) : markHistory tag bytes (rxTaken s) = { s with
    slp := s.slp.answered (replyFrame 0xB1 tag 0 (be16 s.rhs.nextOrdinal.toNat))
    rhs := ⟨(⟨s.rhs.nextOrdinal, s.tick % 65536, .mark bytes⟩ :: s.rhs.entries).take 16,
      s.rhs.nextOrdinal + 1, 0⟩ } := by
  rw [markHistory, reply_rxTaken]; rfl

/-- R98. A clear answers with the number of entries it removes. -/
theorem serveHistoryClear_rxTaken (s : State) (tag : Byte) : serveHistoryClear tag [] (rxTaken s) = { s with
    slp := s.slp.answered (replyFrame 0xB2 tag 0 [byteOf s.rhs.entries.length])
    rhs := { s.rhs with entries := [] } } := by
  rw [serveHistoryClear, withNoPayload, reply_rxTaken]; rfl

/-- Settles O40: by the branches of a mark and by the clear, over a free reply buffer. -/
theorem historyMarkPushesAndClearEmpties : Obligations.HistoryMarkPushesAndClearEmpties := by
  intro tag s hp hr
  have hmark : ∀ bytes : List Byte, bytes.length = 8 → exec (.historyMark tag bytes) s = .next (drivePins
      (if s.mbs.state.takesMark then markHistory tag bytes (rxTaken s) else refuse 0x31 tag .state (rxTaken s))) :=
    fun bytes hl => (request_free hp hr _).trans (by rw [serveHistoryMark_eq hl]; rfl)
  refine ⟨fun bytes hl hm => ⟨_, hmark bytes hl, ?_⟩, fun bytes hl hrun hwarn => ⟨_, hmark bytes hl, ?_⟩, _,
    request_free hp hr _, ?_⟩
  · rw [if_pos (takesMark_iff.2 hm), markHistory_rxTaken]; rfl
  · rw [if_neg fun h => (takesMark_iff.1 h).elim hrun hwarn]
    exact onlyAnswered_refuse s 0x31 tag .state
  · rw [serveHistoryClear_rxTaken]; rfl

/-! A loss of supply -/

/-- R192. A save in flight alone spoils the image. -/
theorem imageAfterLoss_cases (b : Tbs) :
    (∀ T, b.store = .writing T → imageAfterLoss b = .partlyWritten) ∧
    (b.store = .idle → imageAfterLoss b = b.image) := by
  unfold imageAfterLoss
  refine ⟨fun T h => ?_, fun h => ?_⟩ <;> rw [h]

/-- Settles O5: what stands without supply, and what the image is by the store at the loss. -/
theorem powerOffKeepsTheImageAlone : Obligations.PowerOffKeepsTheImageAlone := by
  intro s hp
  obtain ⟨hwriting, hidle⟩ := imageAfterLoss_cases s.tbs
  have hexec : exec .partPowerOff s = .next (unpowered (imageAfterLoss s.tbs) s.pending) :=
    congrArg Host.Outcome.next (if_pos hp)
  exact ⟨_, hexec, rfl, rfl, hwriting, hidle, rfl, rfl, rfl, rfl, rfl, rfl⟩

end Sys2Proof.Machine
end

section
/-! One key channel in the whole of step 5 (R111, R113 to R116). -/

namespace Sys2Proof.Machine

/-! Baselines -/

/-- R116. An ordinary step moves a baseline towards the count and never past it. -/
theorem tdiv_step {d f : Int} (hf : 0 ≤ f) (hf' : f ≤ 256) :
    (0 ≤ d → 0 ≤ (d * f).tdiv 256 ∧ (d * f).tdiv 256 ≤ d) ∧ (d ≤ 0 → d ≤ (d * f).tdiv 256 ∧ (d * f).tdiv 256 ≤ 0) := by
  have hpos : ∀ e : Int, 0 ≤ e → 0 ≤ (e * f).tdiv 256 ∧ (e * f).tdiv 256 ≤ e := fun e he => by
    have h0 : 0 ≤ e * f := Int.mul_nonneg he hf
    have h1 : e * f ≤ e * 256 := Int.mul_le_mul_of_nonneg_left hf' he
    rw [Int.tdiv_eq_ediv_of_nonneg h0]
    omega
  refine ⟨hpos d, fun hd => ?_⟩
  have h := hpos (-d) (by omega)
  rw [Int.neg_mul, Int.neg_tdiv] at h
  omega

theorem stepBaseline_eq {factor : Nat} (hf : factor ≤ 256) (baseline count : Nat) :
    (stepBaseline baseline count factor : Int) =
      baseline + (((count : Int) * 16 - baseline) * factor).tdiv 256 := by
  obtain ⟨hup, hdown⟩ := tdiv_step (d := (count : Int) * 16 - baseline) (f := factor) (by omega) (by omega)
  unfold stepBaseline
  push_cast
  rcases Int.le_total 0 ((count : Int) * 16 - baseline) with h | h
  · have := hup h; omega
  · have := hdown h; omega

/-- R116, R117. The range that every baseline keeps. -/
theorem stepBaseline_le {baseline count factor : Nat} (hf : factor ≤ 256) (hb : baseline ≤ 1048560)
    (hc : count ≤ 65535) : stepBaseline baseline count factor ≤ 1048560 := by
  obtain ⟨hup, hdown⟩ := tdiv_step (d := (count : Int) * 16 - baseline) (f := factor) (by omega) (by omega)
  have h := stepBaseline_eq hf baseline count
  rcases Int.le_total 0 ((count : Int) * 16 - baseline) with hd | hd
  · have := hup hd; omega
  · have := hdown hd; omega

theorem driftFactor_le (d : Fin 3) : driftFactor d ≤ 256 := by
  unfold driftFactor; split <;> decide

theorem correctedCount_le (r : Nat) (dRef : Int) (weight : Nat) : correctedCount r dRef weight ≤ 65535 := by
  unfold correctedCount clampInt
  (repeat' split) <;> omega

/-! The key after its state step -/

section
variable {on off factor c : Nat} {k : TouchKey}

/-- R111. A key with the corrected count and the delta of a scan. -/
def TouchKey.measured (c : Nat) (k : TouchKey) : TouchKey :=
  { k with corrected := c, delta := (c : Int) - (k.baseline / 16 : Nat) }

theorem TouchKey.sense_eq : k.sense on off factor c =
    if ((k.measured c).stateStep on off).1.isStuck then
      (((k.measured c).stateStep on off).1.unstick, .release .stuck)
    else (((k.measured c).stateStep on off).1.follow off factor, ((k.measured c).stateStep on off).2) := rfl

theorem TouchKey.sense_free {j : TouchKey} {t : KeyTransition} (h : (k.measured c).stateStep on off = (j, t))
    (hs : j.isStuck = false) : k.sense on off factor c = (j.follow off factor, t) := by
  simp only [TouchKey.sense_eq, h, hs, Bool.false_eq_true, if_false]

theorem TouchKey.sense_stuck {j : TouchKey} {t : KeyTransition} (h : (k.measured c).stateStep on off = (j, t))
    (hs : j.isStuck = true) : k.sense on off factor c = (j.unstick, .release .stuck) := by
  simp only [TouchKey.sense_eq, h, hs, if_true]

/-- R115. -/
theorem TouchKey.isStuck_iff (k : TouchKey) :
    k.isStuck = true ↔ (k.state = .touched ∨ k.state = .releasing) ∧ ∃ n, k.stuck = some n ∧ 6000 ≤ n := by
  unfold TouchKey.isStuck
  cases k.state <;> cases k.stuck <;> simp [KeyState.isTouch] <;> rfl

theorem TouchKey.isStuck_false {n : Nat} (h : k.stuck = some n) (hn : n < 6000) : k.isStuck = false :=
  Bool.eq_false_iff.2 fun hs => by
    obtain ⟨-, m, hm, hle⟩ := k.isStuck_iff.1 hs
    cases h.symm.trans hm
    omega

theorem TouchKey.isStuck_false_of_untouched (h : k.state.isTouch = false) : k.isStuck = false := by
  rw [TouchKey.isStuck, h, Bool.false_and]

/-- R116. A key held or arming keeps its baseline. -/
theorem TouchKey.follow_busy (h : k.state ≠ .idle) : k.follow off factor = k := if_neg h

/-- R116. What becomes of the baseline of an IDLE key, by its delta; nothing else of it moves. -/
theorem TouchKey.follow_idle (h : k.state = .idle) :
    k.follow off factor = { k with baseline := (k.follow off factor).baseline } ∧
    (k.delta ≤ -(off : Int) → (k.follow off factor).baseline = k.corrected * 16) ∧
    (-(off : Int) < k.delta → factor ≤ 256 → ((k.follow off factor).baseline : Int) =
      k.baseline + (((k.corrected : Int) * 16 - k.baseline) * factor).tdiv 256) := by
  unfold TouchKey.follow
  rw [if_pos h]
  split
  next hd => exact ⟨rfl, fun _ => rfl, fun hn => absurd hd (by omega)⟩
  next hd => exact ⟨rfl, fun hn => absurd hn hd, fun _ hf => stepBaseline_eq hf _ _⟩

/-- R113, R114. The state step, by key state and delta. -/
theorem TouchKey.stateStep_rows (on off : Nat) (k : TouchKey) :
    (k.state = .idle → (on : Int) ≤ k.delta → k.stateStep on off = ({ k with state := .arming, arming := 1 }, .none)) ∧
    (k.state = .arming → k.arming + 1 < 3 → (on : Int) ≤ k.delta →
      k.stateStep on off = ({ k with arming := k.arming + 1 }, .none)) ∧
    (k.state = .arming → 2 ≤ k.arming → (on : Int) ≤ k.delta →
      k.stateStep on off = ({ k with state := .touched, arming := 0, stuck := some 0 }, .touch)) ∧
    (k.state = .idle ∨ k.state = .arming → k.delta < on →
      k.stateStep on off = ({ k with state := .idle, arming := 0 }, .none)) ∧
    (k.state = .touched → k.delta < off → k.stateStep on off = ({ k with state := .releasing }, .none)) ∧
    (k.state = .releasing → k.delta < off → k.stateStep on off = (k.toIdle, .release .normal)) ∧
    (k.state = .touched ∨ k.state = .releasing → (off : Int) ≤ k.delta →
      k.stateStep on off = ({ k with state := .touched }, .none)) := by
  have hup : k.state.isTouch = false → k.stateStep on off = k.stepUp on := fun h =>
    if_neg (by rw [h]; exact Bool.false_ne_true)
  have hdown : k.state.isTouch = true → k.stateStep on off = k.stepDown off := fun h => if_pos h
  refine ⟨fun hs hd => ?_, fun hs ha hd => ?_, fun hs ha hd => ?_, fun hs hd => ?_, fun hs hd => ?_, fun hs hd => ?_,
    fun hs hd => ?_⟩
  · rw [hup (by rw [hs]; rfl), TouchKey.stepUp, if_pos hd, if_pos hs]
  · rw [hup (by rw [hs]; rfl), TouchKey.stepUp, if_pos hd, if_neg (by rw [hs]; decide), if_neg (by omega)]
  · rw [hup (by rw [hs]; rfl), TouchKey.stepUp, if_pos hd, if_neg (by rw [hs]; decide), if_pos (by omega)]
  · rw [hup (by rcases hs with h | h <;> rw [h] <;> rfl), TouchKey.stepUp, if_neg (by omega)]
  · rw [hdown (by rw [hs]; rfl), TouchKey.stepDown, if_pos hd, if_pos hs]
  · rw [hdown (by rw [hs]; rfl), TouchKey.stepDown, if_pos hd, if_neg (by rw [hs]; decide)]
  · rw [hdown (by rcases hs with h | h <;> rw [h] <;> rfl), TouchKey.stepDown, if_neg (by omega)]

/-- R116. A key that a scan without a stuck judgement leaves held or arming. -/
theorem TouchKey.sense_busy {j : TouchKey} {t : KeyTransition} (h : (k.measured c).stateStep on off = (j, t))
    (hs : j.isStuck = false) (hj : j.state ≠ .idle) : k.sense on off factor c = (j, t) := by
  rw [TouchKey.sense_free h hs, TouchKey.follow_busy hj]

/-- R115. A key held for 60 s that its state step does not release. -/
theorem TouchKey.sense_held_stuck {n : Nat} (hk : k.stuck = some n) (hn : 6000 ≤ n)
    (hs : k.state = .touched ∨ (k.state = .releasing ∧ (off : Int) ≤ (c : Int) - (k.baseline / 16 : Nat))) :
    k.sense on off factor c = ({ (k.measured c).toIdle with baseline := c * 16 }, .release .stuck) := by
  obtain ⟨-, -, -, -, hfalls, -, hheld⟩ := (k.measured c).stateStep_rows on off
  rcases Int.lt_or_le (k.measured c).delta off with hd | hd
  · have hs : k.state = .touched := hs.resolve_right fun h => absurd h.2 (Int.not_le.2 hd)
    rw [TouchKey.sense_stuck (hfalls hs hd) ((TouchKey.isStuck_iff _).2 ⟨.inr rfl, n, hk, hn⟩)]
    rfl
  · rw [TouchKey.sense_stuck (hheld (hs.imp_right And.left) hd) ((TouchKey.isStuck_iff _).2 ⟨.inl rfl, n, hk, hn⟩)]
    rfl

/-- R111, R113 to R116. What a scan moves of a key it senses. -/
theorem TouchKey.sense_keeps (k : TouchKey) (on off factor c : Nat) : (k.sense on off factor c).1 =
    { k.measured c with
      state := (k.sense on off factor c).1.state, arming := (k.sense on off factor c).1.arming
      stuck := (k.sense on off factor c).1.stuck, baseline := (k.sense on off factor c).1.baseline } := by
  rw [TouchKey.sense_eq]
  unfold TouchKey.stateStep TouchKey.stepUp TouchKey.stepDown TouchKey.follow
  (repeat' split) <;> rfl

/-- Settles O43: by the rows of the state step, the stuck judgement after it, and the baseline of a key that it leaves
IDLE. -/
theorem aKeyIsConfirmedReleasedOrStuck : Obligations.AKeyIsConfirmedReleasedOrStuck := by
  intro on off factor c k delta r updated
  obtain ⟨hidle, harming, hthird, hback, hfalls, hreleased, hheld⟩ := (k.measured c).stateStep_rows on off
  have hfollow : ∀ {j : TouchKey} {t : KeyTransition}, (k.measured c).stateStep on off = (j, t) → j.state = .idle →
      j.delta = delta → j.corrected = c → j.baseline = k.baseline →
      r.1 = { j with baseline := r.1.baseline } ∧ r.2 = t ∧ updated := fun {j t} hj hs hd hc hb => by
    obtain ⟨hrest, hre, hstep⟩ := TouchKey.follow_idle (off := off) (factor := factor) hs
    have hr : r = (j.follow off factor, t) :=
      TouchKey.sense_free hj (TouchKey.isStuck_false_of_untouched (by rw [hs]; rfl))
    rw [hd, hc] at hre
    rw [hd, hc, hb] at hstep
    exact ⟨by rw [hr]; exact hrest, by rw [hr], fun h => by rw [hr, hre h], fun h hf => by rw [hr, hstep h hf]⟩
  refine ⟨?_, ?_, fun hs hd => ?_, fun hs ha hd => ?_, fun hs ha hd => ?_, fun hs hd => ?_, fun hs hd => ?_,
    fun n hs hd hk hn => ?_, fun n hs hd hk hn => ?_, fun n hs hk hn => ?_, fun hs hd => ?_⟩
  · exact (congrArg TouchKey.corrected (k.sense_keeps on off factor c) :)
  · exact (congrArg TouchKey.delta (k.sense_keeps on off factor c) :)
  · have hr : r = _ := TouchKey.sense_busy (hidle hs hd) (TouchKey.isStuck_false_of_untouched rfl) nofun
    rw [hr]; exact ⟨rfl, rfl, rfl, rfl⟩
  · have hr : r = _ := TouchKey.sense_busy (harming hs ha hd)
      (TouchKey.isStuck_false_of_untouched (congrArg KeyState.isTouch hs)) fun h => nomatch hs.symm.trans h
    rw [hr]; exact ⟨hs, rfl, rfl, rfl⟩
  · have hr : r = _ := TouchKey.sense_busy (hthird hs ha.ge hd) (TouchKey.isStuck_false rfl (by decide)) nofun
    rw [hr]; exact ⟨rfl, rfl, rfl, rfl, rfl⟩
  · obtain ⟨hr, ht, hu⟩ := hfollow (hback (.inr hs) hd) rfl rfl rfl rfl
    exact ⟨by rw [hr], by rw [hr], ht, hu⟩
  · obtain ⟨hr, ht, hu⟩ := hfollow (hreleased hs hd) rfl rfl rfl rfl
    exact ⟨by rw [hr]; rfl, by rw [hr]; rfl, ht, hu⟩
  · have hr : r = _ := TouchKey.sense_busy (hfalls hs hd) (TouchKey.isStuck_false hk hn) nofun
    rw [hr]; exact ⟨rfl, hk, rfl, rfl⟩
  · have hr : r = _ := TouchKey.sense_busy (hheld hs hd) (TouchKey.isStuck_false hk hn) nofun
    rw [hr]; exact ⟨rfl, hk, rfl, rfl⟩
  · have hr : r = _ := TouchKey.sense_held_stuck hk hn (.inl hs)
    rw [hr]; exact ⟨rfl, rfl, rfl, rfl⟩
  · obtain ⟨hr, ht, hu⟩ := hfollow (hback (.inl hs) hd) rfl rfl rfl rfl
    exact ⟨by rw [hr], ht, hu⟩

end
end Sys2Proof.Machine
end

section
/-! SUPPORT. What a property of the touch unit, the held keys and the fault records goes through in departures,
switch-ons, wakes and reports: frames, scanned sets taken, and records moved, each said once. -/

namespace Sys2Proof.Machine

/-! The lasting conditions -/

theorem someEntry_congr {α : Type} {n : Nat} {v w : Vector α n} {p : α → Bool} (h : ∀ i : Fin n, p w[i] = p v[i]) :
    someEntry w p = someEntry v p := by
  have hany : ∀ u : Vector α n, someEntry u p = (List.finRange n).any fun i => p u[i] := fun u => by
    rw [Bool.eq_iff_iff]
    simp [someEntry, Fin.exists_iff, Vector.any_eq_true]
  simp only [hany, h]

theorem recordOccurrence_tmu {k : FaultKind} {detail : Nat} {s : State} :
    (recordOccurrence k detail s).tmu = s.tmu := by simp

theorem recordOccurrence_tbs {k : FaultKind} {detail : Nat} {s : State} :
    (recordOccurrence k detail s).tbs = s.tbs := by simp

/-- R21, R26, R36. The conditions of F6, F7 and F9. -/
def heaterConditions (h : Hfd) : Bool × Bool × Bool :=
  (someEntry h.channels fun c => c.tripCondition, someEntry h.channels fun c => c.openLoad, h.fanState == .stalled)

theorem heaterConditions_congr {g h : Hfd} (hc : ∀ i : Fin 3,
    (g.channels[i]).tripCondition = (h.channels[i]).tripCondition ∧ (g.channels[i]).openLoad = (h.channels[i]).openLoad)
    (hf : g.fanState = .stalled ↔ h.fanState = .stalled) : heaterConditions g = heaterConditions h := by
  have hfan : (g.fanState == .stalled) = (h.fanState == .stalled) := by
    rw [Bool.eq_iff_iff, beq_iff_eq, beq_iff_eq]
    exact hf
  unfold heaterConditions
  rw [someEntry_congr fun i => (hc i).1, someEntry_congr fun i => (hc i).2, hfan]

/-- R47. The condition of F8. -/
def cutOuts (z : Znc) : Bool := someEntry z.zones fun x => x.cutOut

/-- R12, R21, R26, R36, R47. The lasting conditions outside the touch unit. -/
def conditions (s : State) : Bool × (Bool × Bool × Bool) × Bool :=
  (sensorCondition s.tmu, heaterConditions s.hfd, cutOuts s.znc)

section
variable {s t u : State}

/-- R153. The condition of a kind is that of its source block. -/
theorem faultCondition_congr (hc : conditions t = conditions s) (ht : touchCondition t.tsu = touchCondition s.tsu)
    (hd : t.tsu.disagreement = s.tsu.disagreement) : faultCondition t = faultCondition s := by
  simp only [conditions, heaterConditions, cutOuts, Prod.mk.injEq] at hc
  obtain ⟨h5, ⟨h6, h7, h9⟩, h8⟩ := hc
  funext k
  unfold faultCondition
  rw [h5, h6, h7, h8, h9, ht, hd]

@[simp] theorem recomputeDuties_conditions : heaterConditions (recomputeDuties s).hfd = heaterConditions s.hfd :=
  heaterConditions_congr (fun i => by simp [recomputeDuties]) Iff.rfl

@[simp] theorem setRailChange_conditions (r : RailChange) :
    heaterConditions (setRailChange r s).hfd = heaterConditions s.hfd := rfl

@[simp] theorem recomputeFan_conditions : heaterConditions (recomputeFan s).hfd = heaterConditions s.hfd := by
  refine heaterConditions_congr (fun i => ⟨rfl, rfl⟩) ?_
  simp only [recomputeFan, setFanDuty, setHfd_hfd, fanStateAt]
  (repeat' split) <;> simp_all

@[simp] theorem handDemands_conditions (railOn : Bool) :
    heaterConditions (handDemands railOn s).hfd = heaterConditions s.hfd := by
  unfold handDemands
  rw [recomputeDuties_conditions]
  exact heaterConditions_congr (fun i => by simp) Iff.rfl

/-! Frames -/

/-- What the properties read beside the keys of the key mapper. -/
def senseView (s : State) :
    Nat × Tsu × Vector KeymapEntry 20 × Vector ChordEntry 8 × Vector ReactionEntry 16 × Fcl ×
      (Bool × (Bool × Bool × Bool) × Bool) :=
  (s.tick, s.tsu, s.tbs.tables.keymap, s.tbs.tables.chords, s.tbs.tables.reactions, s.fcl, conditions s)

/-- R131. A key released at both units: IDLE, not down, not reported, not suppressed. -/
def KeyClear (s : State) (c : Fin 20) : Prop :=
  (s.keq.keys[c]).down = false ∧ (s.keq.keys[c]).reported = none ∧ (s.keq.keys[c]).suppressed = false ∧
    (s.tsu.keys[c]).state = .idle

/-- From `s` to `t` nothing that the properties read has moved but keys of the key mapper: none has gone down, and a
released one stays so. -/
def Quiet (s t : State) : Prop :=
  senseView t = senseView s ∧
  ∀ c : Fin 20, ((t.keq.keys[c]).down = true → (s.keq.keys[c]).down = true) ∧ (KeyClear s c → KeyClear t c)

theorem Quiet.of_keys (h : senseView t = senseView s) (hk : t.keq.keys = s.keq.keys) : Quiet s t := by
  refine ⟨h, fun c => ?_⟩
  simp only [senseView, Prod.mk.injEq] at h
  unfold KeyClear
  rw [hk, h.2.1]
  exact ⟨id, id⟩

theorem Quiet.trans (h : Quiet s t) (h' : Quiet t u) : Quiet s u :=
  ⟨h'.1.trans h.1, fun c => ⟨fun hd => (h.2 c).1 ((h'.2 c).1 hd), fun hc => (h'.2 c).2 ((h.2 c).2 hc)⟩⟩

/-- R136. The flush marks keys that are not IDLE at the touch unit alone. -/
theorem quiet_flush (s : State) : Quiet s (flush s) := by
  refine ⟨by simp [senseView, conditions], fun c => ?_⟩
  unfold KeyClear
  rw [flush_key]
  refine ⟨id, fun ⟨hd, _, hs, hi⟩ => ⟨hd, rfl, ?_, hi⟩⟩
  change ((s.keq.keys[c]).suppressed || (s.tsu.keys[c]).state != .idle) = false
  rw [hs, hi]
  rfl

theorem quiet_departCommon (cause : Cause) (d : Nat) (stage : Stage) (s : State) :
    Quiet s (departCommon cause d stage s) :=
  (quiet_flush s).trans (.of_keys (by simp [senseView, conditions, departCommon]; rfl) (by simp [departCommon]))

/-- R78, R80, R84. The state whose rail a switch-off moves. -/
theorem switchOff_quiet (new : MbsState) (s : State) : ∃ w, switchOff new s = railMoved w ∧ Quiet s w := by
  refine ⟨_, rfl, .of_keys ?_ ?_⟩ <;> simp [senseView, conditions]

/-- R65. The state whose rail a switch-on moves. -/
theorem switchOn_quiet (s : State) : ∃ w, switchOn s = railMoved w ∧ Quiet s w := by
  refine ⟨_, rfl, .of_keys ?_ ?_⟩ <;> simp [senseView, conditions, cutOuts]

/-! What a property goes through -/

/-- `P` is kept by whatever moves no more than `Quiet` allows, by taking a scanned set, and by the records of the kinds
`K`, F15 among them: an occurrence counted, a condition ended. -/
structure Steady (K : FaultKind → Prop) (P : State → Prop) : Prop where
  frame : ∀ {s t : State}, Quiet s t → P s → P t
  rescan : ∀ (mode : ScanMode) {s : State}, P s → P (rescan mode s)
  decided : K 15
  occur : ∀ {k : FaultKind} (d : Nat) {s : State}, K k → P s → P (recordOccurrence k d s)
  ended : ∀ {k : FaultKind} {s : State}, K k → faultCondition s k = false → (s.fcl.records[k]).state = .active →
    P s → P (rejudge (setRecord k { s.fcl.records[k] with state := .clear } s))

end

section
variable {K : FaultKind → Prop} {P : State → Prop}

/-- A frame that moves no key. -/
theorem Steady.view (st : Steady K P) {s t : State} (h : P s)
    (hv : senseView t = senseView s := by simp [senseView, conditions])
    (hk : t.keq.keys = s.keq.keys := by simp) : P t := st.frame (.of_keys hv hk) h

variable {s : State} (st : Steady K P)
include st

theorem Steady.railMoved (h : P s) : P (railMoved s) :=
  st.view (st.rescan (railMode s.mbs.pwrEn)
    (st.view (t := recomputeFan (recomputeDuties (setRailChange .none s))) h)) rfl rfl

theorem Steady.switchOff (new : MbsState) (h : P s) : P (switchOff new s) := by
  obtain ⟨w, hw, hq⟩ := switchOff_quiet new s
  rw [hw]
  exact st.railMoved (st.frame hq h)

theorem Steady.switchOn (h : P s) : P (switchOn s) := by
  obtain ⟨w, hw, hq⟩ := switchOn_quiet s
  rw [hw]
  exact st.railMoved (st.frame hq h)

theorem Steady.judgeRelease (h : P s) : P (judgeRelease s) := by
  unfold Machine.judgeRelease
  split
  · exact st.switchOn h
  · exact h

theorem Steady.rejudgeRelease (h : P (rejudge s)) : P (rejudgeRelease s) := by
  rcases rejudgeRelease_cases s with ⟨hr, -⟩ | ⟨hr, -⟩ <;> rw [hr]
  · exact h
  · exact st.switchOn h

theorem Steady.conditionChanged {k : FaultKind} (hk : K k) (h : P s) : P (conditionChanged k s) := by
  unfold Machine.conditionChanged
  dsimp only
  split
  next hc => exact st.rejudgeRelease (st.ended hk hc.2.2 hc.2.1 h)
  next => exact h

theorem Steady.depart (cause : Cause) (d : Nat) (stage : Stage) (h : P s) : P (depart cause d stage s) := by
  have hc := st.frame (quiet_departCommon cause d stage s) h
  unfold Machine.depart
  dsimp only
  split
  · exact st.view hc
  · exact st.switchOff _ hc

theorem Steady.restartDecision (cause : Cause) (d : Nat) (h : P s) : P (restartDecision cause d s) := by
  unfold Machine.restartDecision
  split
  · have hcount : P (s.setMbs { s.mbs with count := s.mbs.count + 1 }) := st.view h
    have hcounted : P (if decisionStage s.tbs.tables.policy cause (s.mbs.count + 1) = .lockout then
        recordOccurrence 15 cause.code (s.setMbs { s.mbs with count := s.mbs.count + 1 })
        else s.setMbs { s.mbs with count := s.mbs.count + 1 }) := by
      split
      · exact st.occur _ st.decided hcount
      · exact hcount
    exact st.depart _ _ _ (st.view hcounted rfl rfl)
  · exact h

theorem Steady.requestedRestart (cause : Cause) (d : Nat) (stage : Stage) (h : P s) :
    P (requestedRestart cause d stage s) := by
  unfold Machine.requestedRestart
  split
  · exact st.depart _ _ _ (st.view h)
  · exact h

theorem Steady.report {k : FaultKind} (hk : K k) (d : Nat) (h : P s) : P (report k d s) := by
  unfold Machine.report
  dsimp only
  split
  · exact st.restartDecision _ _ (st.occur d hk h)
  · exact st.occur d hk h

theorem Steady.reportAll {k : FaultKind} (hk : K k) (l : List Nat) (h : P s) : P (reportAll k l s) :=
  List.foldlRecOn l _ h fun _ hu d _ => st.report hk d hu

theorem Steady.enterHeatHold (fresh : Bool) (h : P s) : P (enterHeatHold fresh s) := by
  have hheld : P (heatHeld fresh s) := by
    refine st.view h ?_ rfl
    have hcut : cutOuts (heatHeld fresh s).znc = cutOuts s.znc := someEntry_congr fun i => by simp [heatHeld]
    simp [senseView, conditions, hcut, heatHeld_keeps]
    simp [heatHeld]
  by_cases hr : s.znc.release = true ∧ s.fcl.hold = false
  · rw [(enterHeatHold_rows fresh s).1 hr]
    exact st.switchOn hheld
  · rw [(enterHeatHold_rows fresh s).2 hr]
    exact hheld

theorem Steady.wake (cause : Cause) (d : Nat) (h : P s) : P (wake cause d s) :=
  st.enterHeatHold true (st.view (t := woken cause d s) h rfl rfl)

theorem Steady.wakeKey (c : Fin 20) (h : P s) : P (wakeKey c s) := by
  unfold Machine.wakeKey
  split
  · exact st.wake _ _ h
  · exact h

theorem Steady.powerOnChord (i : Fin 8) (h : P s) : P (powerOnChord i s) := by
  unfold Machine.powerOnChord
  split
  · exact st.wake _ _ h
  · exact h

theorem Steady.enterOff (h : P s) : P (enterOff s) :=
  st.view h (by simp [senseView, conditions, Machine.enterOff, cutOuts])

theorem Steady.powerOffChord (i : Fin 8) (h : P s) : P (powerOffChord i s) := by
  unfold Machine.powerOffChord
  split
  case h_1 => exact h
  case h_2 | h_3 => exact st.enterOff h
  case h_4 => exact st.enterOff (st.view h)
  all_goals exact st.depart _ _ _ h

/-- R105, R108, R156. The reports of a scan. -/
theorem Steady.reportScan (before : Tsu) (stuck : List Nat) (h11 : K 11) (h12 : K 12) (h13 : K 13) (h : P s) :
    P (reportScan before stuck s) :=
  st.conditionChanged h13 (st.conditionChanged h11 (st.reportAll h12 _ (st.reportAll h13 _ (st.reportAll h11 _ h))))

end

end Sys2Proof.Machine
end

section
/-! SUPPORT. What a property of the touch unit, the held keys and the fault records goes through in a step: it is kept
by every command that it is kept by in the few events that move what it reads. -/

namespace Sys2Proof.Machine

/-! Changed tables -/

/-- R184, R185. Every entry of T0, T1 and T6 but those named of table `t` is as it was. -/
structure ChangedAt (old T : Tables) (t : Nat) (named : List Nat) : Prop where
  keymap : ∀ c : Fin 20, ¬(t = 0 ∧ c.val ∈ named) → T.keymap[c] = old.keymap[c]
  chords : ∀ i : Fin 8, ¬(t = 1 ∧ i.val ∈ named) → T.chords[i] = old.chords[i]
  reactions : ∀ k : Fin 16, ¬(t = 6 ∧ k.val ∈ named) → T.reactions[k] = old.reactions[k]

section
variable {old T U : Tables} {t : Nat} {named : List Nat}

theorem ChangedAt.keymap_eq (h : ChangedAt old T t named) (ht : t ≠ 0 ∨ named = []) : T.keymap = old.keymap :=
  vector_eq_iff.2 fun c => h.keymap c fun ⟨h0, hc⟩ => ht.elim (· h0) fun hn => by simp [hn] at hc

theorem ChangedAt.chords_eq (h : ChangedAt old T t named) (ht : t ≠ 1 ∨ named = []) : T.chords = old.chords :=
  vector_eq_iff.2 fun i => h.chords i fun ⟨h1, hi⟩ => ht.elim (· h1) fun hn => by simp [hn] at hi

theorem ChangedAt.reactions_eq (h : ChangedAt old T t named) (ht : t ≠ 6 ∨ named = []) : T.reactions = old.reactions :=
  vector_eq_iff.2 fun k => h.reactions k fun ⟨h6, hk⟩ => ht.elim (· h6) fun hn => by simp [hn] at hk

/-- R184. -/
theorem writtenTables_changedAt {first count : Nat} {bs : List Byte} (h : writtenTables old t first count bs = some T) :
    ChangedAt old T t (List.range' first count) := by
  obtain ⟨⟨hk, hc, -, -, -, -, -, hr⟩, -⟩ := (writtenTables_eq_some_iff old T t first count bs).1 h
  have hnamed : ∀ {table i : Nat}, ¬(t = table ∧ i ∈ List.range' first count) →
      ¬(t = table ∧ first ≤ i ∧ i < first + count) := fun hn ⟨ht, hi⟩ => hn ⟨ht, List.mem_range'_1.2 hi⟩
  exact ⟨fun c hn => (hk c).2 (hnamed hn), fun i hn => (hc i).2 (hnamed hn), fun k hn => (hr k).2 (hnamed hn)⟩

/-- R185. One valid flag cleared. -/
theorem clearValid_changedAt (T : Tables) (t i : Nat) : ChangedAt T (clearValid T t i) t [i] := by
  have hset : ∀ {α : Type} {n : Nat} (v : Vector α n) (hi : i < n) (a : α) {table : Nat}, t = table → ∀ j : Fin n,
      ¬(t = table ∧ j.val ∈ [i]) → (v.set i a)[j] = v[j] := fun v hi a table ht j hj => by
    have hne : i ≠ j.val := fun h => hj ⟨ht, by simp [h]⟩
    exact Vector.getElem_set_ne hi j.isLt hne
  unfold clearValid
  (repeat' split)
  case h_1.isTrue hi => exact ⟨hset _ hi _ rfl, fun _ _ => rfl, fun _ _ => rfl⟩
  case h_2.isTrue hi => exact ⟨fun _ _ => rfl, hset _ hi _ rfl, fun _ _ => rfl⟩
  case h_6.isTrue hi => exact ⟨fun _ _ => rfl, fun _ _ => rfl, hset _ hi _ rfl⟩
  all_goals exact ⟨fun _ _ => rfl, fun _ _ => rfl, fun _ _ => rfl⟩

/-- R185. -/
theorem invalidatedTables_changedAt (T : Tables) (t first extra : Nat) :
    ChangedAt T (invalidatedTables T t first extra) t (invalidatedIndexes t first extra) := by
  unfold invalidatedTables
  generalize invalidatedIndexes t first extra = l
  induction l generalizing T with
  | nil => exact ⟨fun _ _ => rfl, fun _ _ => rfl, fun _ _ => rfl⟩
  | cons i l ih =>
    have hone := clearValid_changedAt T t i
    have hrest := ih (clearValid T t i)
    have hout : ∀ {table j : Nat}, ¬(t = table ∧ j ∈ i :: l) → ¬(t = table ∧ j ∈ l) ∧ ¬(t = table ∧ j ∈ [i]) :=
      fun hn => ⟨fun ⟨ht, hj⟩ => hn ⟨ht, List.mem_cons_of_mem _ hj⟩, fun ⟨ht, hj⟩ =>
        hn ⟨ht, List.mem_cons.2 (.inl (List.mem_singleton.1 hj))⟩⟩
    exact ⟨fun c hn => (hrest.keymap c (hout hn).1).trans (hone.keymap c (hout hn).2),
      fun c hn => (hrest.chords c (hout hn).1).trans (hone.chords c (hout hn).2),
      fun c hn => (hrest.reactions c (hout hn).1).trans (hone.reactions c (hout hn).2)⟩

end

/-! What a property goes through in a step -/

/-- `P` is kept by time, by the events that begin or end a condition, by a scan, by a change of the tables, and is met
at power-on; of the kinds without a lasting condition every occurrence keeps it. -/
structure Kept (K : FaultKind → Prop) (P : State → Prop) : Prop extends Steady K P where
  event : ∀ {k : FaultKind}, eventLike k = true → K k
  elapse : ∀ (n : Nat) {s : State}, P s → P (elapse n s)
  scan : ∀ (raw : Vector (BitVec 16) 22) {s : State}, P s → P (scanInstant raw s)
  converted : ∀ (codes : Vector (BitVec 12) 4) {s : State}, P s → P (conversionReported codes s)
  boundary : ∀ {s : State}, P s → P (boundaryReported s)
  periods : ∀ (peaks : Fin 3 → Nat) {s : State}, P s → P (closePeriods peaks s)
  tripped : ∀ (i : Fin 3) {s : State}, P s → P (report 6 i.val (noteTrip i s))
  stalled : ∀ {s : State}, P s → P (stallFan s)
  spun : ∀ {s : State}, P s → P (tachPulse s)
  cleared : ∀ (kind : Nat) {s : State}, P s → P (rejudge (clearRecords kind s))
  changed : ∀ (t : Fin 7) {T : Tables} (named : List Nat) {s : State}, ChangedAt s.tbs.tables T t.val named → P s →
    P (changeTables t T named s)
  poweredOn : ∀ (rate : Bool) (image : Image) (pending : List Instr), P (powerOn rate image pending)
  unpowered : ∀ (image : Image) (pending : List Instr), P (unpowered image pending)

section
variable {K : FaultKind → Prop} {P : State → Prop} {s : State} (kp : Kept K P)
include kp

/-- A report of a kind without a lasting condition. -/
theorem Kept.reported (k : FaultKind) (d : Nat) (h : P s) (hk : eventLike k = true := by decide) : P (report k d s) :=
  kp.report (kp.event hk) d h

/-! The supervisor's events -/

theorem Kept.enterBoot (h : P s) : P (enterBoot s) :=
  kp.view h (by simp [senseView, conditions]) (by simp [Machine.enterBoot, loadRestartDefaults])

theorem Kept.heartbeatExpired (h : P s) : P (heartbeatExpired s) := by
  unfold Machine.heartbeatExpired
  (repeat' split)
  · exact kp.view h (by simp [senseView, conditions]) (by simp [enterWarn])
  · exact kp.restartDecision _ _ (kp.reported 1 0 h)
  · exact kp.restartDecision _ _ (kp.reported 1 1 h)
  · exact h

theorem Kept.shutdownExpired (h : P s) : P (shutdownExpired s) := by
  unfold Machine.shutdownExpired
  split
  · exact kp.depart _ _ _ h
  · exact h

theorem Kept.pgLow (h : P s) : P (pgLow s) := by
  unfold Machine.pgLow
  dsimp only
  (repeat' split)
  · exact kp.restartDecision _ _ (kp.reported 4 _ (kp.view h rfl rfl))
  all_goals exact kp.view h rfl rfl

theorem Kept.boardExpiry {e : BoardExpiry} (he : e ∈ boardExpiries) (h : P s) : P (e.act s) := by
  simp only [boardExpiries, List.mem_cons, List.not_mem_nil, or_false] at he
  rcases he with rfl | rfl | rfl | rfl | rfl | rfl | rfl
  · exact kp.shutdownExpired h
  · exact kp.restartDecision _ _ (kp.reported 3 0 h)
  · exact kp.enterBoot h
  · exact kp.restartDecision _ _ (kp.reported 2 0 h)
  · exact kp.heartbeatExpired h
  · exact kp.enterHeatHold false h
  · exact kp.wake _ _ h

theorem Kept.expire (c : Instr) (left : Option Nat) {act : State → State} (hact : ∀ {u}, P u → P (act u)) (h : P s) :
    P (expire c left act s) := by
  have hsettle : ∀ u {t : State}, P t → P (settle c u t) := fun u t ht => by
    unfold settle
    refine List.foldlRecOn boardExpiries _ ht fun v hv e he => ?_
    split
    · exact kp.boardExpiry he hv
    · exact hv
  unfold Machine.expire
  (repeat' split)
  · exact hsettle _ (hact (kp.elapse _ h))
  all_goals exact h

/-! Keys and chords -/

/-- R132. A repeat counts, and moves no mark that the properties read. -/
theorem Kept.repeatFires (c : Fin 20) (h : P s) : P (repeatFires c s) := by
  have hcount : P (updKey c MappedKey.countRepeat s) := by
    refine kp.frame (s := s) ⟨by simp [senseView, conditions], fun i => ?_⟩ h
    unfold KeyClear
    rw [updKey_key]
    split <;> exact ⟨id, id⟩
  unfold Machine.repeatFires repeatKey
  dsimp only
  (repeat' split)
  · exact kp.view hcount
  · exact hcount
  · exact h

theorem Kept.chordAction (i : Fin 8) (a : ChordAction) (h : P s) : P (chordAction i a s) := by
  cases a with
  | restart | cycle => exact kp.requestedRestart _ _ _ h
  | powerOff => exact kp.powerOffChord i h
  | powerOn => exact kp.powerOnChord i h
  | heatOverride =>
    change P (overrideHeat s)
    unfold overrideHeat
    split
    · exact kp.view h rfl rfl
    · exact h
  | report => exact h

theorem Kept.fireUpTo (i : Fin 8) (h : P s) : P (fireUpTo i s) := by
  refine List.foldlRecOn _ _ h fun u hu j _ => ?_
  unfold fireIfDue
  split
  · exact kp.chordAction j _ (kp.view hu (by simp [senseView, conditions, markFired]) (by simp [markFired]))
  · exact hu

/-! Conversions, the filter window, periods and the fan -/

theorem Kept.filterEnd (h : P s) : P (filterEnd s) := by
  unfold Machine.filterEnd reportFilter
  split
  · exact kp.reported 10 _ (kp.view h rfl rfl)
  · exact kp.view h rfl rfl

theorem Kept.secondBoundary (h : P s) : P (secondBoundary s) :=
  kp.judgeRelease (kp.view (kp.boundary h) rfl rfl)

theorem Kept.conversionInstant (codes : Vector (BitVec 12) 4) (h : P s) : P (conversionInstant codes s) := by
  unfold Machine.conversionInstant
  dsimp only
  split
  · exact kp.secondBoundary (kp.converted codes h)
  · exact kp.converted codes h

theorem Kept.openPeriods (h : P s) : P (openPeriods s) := by
  have hcond : heaterConditions (Machine.openPeriods s).hfd = heaterConditions s.hfd :=
    heaterConditions_congr (fun i => by
      have hch : (Machine.openPeriods s).hfd.channels[i] = openPeriod s.tbs.tables.zones[i] s.hfd.channels[i] :=
        Vector.getElem_ofFn i.isLt
      rw [hch, openPeriod_eq]
      exact ⟨rfl, rfl⟩) Iff.rfl
  exact kp.view h (by rw [senseView, conditions, hcond]; rfl) rfl

/-- An operation on one heater channel that stands off its conditions. -/
theorem Kept.updChannel {i : Fin 3} {f : HeaterChannel → HeaterChannel}
    (hf : ∀ c, (f c).tripCondition = c.tripCondition ∧ (f c).openLoad = c.openLoad) (h : P s) :
    P (s.setHfd { s.hfd with channels := upd s.hfd.channels i f }) := by
  have hcond : heaterConditions { s.hfd with channels := upd s.hfd.channels i f } = heaterConditions s.hfd := by
    refine heaterConditions_congr (fun j => ?_) Iff.rfl
    by_cases hj : i = j
    · subst hj
      simpa [upd] using hf s.hfd.channels[i]
    · have hne : (i : Nat) ≠ j := fun hv => hj (Fin.ext hv)
      simp [upd, Vector.getElem_set_ne _ _ hne]
  exact kp.view h (by simp only [senseView, conditions, setHfd_hfd, hcond]; rfl) rfl

theorem Kept.onTimeEnd (i : Fin 3) (h : P s) : P (onTimeEnd i s) := by
  unfold Machine.onTimeEnd
  dsimp only
  split
  · exact kp.updChannel (fun _ => ⟨rfl, rfl⟩) h
  · exact h

theorem Kept.heaterTrip (i : Fin 3) (current : Nat) (h : P s) : P (heaterTrip i current s) := by
  have hacts : ∀ {u}, P u → P (actOnTrip i u) := fun {u} hu => by
    have hf : ∀ c : HeaterChannel, (tripAction c).tripCondition = c.tripCondition ∧
        (tripAction c).openLoad = c.openLoad := fun c => by
      unfold tripAction
      (repeat' split) <;> exact ⟨rfl, rfl⟩
    have hu' := kp.updChannel (i := i) hf hu
    unfold actOnTrip
    dsimp only
    split
    · exact kp.view hu'
    · exact hu'
  unfold Machine.heaterTrip
  split
  · exact hacts (kp.tripped i h)
  · exact h

/-! Requests -/

theorem Kept.reply (kind tag : Byte) (st : Status) (items : List Byte) (h : P s) : P (reply kind tag st items s) :=
  kp.view h

theorem Kept.refuse (kind tag : Byte) (h : P s) (st : Status) : P (refuse kind tag st s) := kp.reply _ _ _ _ h

theorem Kept.serveHeartbeat (tag : Byte) (p : List Byte) (h : P s) : P (serveHeartbeat tag p s) := by
  refine withOneByte_induction P (kp.refuse _ _ h) fun a => ?_
  have hr := kp.reply 0x02 tag .ok (be16 (tenths (feedTimer s.mbs))) h
  unfold heartbeatToken acceptHeartbeat
  dsimp only
  (repeat' split)
  · exact kp.reply _ _ _ _ h
  · exact kp.view hr (by simp [senseView, conditions, enterRun]; rfl) (by simp [enterRun])
  · exact kp.view hr
  · exact kp.refuse _ _ h _

theorem Kept.serveTableWrite (tag : Byte) (p : List Byte) (h : P s) : P (serveTableWrite tag p s) := by
  unfold Machine.serveTableWrite writeTable writeUnlocked
  (repeat' split) <;> try exact kp.refuse _ _ h _
  next hT =>
    refine kp.changed _ _ ?_ (kp.reply _ _ _ _ h)
    rw [show (Machine.reply _ _ _ _ s).tbs = s.tbs by simp]
    exact writtenTables_changedAt hT

theorem Kept.serveTableInvalidate (tag : Byte) (p : List Byte) (h : P s) : P (serveTableInvalidate tag p s) := by
  refine withThreeBytes_induction P (kp.refuse _ _ h) fun t first extra => ?_
  unfold invalidateTable
  (repeat' split) <;> try exact kp.refuse _ _ h _
  refine checkedRequest_induction P (kp.refuse _ _ h) (kp.changed _ _ ?_ (kp.reply _ _ _ _ h))
  rw [show (Machine.reply _ _ _ _ s).tbs = s.tbs by simp]
  exact invalidatedTables_changedAt ..

theorem Kept.servePowerRequest (tag : Byte) (p : List Byte) (h : P s) : P (servePowerRequest tag p s) := by
  refine withTwoBytes_induction P (kp.refuse _ _ h) fun a b =>
    checkedRequest_induction P (kp.refuse _ _ h) ?_
  have hr : P (Machine.reply 0x20 tag .ok [] s) := kp.reply _ _ _ _ h
  unfold powerAction
  split
  · exact kp.requestedRestart _ _ _ hr
  · exact kp.requestedRestart _ _ _ hr
  · exact kp.view hr rfl rfl

theorem Kept.clearFaults (kind : Nat) (h : P s) : P (clearFaults kind s) := by
  have hjudged := kp.rejudgeRelease (kp.cleared kind h)
  unfold Machine.clearFaults
  dsimp only
  split
  · refine kp.view hjudged ?_ (by simp [releaseHeaters])
    generalize Machine.rejudgeRelease (clearRecords kind s) = u
    have hheat : heaterConditions (releaseHeaters u).hfd = heaterConditions u.hfd :=
      heaterConditions_congr (fun i => by rw [releaseHeaters_channel]; split <;> exact ⟨rfl, rfl⟩)
        (by simp [releaseHeaters, recomputeDuties])
    have hcut : cutOuts (releaseHeaters u).znc = cutOuts u.znc :=
      someEntry_congr fun i => by simp [releaseHeaters, syncDegraded]
    rw [senseView, conditions, hheat, hcut]
    simp [senseView, conditions, releaseHeaters]
  · exact hjudged

/-- R173. A request of whatever KIND. -/
theorem Kept.serveKind (kind tag : Byte) (p : List Byte) (h : P s) : P (serveKind kind tag p s) := by
  have hr := fun kind items => kp.reply kind tag .ok items h
  have hn := fun kind => kp.refuse kind tag h
  unfold Machine.serveKind
  split
  case h_1 => exact withNoPayload_induction P (hn _) (hr _ _)
  case h_2 => exact kp.serveHeartbeat tag p h
  case h_3 | h_16 => exact withOneByte_induction P (hn _) fun _ => checkedRequest_induction P (hn _) (hr _ _)
  case h_4 => exact withThreeBytes_induction P (hn _) fun _ _ _ => checkedRequest_induction P (hn _) (hr _ _)
  case h_5 => exact kp.serveTableWrite tag p h
  case h_6 => exact kp.serveTableInvalidate tag p h
  case h_7 => exact withTwoBytes_induction P (hn _) fun _ _ =>
    checkedRequest_induction P (hn _) (kp.view (hr _ _) rfl rfl)
  case h_8 =>
    refine withNoPayload_induction P (hn _) ?_
    unfold saveStore
    split
    · exact hn _ _
    · exact kp.view (hr _ _) rfl rfl
  case h_9 => exact kp.servePowerRequest tag p h
  case h_10 =>
    refine withTwoBytes_induction P (hn _) fun _ _ => checkedRequest_induction P (hn _) ?_
    unfold readDepth
    (repeat' split) <;> exact kp.reply _ _ _ _ h
  case h_11 =>
    exact checkedRequest_induction P (hn _)
      (kp.view h (by simp [senseView, conditions, markHistory]) (by simp [markHistory]))
  case h_12 => exact withNoPayload_induction P (hn _) (kp.view (hr _ _) rfl rfl)
  case h_13 =>
    refine withThreeBytes_induction P (hn _) fun _ _ _ => ?_
    unfold panelLevel
    split
    · exact checkedRequest_induction P (hn _) (kp.reply _ _ _ _ (kp.view h rfl rfl))
    · exact hn _ _
  case h_14 =>
    refine withOneByte_induction P (hn _) fun _ => ?_
    unfold readFault
    split
    · exact hr _ _
    · exact hn _ _
  case h_15 => exact withOneByte_induction P (hn _) fun _ =>
    checkedRequest_induction P (hn _) (kp.clearFaults _ (hr _ _))
  case h_17 => exact hn _ _

/-! The link and the store -/

theorem Kept.saveCompletion (verified : Bool) (h : P s) : P (saveCompletion verified s) := by
  unfold Machine.saveCompletion
  (repeat' split)
  · exact kp.view (t := saveMatched _ s) h (by simp [saveMatched, offerStore, senseView, conditions])
      (by simp [saveMatched, offerStore])
  · refine kp.view (kp.reported 14 1 (s := s.setTbs { s.tbs with
      store := .idle, result := .failed, image := .rejected, changed := tab fun _ => true }) (kp.view h rfl rfl)) ?_ ?_
      <;> simp [saveMismatched, offerStore, senseView, conditions]
  · exact h

theorem Kept.takeRequest {serve : State → State} (hs : ∀ {u}, P u → P (serve u)) (h : P s) :
    P (takeRequest serve s) := by
  have hr : P (rxTaken s) := kp.view h rfl rfl
  unfold Machine.takeRequest
  split
  · exact kp.reported 0 4 hr
  · exact hs hr

theorem Kept.enterResync (d : Nat) (h : P s) : P (enterResync d s) := kp.reported 0 d (kp.view h rfl rfl)

theorem Kept.checkFrame (h : P s) : P (checkFrame s) := by
  unfold Machine.checkFrame
  (repeat' split)
  · exact kp.takeRequest (kp.serveKind _ _ _) h
  · exact h
  · exact kp.enterResync 3 h

theorem Kept.goodChar (b : Byte) (h : P s) : P (goodChar b s) := by
  have hb : P (lineBusy s) := kp.view h rfl rfl
  unfold Machine.goodChar takeHunt takeLength takeBody
  dsimp only
  (repeat' split)
  case h_2.isFalse => exact kp.enterResync 0 hb
  case h_3.isTrue => exact kp.checkFrame (kp.view hb rfl rfl)
  all_goals exact kp.view hb rfl rfl

/-! Commands -/

theorem Kept.commandEffect (c : Instr) (h : P s) : P (commandEffect c s) := by
  have hboard := fun {e : BoardExpiry} (he : e ∈ boardExpiries) =>
    kp.expire e.cmd (e.timer s.mbs) (kp.boardExpiry he) h
  have hrequest : ∀ kind tag p, P (Machine.takeRequest (Machine.serveKind kind tag p) s) := fun kind tag p =>
    kp.takeRequest (kp.serveKind kind tag p) h
  cases c with
  | partPowerOn | partPowerOff => exact h
  | conversionInstant => exact kp.conversionInstant _ h
  | suspectTimerExpiry i =>
    rw [Machine.commandEffect, suspectExpiry]
    split
    · exact kp.conversionInstant _ h
    · exact h
  | filterWindowEnd => exact kp.filterEnd h
  | periodStart => exact kp.openPeriods (kp.periods _ h)
  | heaterTrip => exact kp.heaterTrip _ _ h
  | heaterOnTimeEnd => exact kp.onTimeEnd _ h
  | fanTachPulse => exact kp.spun h
  | stallTimerExpiry => exact kp.expire _ _ kp.stalled h
  | mainPgHigh =>
    rw [Machine.commandEffect, pgHigh]
    dsimp only
    split <;> exact kp.view h rfl rfl
  | powerGoodLoss => exact kp.pgLow h
  | pendingShutdownExpiry => exact hboard (.head _)
  | pgTimeout => exact hboard (.tail _ (.head _))
  | resetPulseExpiry => exact hboard (.tail _ (.tail _ (.head _)))
  | bootTimeout => exact hboard (.tail _ (.tail _ (.tail _ (.head _))))
  | heartbeatExpiry => exact hboard (.tail _ (.tail _ (.tail _ (.tail _ (.head _)))))
  | cycleTimerExpiry => exact hboard (.tail _ (.tail _ (.tail _ (.tail _ (.tail _ (.head _))))))
  | lockoutRetryExpiry => exact hboard (.tail _ (.tail _ (.tail _ (.tail _ (.tail _ (.tail _ (.head _)))))))
  | stableTimeReached => exact kp.expire _ _ (fun hu => kp.view hu rfl rfl) h
  | scan raw =>
    rw [Machine.commandEffect]
    dsimp only
    split
    · exact kp.scan raw h
    · exact h
  | stuckTimerExpiry => exact kp.expire _ _ (kp.scan _) h
  | repeatDue c => exact kp.expire _ _ (kp.repeatFires c) h
  | chordFire i => exact kp.expire _ _ (kp.fireUpTo i) h
  | ident tag p => exact hrequest 0x01 tag p
  | heartbeat tag p => exact hrequest 0x02 tag p
  | statusRead tag p => exact hrequest 0x03 tag p
  | tableRead tag p => exact hrequest 0x10 tag p
  | tableWrite tag p => exact hrequest 0x11 tag p
  | tableInvalidate tag p => exact hrequest 0x12 tag p
  | tableLock tag p => exact hrequest 0x13 tag p
  | storeSave tag p => exact hrequest 0x14 tag p
  | powerRequest tag p => exact hrequest 0x20 tag p
  | historyRead tag p => exact hrequest 0x30 tag p
  | historyMark tag p => exact hrequest 0x31 tag p
  | historyClear tag p => exact hrequest 0x32 tag p
  | panelSet tag p => exact hrequest 0x40 tag p
  | faultRead tag p => exact hrequest 0x50 tag p
  | faultClear tag p => exact hrequest 0x51 tag p
  | touchRead tag p => exact hrequest 0x60 tag p
  | unknownKind kind tag =>
    rw [Machine.commandEffect]
    split
    · exact h
    · exact kp.takeRequest (fun hu => kp.refuse _ _ hu _) h
  | badLengthByte len =>
    rw [Machine.commandEffect, badLength]
    split
    · exact kp.enterResync 0 (kp.view h rfl rfl)
    · exact h
  | badCharacter =>
    rw [Machine.commandEffect, badChar]
    split
    · exact kp.enterResync 2 (kp.view h rfl rfl)
    · exact kp.view h rfl rfl
  | gapTimeout =>
    rw [Machine.commandEffect, gapExpired]
    split
    · exact kp.enterResync 1 (kp.view h rfl rfl)
    · exact h
  | crcMismatch => exact kp.enterResync 3 (kp.view h rfl rfl)
  | resyncIdle =>
    rw [Machine.commandEffect, idleLine]
    split
    · exact kp.view h rfl rfl
    · exact h
  | overrun =>
    rw [Machine.commandEffect, overrun]
    split
    · exact kp.reported 0 4 (kp.view h rfl rfl)
    · exact h
  | txFrameEnd =>
    rw [Machine.commandEffect, txEnd]
    split
    · exact h
    · exact kp.view h
    · exact kp.view h
  | saveCompletion verified => exact kp.saveCompletion verified h
  | goodCharacter b => exact kp.goodChar b h

theorem Kept.exec (c : Instr) {t : State} (h : P s) (ht : exec c s = .next t) : P t := by
  have hpins : ∀ {u : State}, P u → P (drivePins u) := fun hu => kp.view hu rfl rfl
  by_cases hon : ∃ r, c = .partPowerOn r
  · obtain ⟨rate, rfl⟩ := hon
    cases ht
    exact hpins (kp.poweredOn rate (imageAfterLoss s.tbs) s.pending)
  by_cases hoff : c = .partPowerOff
  · subst hoff
    cases ht
    split
    · exact kp.unpowered _ _
    · exact h
  rw [exec_eq_effect c s (fun r hr => hon ⟨r, hr⟩) hoff, whenPowered] at ht
  split at ht <;> cases ht
  · exact hpins (kp.commandEffect c h)
  · exact h

/-- A step runs the front command, or idles: then a command falls due, or a tick passes. -/
theorem Kept.step {t : State} (h : P s) (ht : step s = .next t) : P t := by
  unfold Machine.step at ht
  split at ht
  next c rest _ => exact kp.exec c (kp.view (t := { s with pending := rest }) h rfl rfl) ht
  next =>
    cases ht
    unfold Machine.idle
    (repeat' split)
    · exact kp.view h rfl rfl
    · exact kp.elapse 1 h
    · exact h

end

end Sys2Proof.Machine
end

section
/-! SUPPORT. Properties that read no heater, zone or sensor condition, and what they go through in conversions, periods
and changed tables. -/

namespace Sys2Proof.Machine

/-- What a property that reads no lasting condition outside the touch unit reads beside the keys of the key mapper. -/
def plainView (s : State) : Nat × Tsu × Vector KeymapEntry 20 × Vector ChordEntry 8 × Vector ReactionEntry 16 × Fcl :=
  (s.tick, s.tsu, s.tbs.tables.keymap, s.tbs.tables.chords, s.tbs.tables.reactions, s.fcl)

/-- A property that reads no lasting condition outside the touch unit, kept by the records of every kind. -/
structure Plain (P : State → Prop) : Prop extends Steady (fun _ => True) P where
  plain : ∀ {s t : State}, P s → plainView t = plainView s → t.keq.keys = s.keq.keys → P t

section
variable {P : State → Prop} {s : State} (pl : Plain P)
include pl

/-- R156. Occurrences reported, then a condition judged. -/
theorem Plain.reported (k : FaultKind) (l : List Nat) (h : P s) : P (conditionChanged k (reportAll k l s)) :=
  pl.conditionChanged trivial (pl.reportAll trivial l h)

theorem Plain.converted (codes : Vector (BitVec 12) 4) (h : P s) : P (conversionReported codes s) :=
  pl.reported 5 _ (pl.plain h rfl rfl)

/-- R37, R38. A set counted, with what an earlier window left to report. -/
theorem Plain.counted (h : P s) : P (countFilterSet s) := by
  unfold countFilterSet endFilterWindow reportFilter
  dsimp only
  (repeat' split)
  · exact h
  · exact pl.report trivial _ (pl.plain h rfl rfl)
  all_goals exact pl.plain h rfl rfl

theorem Plain.boundary (h : P s) : P (boundaryReported s) :=
  by
  have hcomputed : P (boundaryComputed s) :=
    pl.plain h (by simp only [plainView, boundaryComputed, recomputeFan_keeps]; rfl) (by simp [boundaryComputed]; rfl)
  exact pl.reported 8 _ (pl.counted hcomputed)

theorem Plain.periods (peaks : Fin 3 → Nat) (h : P s) : P (closePeriods peaks s) :=
  pl.conditionChanged trivial (pl.reported 7 _ (pl.plain h rfl rfl))

theorem Plain.tripped (i : Fin 3) (h : P s) : P (Machine.report 6 i.val (noteTrip i s)) :=
  pl.report trivial _ (pl.plain h rfl rfl)

theorem Plain.stalled (h : P s) : P (stallFan s) := pl.report trivial _ (pl.plain h rfl rfl)

theorem Plain.spun (h : P s) : P (tachPulse s) := by
  unfold tachPulse
  dsimp only
  (repeat' split)
  · exact pl.plain h rfl rfl
  · exact pl.conditionChanged trivial (pl.plain h rfl rfl)
  · exact pl.plain h rfl rfl

/-- The tables replaced where T0, T1 and T6 stay. -/
theorem Plain.replaced {t : Fin 7} {T : Tables} {named : List Nat} (hT : ChangedAt s.tbs.tables T t.val named)
    (ht : (t.val ≠ 0 ∧ t.val ≠ 1 ∧ t.val ≠ 6) ∨ named = []) (changed : Vector Bool 7) (h : P s) :
    P (s.setTbs { s.tbs with tables := T, changed := changed }) := by
  refine pl.plain h ?_ rfl
  simp only [plainView, setTbs_tbs, hT.keymap_eq (ht.imp_left And.left), hT.chords_eq (ht.imp_left fun h => h.2.1),
    hT.reactions_eq (ht.imp_left fun h => h.2.2)]
  rfl

/-- R181. A change of a table that no key and no reaction stands in. -/
theorem Plain.changed {t : Fin 7} {T : Tables} {named : List Nat} (hT : ChangedAt s.tbs.tables T t.val named)
    (ht : (t.val ≠ 0 ∧ t.val ≠ 1 ∧ t.val ≠ 6) ∨ named = []) (h : P s) : P (changeTables t T named s) := by
  have hr := pl.replaced hT ht (s.tbs.changed.set t true) h
  unfold changeTables notice
  split
  · exact hr
  next hn =>
    have ht := ht.resolve_right fun h => hn (by rw [h]; rfl)
    split
    next h0 => exact absurd h0 ht.1
    next h1 => exact absurd h1 ht.2.1
    · exact pl.reported 8 _ (pl.plain hr rfl rfl)
    · exact pl.plain hr rfl rfl
    · exact pl.reported 5 _ (pl.plain hr rfl rfl)
    · exact pl.plain hr rfl rfl
    next h6 => exact absurd h6 ht.2.2
    · exact hr

end

/-! Properties of the touch unit and the keys held down -/

/-- What a property of the touch unit reads beside the keys held down. -/
def touchView (s : State) : Nat × Tsu × Vector KeymapEntry 20 × Vector ChordEntry 8 :=
  (s.tick, s.tsu, s.tbs.tables.keymap, s.tbs.tables.chords)

/-- A property of the touch unit, kept while no key goes down and by a scanned set taken under tables that may be
new. -/
structure TouchSteady (P : State → Prop) : Prop where
  frame : ∀ {s t : State}, touchView t = touchView s →
    (∀ c : Fin 20, (t.keq.keys[c]).down = true → (s.keq.keys[c]).down = true) → P s → P t
  retaken : ∀ (mode : ScanMode) {s u : State}, u.tick = s.tick → u.tsu = s.tsu →
    (∀ c : Fin 20, (u.keq.keys[c]).down = true → (u.tbs.tables.keymap[c]).valid = true →
      (s.keq.keys[c]).down = true ∧ (s.tbs.tables.keymap[c]).valid = true) → P s → P (rescan mode u)

/-- Such a property, kept by time and by a scan and met at power-on. -/
structure TouchKept (P : State → Prop) : Prop extends TouchSteady P where
  elapse : ∀ (n : Nat) {s : State}, P s → P (elapse n s)
  scan : ∀ (raw : Vector (BitVec 16) 22) {s : State}, P s → P (scanInstant raw s)
  started : ∀ (rate : Bool) (T : Tables) (load : LoadResult) (image : Image) (pending : List Instr),
    P (State.atPowerOn rate T load image pending)

section
variable {P : State → Prop} {s : State}

/-- The frame, where no key of the key mapper moves. -/
theorem TouchSteady.view (tk : TouchSteady P) {t : State} (h : P s)
    (hv : touchView t = touchView s := by simp [touchView])
    (hk : t.keq.keys = s.keq.keys := by simp) : P t := tk.frame hv (fun c => by rw [hk]; exact id) h

theorem TouchSteady.plain (tk : TouchSteady P) : Plain P where
  frame hq h := tk.frame
    (by
      obtain ⟨hv, -⟩ := hq
      simp only [senseView, Prod.mk.injEq] at hv
      simp only [touchView, hv])
    (fun c => (hq.2 c).1) h
  rescan mode _ h := tk.retaken mode rfl rfl (fun _ hd hv => ⟨hd, hv⟩) h
  decided := trivial
  occur d s _ h := tk.view h (by simp [touchView]) (by rw [recordOccurrence_eq])
  ended _ _ _ h := tk.view h rfl rfl
  plain h hv hk := tk.view h
    (by
      simp only [plainView, Prod.mk.injEq] at hv
      simp only [touchView, hv]) hk

/-- R137. A key held down after the key mapper has taken changed entries was held down before, and its entry valid. -/
theorem keymapChanged_down {old : Tables} {c j : Fin 20}
    (h : ((keymapChanged old c s).keq.keys[j]).down = true) :
    (s.keq.keys[j]).down = true ∧ (c = j → (s.tbs.tables.keymap[c]).valid = true → (old.keymap[c]).valid = true) := by
  obtain ⟨hun, hmap, hre, hsame⟩ := keymapChanged_rows (old := old) (c := c) (s := s)
  have hloose : ∀ (f : MappedKey → MappedKey) (cause : Cause), (∀ k, (f k).down = true → k.down = true) →
      ((loosenKey c f cause s).keq.keys[j]).down = true → (s.keq.keys[j]).down = true := fun f cause hf hd => by
    obtain ⟨-, hup⟩ := offerKeyUp_keq c cause s
    have hoffered : ((offerKeyUp c cause s).keq.keys[j]).down = (s.keq.keys[j]).down := by
      rw [hup]
      split <;> rfl
    rw [← hoffered]
    change ((updKey c f (offerKeyUp c cause s)).keq.keys[j]).down = true at hd
    rw [updKey_key] at hd
    split at hd
    · exact hf _ hd
    · exact hd
  cases hw : (old.keymap[c]).valid <;> cases hn : (s.tbs.tables.keymap[c]).valid
  · rw [hsame (hw.trans hn.symm) fun hx => nomatch hw.symm.trans hx.1] at h
    exact ⟨h, fun _ hv => nomatch hv⟩
  · rw [hmap hw hn, updKey_key] at h
    split at h
    · simp [MappedKey.powerOn] at h
    next hc => exact ⟨h, fun hcj => absurd hcj hc⟩
  · rw [hun hw hn] at h
    exact ⟨hloose MappedKey.lifted _ (fun _ hd => Bool.noConfusion hd) h, fun _ hv => nomatch hv⟩
  · refine ⟨?_, fun _ _ => rfl⟩
    by_cases hc : (old.keymap[c]).code ≠ (s.tbs.tables.keymap[c]).code ∧ (s.keq.keys[c]).down = true
    · rw [hre hw hn hc.1 hc.2] at h
      exact hloose (fun k => { k with suppressed := true }) _ (fun _ hd => hd) h
    · rwa [hsame (hw.trans hn.symm) fun hx => hc hx.2.2] at h

theorem keymapNoticed_down {old : Tables} {l : List (Fin 20)} {j : Fin 20}
    (h : ((keymapNoticed old l s).keq.keys[j]).down = true) :
    (s.keq.keys[j]).down = true ∧ (j ∈ l → (s.tbs.tables.keymap[j]).valid = true → (old.keymap[j]).valid = true) := by
  induction l generalizing s with
  | nil => exact ⟨h, fun hj => absurd hj List.not_mem_nil⟩
  | cons c l ih =>
    obtain ⟨hd, hrest⟩ := ih (s := keymapChanged old c s) h
    obtain ⟨hs, hhead⟩ := keymapChanged_down hd
    rw [keymapChanged_tbs] at hrest
    refine ⟨hs, fun hj hv => ?_⟩
    rcases List.mem_cons.1 hj with rfl | hj
    · exact hhead rfl hv
    · exact hrest hj hv

theorem mem_namedBelow {n : Nat} {named : List Nat} {i : Fin n} (h : i.val ∈ named) : i ∈ namedBelow n named :=
  List.mem_filterMap.2 ⟨i.val, h, by simp⟩

/-- R118. The touch unit takes a change of T0 or T1. -/
theorem TouchSteady.retabled (tk : TouchSteady P) {u : State} (h : P s) (htick : u.tick = s.tick) (htsu : u.tsu = s.tsu)
    (hd : ∀ c : Fin 20, (u.keq.keys[c]).down = true → (u.tbs.tables.keymap[c]).valid = true →
      (s.keq.keys[c]).down = true ∧ (s.tbs.tables.keymap[c]).valid = true) : P (touchTablesChanged u) :=
  tk.plain.conditionChanged trivial (tk.retaken u.tsu.mode htick htsu hd h)

theorem keymapNoticed_tick (old : Tables) (l : List (Fin 20)) (s : State) : (keymapNoticed old l s).tick = s.tick :=
  List.foldlRecOn (motive := fun u : State => u.tick = s.tick) l _ rfl fun u hu c _ => by simp [hu]

/-- R118, R137. A change of T0. -/
theorem TouchSteady.keymapTaken (tk : TouchSteady P) {T : Tables} {named : List Nat}
    (hT : ChangedAt s.tbs.tables T 0 named) (changed : Vector Bool 7) (h : P s) :
    P (noticeKeymap s.tbs.tables (namedBelow 20 named) (s.setTbs { s.tbs with tables := T, changed := changed })) := by
  obtain ⟨htsu, -, -, -, htbs⟩ := keymapNoticed_keeps s.tbs.tables (namedBelow 20 named)
    (s.setTbs { s.tbs with tables := T, changed := changed })
  refine tk.retabled h (keymapNoticed_tick ..) htsu fun c hd hv => ?_
  obtain ⟨hs, hnamed⟩ := keymapNoticed_down hd
  have hvT : (T.keymap[c]).valid = true := (congrArg (fun b => (b.tables.keymap[c]).valid) htbs).symm.trans hv
  refine ⟨hs, ?_⟩
  by_cases hc : c.val ∈ named
  · exact hnamed (mem_namedBelow hc) hvT
  · rw [← hT.keymap c fun hx => hc hx.2]
    exact hvT

/-- R118, R138. A change of T1. -/
theorem TouchSteady.chordsTaken (tk : TouchSteady P) {T : Tables} {named : List Nat}
    (hT : ChangedAt s.tbs.tables T 1 named) (changed : Vector Bool 7) (h : P s) : P (noticeChords (namedBelow 8 named)
      (s.setTbs { s.tbs with tables := T, changed := changed })) :=
  tk.retabled h rfl rfl fun c hd hv => ⟨hd, by rw [← hT.keymap c (by omega)]; exact hv⟩

/-- R161, R162. A change of T6. -/
theorem TouchSteady.reactionsTaken (tk : TouchSteady P) {T : Tables} {named : List Nat}
    (hT : ChangedAt s.tbs.tables T 6 named) (changed : Vector Bool 7) (h : P s) :
    P (noticeReactions (namedBelow 16 named) (s.setTbs { s.tbs with tables := T, changed := changed })) := by
  have hk := hT.keymap_eq (.inl (by decide))
  have hc := hT.chords_eq (.inl (by decide))
  exact tk.plain.rejudgeRelease (tk.view h (by simp [touchView, hk, hc]))

/-- R184, R185. A change of any table. -/
theorem TouchSteady.changed (tk : TouchSteady P) (t : Fin 7) {T : Tables} (named : List Nat)
    (hT : ChangedAt s.tbs.tables T t.val named) (h : P s) : P (changeTables t T named s) := by
  by_cases hn : named = []
  · exact tk.plain.changed hT (.inr hn) h
  have hempty : ¬named.isEmpty = true := by simpa using hn
  by_cases h0 : t = 0
  · subst h0
    rw [show changeTables 0 T named s = noticeKeymap _ _ _ from if_neg hempty]
    exact tk.keymapTaken hT _ h
  by_cases h1 : t = 1
  · subst h1
    rw [show changeTables 1 T named s = noticeChords _ _ from if_neg hempty]
    exact tk.chordsTaken hT _ h
  by_cases h6 : t = 6
  · subst h6
    rw [show changeTables 6 T named s = noticeReactions _ _ from if_neg hempty]
    exact tk.reactionsTaken hT _ h
  · exact tk.plain.changed hT (.inl ⟨fun h => h0 (Fin.ext h), fun h => h1 (Fin.ext h), fun h => h6 (Fin.ext h)⟩) h

/-- A property of the touch unit that its own events keep is kept by every step. -/
theorem TouchKept.kept (tk : TouchKept P) : Kept (fun _ => True) P where
  toSteady := tk.plain.toSteady
  event _ := trivial
  elapse := tk.elapse
  scan := tk.scan
  converted codes _ h := tk.plain.converted codes h
  boundary h := tk.plain.boundary h
  periods peaks _ h := tk.plain.periods peaks h
  tripped i _ h := tk.plain.tripped i h
  stalled h := tk.plain.stalled h
  spun h := tk.plain.spun h
  cleared _ _ h := tk.view h (by simp [touchView, clearRecords]) (by simp [clearRecords])
  changed t _ named _ hT h := tk.changed t named hT h
  poweredOn rate image pending := by
    cases hl : image.load with
    | none =>
      rw [powerOn_unusable hl]
      exact tk.plain.occur 0 trivial (tk.started ..)
    | some T =>
      rw [powerOn_usable hl]
      dsimp only
      split
      · exact tk.plain.occur 4 trivial (tk.started ..)
      · exact tk.started ..
  unpowered image pending := by
    have h := tk.started false defaultTables .defaults image pending
    unfold unpowered
    generalize State.atPowerOn false defaultTables .defaults image pending = s at h
    exact tk.view h

end

end Sys2Proof.Machine
end

section
/-! SUPPORT. What a scan makes of each channel and what it hands the key mapper; what releases make of the keys. -/

namespace Sys2Proof.Machine

/-! Channels at a scan -/

section
variable {raw : Vector (BitVec 16) 22} {s : State} {c : Fin 20}

/-- R106, R107. What step 2 keeps of a key channel. -/
theorem TouchKey.judge_keeps (r : Nat) (k : TouchKey) : (k.judge r).baseline = k.baseline ∧
    (k.judge r).corrected = k.corrected ∧ (k.judge r).scanned = k.scanned ∧ (k.judge r).raw = r ∧
    (k.judge r).faulted = (judgeFault r k.faulted k.outCount k.inCount).1 := by
  unfold TouchKey.judge TouchKey.toIdle
  dsimp only
  (repeat' split) <;> exact ⟨rfl, rfl, rfl, rfl, rfl⟩

/-- R106. A key channel that no new fault strikes at step 2 keeps its key state, arming count and stuck timer. -/
theorem TouchKey.judge_unstruck {r : Nat} {k : TouchKey} (h : ¬(k.faulted = false ∧ (k.judge r).faulted = true)) :
    (k.judge r).state = k.state ∧ (k.judge r).arming = k.arming ∧ (k.judge r).stuck = k.stuck := by
  obtain ⟨-, -, -, -, hfaulted⟩ := k.judge_keeps r
  rw [hfaulted] at h
  unfold TouchKey.judge TouchKey.toIdle
  dsimp only
  split
  next hs => exact absurd (by simpa using hs) h
  · split <;> exact ⟨rfl, rfl, rfl⟩

theorem scanPrepared_key (raw : Vector (BitVec 16) 22) (s : State) (c : Fin 20) : (scanPrepared raw s).keys[c] =
    if (s.tsu.keys[c]).scanned then (s.tsu.keys[c]).judge (keyRaw raw c) else s.tsu.keys[c] := by
  have hkeys : ∀ t : Tsu, t.compareRefs.keys = t.keys := fun t => by
    unfold Tsu.compareRefs
    dsimp only
    split <;> rfl
  change ((s.tsu.judged raw).compareRefs.keys)[c] = _
  rw [hkeys]
  exact Vector.getElem_ofFn c.isLt

theorem scanPrepared_ref (raw : Vector (BitVec 16) 22) (s : State) (i : Fin 2) :
    (scanPrepared raw s).refs[i] = ((s.tsu.refs[i]).judge (refRaw raw i)).formDelta := by
  have hrefs : ∀ t : Tsu, t.compareRefs.refs[i] = (t.refs[i]).formDelta := fun t => by
    unfold Tsu.compareRefs
    dsimp only
    split <;> exact Vector.getElem_ofFn i.isLt
  change ((s.tsu.judged raw).compareRefs.refs)[i] = _
  rw [hrefs]
  exact congrArg TouchRef.formDelta (Vector.getElem_ofFn i.isLt)

theorem scanned_key (raw : Vector (BitVec 16) 22) (s : State) (c : Fin 20) :
    (scanned raw s).keys[c] = (scanKey raw s c).1 := Vector.getElem_ofFn c.isLt

theorem scanned_ref (raw : Vector (BitVec 16) 22) (s : State) (i : Fin 2) : (scanned raw s).refs[i] =
    (((s.tsu.refs[i]).judge (refRaw raw i)).formDelta).follow (driftFactor (scanDrift s)) := by
  rw [← scanPrepared_ref]
  exact Vector.getElem_ofFn i.isLt

/-- R102. A channel that is not scanned keeps everything. -/
theorem scanKey_unscanned (h : (s.tsu.keys[c]).scanned = false) : scanKey raw s c = (s.tsu.keys[c], .none) := by
  unfold scanKey
  dsimp only
  rw [scanPrepared_key, h]
  rfl

/-- R106. A channel that a new fault strikes at step 2. -/
theorem scanKey_struck (h : (s.tsu.keys[c]).scanned = true) (hf : (s.tsu.keys[c]).faulted = false)
    (hj : ((s.tsu.keys[c]).judge (keyRaw raw c)).faulted = true) : scanKey raw s c =
      ((s.tsu.keys[c]).judge (keyRaw raw c), if (s.tsu.keys[c]).state.isTouch then .release .fault else .none) := by
  unfold scanKey
  dsimp only
  rw [scanPrepared_key, h, if_pos rfl, hf, hj]
  rfl

/-- R105. Step 5 of any other channel measured. -/
theorem scanKey_unstruck (h : (s.tsu.keys[c]).scanned = true)
    (hj : ¬((s.tsu.keys[c]).faulted = false ∧ ((s.tsu.keys[c]).judge (keyRaw raw c)).faulted = true)) :
    scanKey raw s c = ((s.tsu.keys[c]).judge (keyRaw raw c)).step (scanPrepared raw s).guarded (scanPrepared raw s).dRef
      (driftFactor (scanDrift s)) s.tbs.tables.keymap[c] := by
  unfold scanKey
  dsimp only
  rw [scanPrepared_key, h, if_pos rfl, if_neg (by simp), if_neg (by simpa using hj)]

/-- R113, R114. The state step and the key it holds. -/
theorem TouchKey.stateStep_holds (on off : Nat) (k : TouchKey) :
    ((k.stateStep on off).2 = .touch → (k.stateStep on off).1.state.isTouch = true) ∧
    (k.state.isTouch = true → (k.stateStep on off).1.state.isTouch = true ∨
      ∃ cause, (k.stateStep on off).2 = .release cause) ∧
    (k.stateStep on off).1.baseline = k.baseline ∧ (k.stateStep on off).1.corrected = k.corrected := by
  unfold TouchKey.stateStep
  split
  · unfold TouchKey.stepDown
    (repeat' split)
    · exact ⟨nofun, fun _ => .inl rfl, rfl, rfl⟩
    · exact ⟨nofun, fun _ => .inr ⟨_, rfl⟩, rfl, rfl⟩
    · exact ⟨nofun, fun _ => .inl rfl, rfl, rfl⟩
  next h =>
    unfold TouchKey.stepUp
    (repeat' split)
    · exact ⟨nofun, fun hk => absurd hk h, rfl, rfl⟩
    · exact ⟨fun _ => rfl, fun hk => absurd hk h, rfl, rfl⟩
    all_goals exact ⟨nofun, fun hk => absurd hk h, rfl, rfl⟩

theorem TouchKey.follow_keeps (off factor : Nat) (k : TouchKey) :
    (k.follow off factor).state = k.state ∧ (k.follow off factor).corrected = k.corrected := by
  unfold TouchKey.follow
  (repeat' split) <;> exact ⟨rfl, rfl⟩

/-- R113 to R115. What a key hands, and where it is held after. -/
theorem TouchKey.sense_holds (on off factor n : Nat) (k : TouchKey) :
    ((k.sense on off factor n).2 = .touch → (k.sense on off factor n).1.state.isTouch = true) ∧
    (k.state.isTouch = true → (k.sense on off factor n).1.state.isTouch = true ∨
      ∃ cause, (k.sense on off factor n).2 = .release cause) := by
  obtain ⟨htouch, hheld, -⟩ := (k.measured n).stateStep_holds on off
  rw [TouchKey.sense_eq]
  split
  · exact ⟨nofun, fun _ => .inr ⟨_, rfl⟩⟩
  · dsimp only
    rw [(TouchKey.follow_keeps ..).1]
    exact ⟨htouch, hheld⟩

/-- R111, R115, R116. A key that a scan senses keeps the range of its baseline. -/
theorem TouchKey.sense_inRange {on off factor n : Nat} {k : TouchKey} (hf : factor ≤ 256) (hn : n ≤ 65535)
    (hb : k.baseline ≤ 1048560) : (k.sense on off factor n).1.baseline ≤ 1048560 ∧
      (k.sense on off factor n).1.corrected ≤ 65535 := by
  obtain ⟨-, -, hkept, hcorrected⟩ := (k.measured n).stateStep_holds on off
  rw [show (k.measured n).corrected = n from rfl] at hcorrected
  have hbase : ((k.measured n).stateStep on off).1.baseline ≤ 1048560 := by
    rw [hkept]
    exact hb
  rw [TouchKey.sense_eq]
  generalize (k.measured n).stateStep on off = j at *
  split
  · refine ⟨?_, hcorrected.trans_le hn⟩
    change j.1.corrected * 16 ≤ 1048560
    omega
  · refine ⟨?_, (TouchKey.follow_keeps ..).2.trans_le (hcorrected.trans_le hn)⟩
    unfold TouchKey.follow
    (repeat' split)
    · change j.1.corrected * 16 ≤ 1048560
      omega
    · exact stepBaseline_le hf hbase (hcorrected.trans_le hn)
    · exact hbase

/-- R105. What a scan hands of a key, and where it is held after. -/
theorem scanKey_holds (raw : Vector (BitVec 16) 22) (s : State) (c : Fin 20) :
    ((scanKey raw s c).2 = .touch → (scanKey raw s c).1.state.isTouch = true) ∧
    ((s.tsu.keys[c]).state.isTouch = true → (scanKey raw s c).1.state.isTouch = true ∨
      ∃ cause, (scanKey raw s c).2 = .release cause) := by
  cases hs : (s.tsu.keys[c]).scanned with
  | false =>
    rw [scanKey_unscanned hs]
    exact ⟨nofun, .inl⟩
  | true =>
    by_cases hj : (s.tsu.keys[c]).faulted = false ∧ ((s.tsu.keys[c]).judge (keyRaw raw c)).faulted = true
    · rw [scanKey_struck hs hj.1 hj.2]
      refine ⟨fun h => ?_, fun h => .inr ⟨.fault, if_pos h⟩⟩
      dsimp only at h
      split at h <;> cases h
    · rw [scanKey_unstruck hs hj, ← (TouchKey.judge_unstruck hj).1]
      unfold TouchKey.step
      dsimp only
      (repeat' split)
      · exact ⟨nofun, .inl⟩
      · exact TouchKey.sense_holds ..
      · exact ⟨nofun, .inl⟩

/-- R111, R116. The range of a key channel's baseline and corrected count after a scan. -/
theorem scanKey_inRange (raw : Vector (BitVec 16) 22) (hb : (s.tsu.keys[c]).baseline ≤ 1048560)
    (hc : (s.tsu.keys[c]).corrected ≤ 65535) :
    (scanKey raw s c).1.baseline ≤ 1048560 ∧ (scanKey raw s c).1.corrected ≤ 65535 := by
  obtain ⟨hbase, hcorr, -⟩ := (s.tsu.keys[c]).judge_keeps (keyRaw raw c)
  cases hs : (s.tsu.keys[c]).scanned with
  | false =>
    rw [scanKey_unscanned hs]
    exact ⟨hb, hc⟩
  | true =>
    rw [← hbase] at hb
    rw [← hcorr] at hc
    by_cases hj : (s.tsu.keys[c]).faulted = false ∧ ((s.tsu.keys[c]).judge (keyRaw raw c)).faulted = true
    · rw [scanKey_struck hs hj.1 hj.2]
      exact ⟨hb, hc⟩
    · rw [scanKey_unstruck hs hj]
      unfold TouchKey.step
      dsimp only
      have hn := correctedCount_le ((s.tsu.keys[c]).judge (keyRaw raw c)).raw (scanPrepared raw s).dRef
        (s.tbs.tables.keymap[c]).weight
      (repeat' split)
      · exact ⟨Nat.mul_le_mul_right 16 hn, hn⟩
      · exact TouchKey.sense_inRange (driftFactor_le _) hn hb
      · exact ⟨hb, hc⟩

/-- R104, R117. The range of a reference's baseline after a scan. -/
theorem scanned_ref_inRange {i : Fin 2} (hb : (s.tsu.refs[i]).baseline ≤ 1048560) :
    ((scanned raw s).refs[i]).baseline ≤ 1048560 := by
  have hraw : refRaw raw i ≤ 65535 := by
    unfold refRaw
    omega
  have hkept : ∀ k : TouchRef, k.formDelta.baseline = k.baseline ∧ k.formDelta.raw = k.raw := fun k => by
    unfold TouchRef.formDelta
    split <;> exact ⟨rfl, rfl⟩
  obtain ⟨hbase, hr⟩ := hkept ((s.tsu.refs[i]).judge (refRaw raw i))
  rw [scanned_ref]
  unfold TouchRef.follow
  (repeat' split)
  · rw [hr]
    exact Nat.mul_le_mul_right 16 hraw
  · refine stepBaseline_le (driftFactor_le _) ?_ ?_
    · rw [hbase]; exact hb
    · rw [hr]; exact hraw
  · rw [hbase]; exact hb

end

/-! Releases -/

section
variable {s t u : State}

/-- R105, R131. From `s` to `t` the key mapper and what the transmitter sends have moved alone. -/
def KeysMoved (s t : State) : Prop := t = { s with keq := t.keq, slp := { s.slp with tx := t.slp.tx } }

theorem KeysMoved.trans (h : KeysMoved s t) (h' : KeysMoved t u) : KeysMoved s u := by
  unfold KeysMoved at *
  rw [h] at h'
  exact h'

theorem KeysMoved.setKeq (h : KeysMoved s t) (q : Keq) : KeysMoved s (t.setKeq q) := by
  unfold KeysMoved at *
  rw [h]
  rfl

theorem keysMoved_offer (e : Event) (s : State) : KeysMoved s (offer e s) := by
  have h := offer_eq e s
  generalize offer e s = t at *
  generalize t.keq.queue = q, t.slp.tx = x at h
  subst h
  rfl

theorem keysMoved_loosenKey (c : Fin 20) (f : MappedKey → MappedKey) (cause : Cause) (s : State) :
    KeysMoved s (loosenKey c f cause s) := by
  have hup : KeysMoved s (offerKeyUp c cause s) := by
    unfold offerKeyUp
    split
    · exact (keysMoved_offer _ s).setKeq _
    · rfl
  exact (hup.setKeq _).setKeq _

theorem KeysMoved.view (h : KeysMoved s t) : senseView t = senseView s ∧ t.mbs = s.mbs ∧ t.tbs = s.tbs ∧
    t.tsu = s.tsu := by
  unfold KeysMoved at h
  generalize t.keq = q, t.slp.tx = x at h
  subst h
  exact ⟨rfl, rfl, rfl, rfl⟩

/-- R127, R131. A key released: its marks cleared, and out of the reported-down set if it stood there. -/
def MappedKey.released (k : MappedKey) : MappedKey := if k.reported.isSome then k.unreport.lifted else k.lifted

theorem MappedKey.released_rows (k : MappedKey) :
    (k.reported = none → k.released = { k with down := false, unreported := false, suppressed := false }) ∧
    (k.reported ≠ none → k.released = ⟨false, none, 0, 0, 0, false, false⟩) :=
  ⟨fun h => if_neg (by rw [h]; exact Bool.false_ne_true), fun h => if_pos (Option.isSome_iff_ne_none.2 h)⟩

/-- R131. A released key is not down, not reported and unmarked. -/
theorem MappedKey.released_clear (k : MappedKey) : k.released.down = false ∧ k.released.reported = none ∧
    k.released.unreported = false ∧ k.released.suppressed = false := by
  obtain ⟨hnone, hsome⟩ := k.released_rows
  by_cases h : k.reported = none
  · rw [hnone h]; exact ⟨rfl, h, rfl, rfl⟩
  · rw [hsome h]; exact ⟨rfl, rfl, rfl, rfl⟩

theorem MappedKey.released_released (k : MappedKey) : k.released.released = k.released := by
  obtain ⟨hd, hr, hu, hs⟩ := k.released_clear
  rw [(MappedKey.released_rows k.released).1 hr]
  generalize k.released = m at *
  cases m
  simp_all

/-- R131. What a release makes of each key. -/
theorem releaseTransition_key (c : Fin 20) (cause : Cause) (s : State) (j : Fin 20) :
    (releaseTransition c cause s).keq.keys[j] =
      if c = j ∧ (s.tbs.tables.keymap[c]).valid = true then (s.keq.keys[j]).released else s.keq.keys[j] := by
  obtain ⟨hinvalid, hvalid⟩ := releaseTransition_rows c cause s
  cases hv : (s.tbs.tables.keymap[c]).valid with
  | false => rw [hinvalid hv, if_neg fun h => nomatch h.2]
  | true =>
    rw [hvalid hv]
    change (updKey c MappedKey.lifted (offerKeyUp c cause s)).keq.keys[j] = _
    rw [updKey_key, (offerKeyUp_keq c cause s).2]
    by_cases hj : c = j
    · subst hj
      simp only [true_and, and_self, if_true, MappedKey.released]
      split <;> rfl
    · simp only [hj, false_and, if_false]

theorem keysMoved_releaseTransition (c : Fin 20) (cause : Cause) (s : State) :
    KeysMoved s (releaseTransition c cause s) := by
  cases hv : (s.tbs.tables.keymap[c]).valid with
  | false => rw [(releaseTransition_rows c cause s).1 hv]; rfl
  | true => rw [(releaseTransition_rows c cause s).2 hv]; exact keysMoved_loosenKey ..

/-- R131. Releases with one cause. -/
theorem releaseAll_moved (cs : List (Fin 20)) (cause : Cause) (s : State) : KeysMoved s (releaseAll cs cause s) ∧
    ∀ j : Fin 20, (releaseAll cs cause s).keq.keys[j] =
      if j ∈ cs ∧ (s.tbs.tables.keymap[j]).valid = true then (s.keq.keys[j]).released else s.keq.keys[j] := by
  unfold releaseAll
  induction cs generalizing s with
  | nil => exact ⟨rfl, fun j => by rw [if_neg fun h => List.not_mem_nil h.1]; rfl⟩
  | cons c cs ih =>
    have hmoved := keysMoved_releaseTransition c cause s
    obtain ⟨hrest, hkeys⟩ := ih (releaseTransition c cause s)
    refine ⟨hmoved.trans hrest, fun j => ?_⟩
    obtain ⟨-, -, hkeymap, -⟩ := hmoved.view
    rw [List.foldl_cons, hkeys, releaseTransition_key, hkeymap]
    by_cases hj : c = j
    · subst hj
      by_cases hv : (s.tbs.tables.keymap[c]).valid = true
      · simp only [hv, and_true, if_true, List.mem_cons, true_or, MappedKey.released_released, ite_self]
      · simp only [hv, Bool.false_eq_true, and_false, if_false]
    · simp [hj, Ne.symm hj]

/-- R103. What taking a scanned set makes of the keys at the key mapper. -/
theorem rescan_key (mode : ScanMode) (s : State) (c : Fin 20) : (rescan mode s).keq.keys[c] =
    if leavesHeld s mode c then (s.keq.keys[c]).released else s.keq.keys[c] := by
  unfold rescan
  rw [(releaseAll_moved _ _ _).2]
  have hleaves : c ∈ indexesWhere (leavesTouched s mode) ↔ leavesHeld s mode c = true := by
    rw [← leavesTouched_eq]
    simp [indexesWhere, List.mem_filter]
  simp only [hleaves, setTsu_tbs, setTsu_keq]
  by_cases h : leavesHeld s mode c = true
  · rw [if_pos ⟨h, leavesHeld_valid h⟩, if_pos h]
  · rw [if_neg fun hx => h hx.1, if_neg h]

theorem keysMoved_rescan (mode : ScanMode) (s : State) : KeysMoved (s.setTsu (rescan mode s).tsu) (rescan mode s) := by
  have h := (releaseAll_moved (indexesWhere (leavesTouched s mode)) .normal
    (s.setTsu { s.tsu with
      mode := mode
      keys := tab fun c =>
        (s.tsu.keys[c]).rescanned (s.tbs.tables.keymap[c]).valid (inScannedSet mode s.tbs.tables c) })).1
  rw [rescan_tsu]
  exact h

/-! Transitions that a scan hands -/

/-- R130, R131. One transition moves its own key; a touch in OFF may then wake the part (R83). -/
theorem handTransition_taken (c : Fin 20) (x : KeyTransition) (s : State) : ∃ u, KeysMoved s u ∧
    (∀ j : Fin 20, j ≠ c → u.keq.keys[j] = s.keq.keys[j]) ∧
    Handed x (s.tbs.tables.keymap[c]).valid s.keq.keys[c] u.keq.keys[c] ∧
    (handTransition c x s = u ∨ handTransition c x s = wake .key c.val u) := by
  cases hv : (s.tbs.tables.keymap[c]).valid with
  | false =>
    refine ⟨s, rfl, fun _ _ => rfl, .none (.inr rfl), .inl ?_⟩
    cases x with
    | none => rfl
    | touch => exact (touchTransition_rows c s).1 hv
    | release cause => exact (releaseTransition_rows c cause s).1 hv
  | true =>
    cases x with
    | none => exact ⟨s, rfl, fun _ _ => rfl, .none (.inl rfl), .inl rfl⟩
    | touch =>
      obtain ⟨-, hsupp, hwake, hrest⟩ := touchTransition_rows c s
      have hother : ∀ j : Fin 20, j ≠ c → (markedDown c s).keq.keys[j] = s.keq.keys[j] := fun j hj =>
        (updKey_key c j _ s).trans (if_neg (Ne.symm hj))
      have hdown : ((markedDown c s).keq.keys[c]).down = true := by rw [markedDown_key]
      have hmarked : Handed .touch true s.keq.keys[c] (markedDown c s).keq.keys[c] :=
        ⟨fun h => h.elim nofun nofun, fun _ _ => hdown, nofun⟩
      cases hk : (s.keq.keys[c]).suppressed with
      | true => exact ⟨markedDown c s, rfl, hother, hmarked, .inl (hsupp hv hk)⟩
      | false =>
        by_cases hw : s.mbs.state = .off ∧ (s.tbs.tables.keymap[c]).wake = true
        · exact ⟨markedDown c s, rfl, hother, hmarked, .inr (hwake hv hk hw)⟩
        · have heq := hrest hv hk hw
          split at heq
          · exact ⟨markedDown c s, rfl, hother, hmarked, .inl heq⟩
          · obtain ⟨-, hothers, hkept⟩ := offerKeyDown_moved c (markedDown c s)
            have hmoved : KeysMoved (markedDown c s) (offerKeyDown c (markedDown c s)) := by
              unfold offerKeyDown
              dsimp only
              split
              · exact (keysMoved_offer _ _).setKeq _
              · exact (keysMoved_offer _ _).setKeq _
              · rfl
            exact ⟨_, KeysMoved.trans (t := markedDown c s) rfl hmoved,
              fun j hj => (hothers j hj).trans (hother j hj),
              ⟨fun h => h.elim nofun nofun, fun _ _ => hkept.trans hdown, nofun⟩, .inl heq⟩
    | release cause =>
      refine ⟨releaseTransition c cause s, keysMoved_releaseTransition .., fun j hj => ?_,
        ⟨fun h => h.elim nofun nofun, nofun, fun _ _ _ => ?_⟩, .inl rfl⟩
      · rw [releaseTransition_key, if_neg fun h => hj h.1.symm]
      · rw [releaseTransition_key, if_pos ⟨rfl, hv⟩]
        exact MappedKey.released_clear _

end

section
variable {K : FaultKind → Prop} {P : State → Prop} {s : State}

/-- A property that reads no key of the key mapper goes through the transitions of a scan. -/
theorem Steady.handAll (st : Steady K P) (blind : ∀ {s t : State}, P s → senseView t = senseView s → P t)
    (f : Fin 20 → KeyTransition) (l : List (Fin 20)) (h : P s) :
    P (l.foldl (fun acc c => handTransition c (f c) acc) s) := by
  refine List.foldlRecOn l _ h fun v hv c _ => ?_
  obtain ⟨u, hmoved, -, -, hu⟩ := handTransition_taken c (f c) v
  have hPu : P u := blind hv hmoved.view.1
  rcases hu with hu | hu <;> rw [hu]
  · exact hPu
  · exact st.wake _ _ hPu

/-- R133. At the end of a scan suppressed marks fall. -/
theorem quiet_clearIdleSuppressed (s : State) : Quiet s (clearIdleSuppressed s) := by
  have htsu : (clearIdleSuppressed s).tsu = s.tsu := by simp
  refine ⟨by simp [senseView, conditions], fun c => ?_⟩
  unfold KeyClear
  rw [clearIdleSuppressed_key, htsu]
  exact ⟨id, fun ⟨hd, hr, hs, hi⟩ => ⟨hd, hr, by rw [hs]; rfl, hi⟩⟩

/-- R105. Such a property goes through a scan whose channels it has already taken. -/
theorem Steady.scanInstant (st : Steady K P) (blind : ∀ {s t : State}, P s → senseView t = senseView s → P t)
    (h11 : K 11) (h12 : K 12) (h13 : K 13) (raw : Vector (BitVec 16) 22) (h : P (s.setTsu (scanned raw s))) :
    P (scanInstant raw s) :=
  st.frame (quiet_clearIdleSuppressed _) (st.reportScan s.tsu (stuckKeys raw s) h11 h12 h13
    (st.handAll blind (fun c => (scanKey raw s c).2) (List.finRange 20) h))

end

end Sys2Proof.Machine
end

section
/-! O10: baselines, scanned set, last scan and keys held down, and what taking a scanned set does (R101 to R104, R111,
R115 to R118, R130, R131). -/

namespace Sys2Proof.Machine

/-! Time, and a scanned set taken -/

section
variable {s u : State}

theorem elapse_tbs {n : Nat} : (elapse n s).tbs = s.tbs := by simp

/-- R115. Time moves the stuck timers of the touch unit alone. -/
theorem elapse_touchKey (n : Nat) (s : State) (c : Fin 20) :
    (elapse n s).tsu.keys[c] = { s.tsu.keys[c] with stuck := ((elapse n s).tsu.keys[c]).stuck } ∧
    (elapse n s).tsu.lastScan = s.tsu.lastScan ∧ ((elapse n s).keq.keys[c]).down = (s.keq.keys[c]).down := by
  unfold elapse
  split
  · exact ⟨rfl, rfl, rfl⟩
  · refine ⟨?_, rfl, ?_⟩
    · simp
    · simp only [Fin.getElem_fin, Vector.getElem_ofFn, MappedKey.elapse]
      split <;> rfl

theorem rescan_touchKey (mode : ScanMode) (s : State) (c : Fin 20) : (rescan mode s).tsu.keys[c] =
    (s.tsu.keys[c]).rescanned (s.tbs.tables.keymap[c]).valid (inScannedSet mode s.tbs.tables c) := by
  rw [rescan_tsu]
  exact Vector.getElem_ofFn c.isLt

theorem TouchKey.rescanned_keeps (valid inSet : Bool) (k : TouchKey) :
    (k.rescanned valid inSet).baseline = k.baseline ∧ (k.rescanned valid inSet).corrected = k.corrected := by
  unfold TouchKey.rescanned TouchKey.toIdle
  (repeat' split) <;> exact ⟨rfl, rfl⟩

/-- R103. A key held that a scanned set lets go is handed as released, unless its entry is invalid. -/
theorem rescan_held (mode : ScanMode) {c : Fin 20} (hv : (s.tbs.tables.keymap[c]).valid = true)
    (h : (s.tsu.keys[c]).state.isTouch = true) :
    ((rescan mode s).tsu.keys[c]).state.isTouch = true ∨ leavesHeld s mode c = true := by
  obtain ⟨-, hleaves, henters, hstays⟩ :=
    (s.tsu.keys[c]).rescanned_rows (s.tbs.tables.keymap[c]).valid (inScannedSet mode s.tbs.tables c)
  rw [rescan_touchKey, ← leavesTouched_eq, leavesTouched, hv, h, Bool.and_true, Bool.true_and]
  rw [hv] at hleaves henters hstays
  cases hs : (s.tsu.keys[c]).scanned <;> cases hi : inScannedSet mode s.tbs.tables c <;>
    rw [hi] at hleaves henters hstays
  · rw [hstays rfl hs]; exact .inl h
  · rw [henters rfl hs rfl]; exact .inl h
  · exact .inr rfl
  · rw [hstays rfl hs]; exact .inl h

/-- R83, R101, R102. A wake keeps the key state of every channel whose entry is valid: ACTIVE scans them all. -/
theorem wake_touchState (cause : Cause) (d : Nat) (s : State) {c : Fin 20}
    (hv : (s.tbs.tables.keymap[c]).valid = true) :
    ((wake cause d s).tsu.keys[c]).state = (s.tsu.keys[c]).state := by
  have hwoken : (woken cause d s).tsu = s.tsu ∧ (woken cause d s).tbs = s.tbs := ⟨rfl, rfl⟩
  obtain ⟨htsu, htbs⟩ := hwoken
  rw [wake_eq, ← htsu]
  rw [← htbs] at hv
  generalize woken cause d s = w at *
  by_cases hr : w.znc.release = true ∧ w.fcl.hold = false
  · rw [(enterHeatHold_rows true w).1 hr]
    obtain ⟨-, henters, hstays⟩ := ((rescanned_switchOn (heatHeld true w)).2 c).2
    have hset : inScannedSet .active w.tbs.tables c = true := by
      unfold inScannedSet
      rw [hv]
      rfl
    cases hs : (w.tsu.keys[c]).scanned with
    | false => rw [henters hv hs hset]; rfl
    | true => rw [hstays hv (hs.trans hset.symm)]; rfl
  · rw [(enterHeatHold_rows true w).2 hr]
    rfl

end

/-! Baselines, scanned set, last scan -/

theorem TouchSteady.scanInstant {P : State → Prop} (ts : TouchSteady P)
    (blind : ∀ {s t : State}, P s → touchView t = touchView s → P t) (raw : Vector (BitVec 16) 22) {s : State}
    (h : P (s.setTsu (scanned raw s))) : P (scanInstant raw s) :=
  ts.plain.toSteady.scanInstant (fun h hv => blind h (by
    simp only [senseView, Prod.mk.injEq] at hv
    simp only [touchView, hv])) trivial trivial trivial raw h

theorem baselinesOk_blind {s t : State} (h : BaselinesOk s) (hv : touchView t = touchView s) : BaselinesOk t := by
  simp only [touchView, Prod.mk.injEq] at hv
  unfold BaselinesOk
  rwa [hv.2.1]

theorem baselinesOk_steady : TouchSteady BaselinesOk where
  frame hv _ h := baselinesOk_blind h hv
  retaken mode s u _ htsu _ h := by
    refine ⟨fun c => ?_, fun i => ?_⟩
    · rw [rescan_touchKey, htsu, (TouchKey.rescanned_keeps ..).1, (TouchKey.rescanned_keeps ..).2]
      exact h.1 c
    · rw [rescan_tsu, htsu]
      exact h.2 i

theorem baselinesOk_kept : TouchKept BaselinesOk where
  toTouchSteady := baselinesOk_steady
  elapse n s h := by
    refine ⟨fun c => ?_, fun i => ?_⟩
    · rw [(elapse_touchKey n s c).1]
      exact h.1 c
    · rw [(elapse_tsu n s).2.1]
      exact h.2 i
  scan raw s h := by
    refine baselinesOk_steady.scanInstant baselinesOk_blind raw ⟨fun c => ?_, fun i => scanned_ref_inRange (h.2 i)⟩
    rw [setTsu_tsu, scanned_key]
    exact scanKey_inRange raw (h.1 c).1 (h.1 c).2
  started rate T load image pending := by
    refine ⟨fun c => ?_, fun i => ?_⟩ <;> simp [State.atPowerOn, Tsu.powerOn, TouchKey.powerOn, TouchRef.powerOn]

theorem scannedSetOk_blind {s t : State} (h : ScannedSetOk s) (hv : touchView t = touchView s) : ScannedSetOk t := by
  simp only [touchView, Prod.mk.injEq] at hv
  obtain ⟨-, htsu, hkeymap, hchords⟩ := hv
  unfold ScannedSetOk inScannedSet at *
  rwa [htsu, hkeymap, hchords]

/-- R102 to R104. The set that a rescan takes is that of its mode, whatever the state before. -/
theorem scannedSetOk_rescan (mode : ScanMode) (s : State) : ScannedSetOk (rescan mode s) := by
  have htbs : (rescan mode s).tbs = s.tbs := by simp
  refine fun c => ⟨?_, fun hv => ?_⟩
  · rw [rescan_mode, htbs]
    exact rescan_scanned mode s c
  · rw [htbs] at hv
    rw [rescan_touchKey, ((s.tsu.keys[c]).rescanned_rows _ _).1 hv]

theorem scannedSetOk_steady : TouchSteady ScannedSetOk where
  frame hv _ h := scannedSetOk_blind h hv
  retaken mode _ u _ _ _ _ := scannedSetOk_rescan mode u

/-- R102, R106. A scan moves neither the scanned set nor a channel outside it. -/
theorem scanKey_scanned (raw : Vector (BitVec 16) 22) (s : State) (c : Fin 20) :
    (scanKey raw s c).1.scanned = (s.tsu.keys[c]).scanned := by
  have hstep : ∀ (g : Bool) (d : Int) (f : Nat) (e : KeymapEntry) (k : TouchKey),
      (k.step g d f e).1.scanned = k.scanned := fun g d f e k => by
    unfold TouchKey.step
    dsimp only
    (repeat' split)
    · rfl
    · exact (congrArg TouchKey.scanned (k.sense_keeps ..) :)
    · rfl
  cases hs : (s.tsu.keys[c]).scanned with
  | false => rw [scanKey_unscanned hs, hs]
  | true =>
    obtain ⟨-, -, hj, -⟩ := (s.tsu.keys[c]).judge_keeps (keyRaw raw c)
    by_cases hf : (s.tsu.keys[c]).faulted = false ∧ ((s.tsu.keys[c]).judge (keyRaw raw c)).faulted = true
    · rw [scanKey_struck hs hf.1 hf.2, hj, hs]
    · rw [scanKey_unstruck hs hf, hstep, hj, hs]

theorem ScannedSetOk.scanned {s : State} (h : ScannedSetOk s) (raw : Vector (BitVec 16) 22) :
    ScannedSetOk (s.setTsu (scanned raw s)) := by
  intro c
  rw [setTsu_tsu, setTsu_tbs, scanned_key, scanned_mode, scanKey_scanned]
  refine ⟨(h c).1, fun hv => ?_⟩
  have hunscanned : (s.tsu.keys[c]).scanned = false := by
    rw [(h c).1, inScannedSet, hv, Bool.false_and]
  rw [scanKey_unscanned hunscanned]
  exact (h c).2 hv

theorem scannedSetOk_kept : TouchKept ScannedSetOk where
  toTouchSteady := scannedSetOk_steady
  elapse n s h := by
    intro c
    rw [(elapse_touchKey n s c).1, (elapse_tsu n s).1, elapse_tbs]
    exact h c
  scan raw _ h := scannedSetOk_steady.scanInstant scannedSetOk_blind raw (h.scanned raw)
  started rate T load image pending := by
    intro c
    have hkey : (State.atPowerOn rate T load image pending).tsu.keys[c] =
        TouchKey.powerOn (inScannedSet .standby T c) := Vector.getElem_ofFn c.isLt
    rw [hkey]
    exact ⟨rfl, fun _ => rfl⟩

theorem lastScanOk_blind {s t : State} (h : LastScanOk s) (hv : touchView t = touchView s) : LastScanOk t := by
  simp only [touchView, Prod.mk.injEq] at hv
  unfold LastScanOk
  rwa [hv.1, hv.2.1]

theorem lastScanOk_steady : TouchSteady LastScanOk where
  frame hv _ h := lastScanOk_blind h hv
  retaken mode s u htick htsu _ h := by
    unfold LastScanOk
    rw [rescan_tsu, htsu, show (rescan mode u).tick = u.tick by simp, htick]
    exact h

theorem lastScanOk_kept : TouchKept LastScanOk where
  toTouchSteady := lastScanOk_steady
  elapse n s h := fun k hk => by
    rw [(elapse_touchKey n s 0).2.1] at hk
    rw [elapse_tick]
    exact Nat.le_add_right_of_le (h k hk)
  scan raw s _ := lastScanOk_steady.scanInstant lastScanOk_blind raw fun k hk => (Option.some.inj hk).ge
  started _ _ _ _ _ := nofun

/-! Keys held down -/

/-- R130, R131. A key that the key mapper holds down is held at the touch unit, or `pending` says that its release is
still to be handed. -/
def DownOr (pending : Fin 20 → Prop) (s : State) : Prop :=
  ∀ c : Fin 20, (s.keq.keys[c]).down = true → (s.tbs.tables.keymap[c]).valid = true →
    (s.tsu.keys[c]).state.isTouch = true ∨ pending c

theorem isTouch_iff (x : KeyState) : x.isTouch = true ↔ x = .touched ∨ x = .releasing := by
  cases x <;> simp [KeyState.isTouch]

theorem downKeysOk_iff (s : State) : DownKeysOk s ↔ DownOr (fun _ => False) s := by
  simp only [DownKeysOk, DownOr, isTouch_iff, or_false]

theorem downOr_steady (pending : Fin 20 → Prop) : TouchSteady (DownOr pending) where
  frame hv hd h c hc hval := by
    simp only [touchView, Prod.mk.injEq] at hv
    obtain ⟨-, htsu, hkeymap, -⟩ := hv
    rw [hkeymap] at hval
    rw [htsu]
    exact h c (hd c hc) hval
  retaken mode s u _ htsu hd h c hc hval := by
    rw [rescan_key] at hc
    rw [show (rescan mode u).tbs = u.tbs by simp] at hval
    split at hc
    · rw [(MappedKey.released_clear _).1] at hc
      exact nomatch hc
    next hstays =>
      obtain ⟨hdown, hvalid⟩ := hd c hc hval
      refine (h c hdown hvalid).imp_left fun ht => ?_
      rw [← htsu] at ht
      exact (rescan_held mode hval ht).resolve_right hstays

/-- R105, R130, R131. While a scan hands its transitions: a key held down is held at the touch unit or has its release
still to come among `l`, and a key whose touch is handed is held at the touch unit. -/
def Handing (f : Fin 20 → KeyTransition) (l : List (Fin 20)) (s : State) : Prop :=
  DownOr (fun c => c ∈ l ∧ ∃ cause, f c = .release cause) s ∧
  ∀ c : Fin 20, f c = .touch → (s.tbs.tables.keymap[c]).valid = true → (s.tsu.keys[c]).state.isTouch = true

theorem Handing.hand {f : Fin 20 → KeyTransition} {c : Fin 20} {l : List (Fin 20)} {s : State}
    (h : Handing f (c :: l) s) : Handing f l (handTransition c (f c) s) := by
  obtain ⟨u, hmoved, hothers, hhanded, hu⟩ := handTransition_taken c (f c) s
  obtain ⟨hdown, htouch⟩ := h
  obtain ⟨-, -, htbs, htsu⟩ := hmoved.view
  have hnow : Handing f l u := by
    refine ⟨fun j hj hv => ?_, fun j hj hv => ?_⟩
    · rw [htbs] at hv
      rw [htsu]
      by_cases hc : j = c
      · subst hc
        cases hf : f j with
        | none =>
          rw [hhanded.1 (.inl hf)] at hj
          exact (hdown j hj hv).imp_right fun ⟨_, _, hr⟩ => nomatch hf.symm.trans hr
        | touch => exact .inl (htouch j hf hv)
        | release cause => exact nomatch (hhanded.2.2 cause hf hv).1.symm.trans hj
      · rw [hothers j hc] at hj
        exact (hdown j hj hv).imp_right fun ⟨hm, hr⟩ => ⟨(List.mem_cons.1 hm).resolve_left hc, hr⟩
    · rw [htbs] at hv
      rw [htsu]
      exact htouch j hj hv
  rcases hu with hu | hu <;> rw [hu]
  · exact hnow
  · refine ⟨(downOr_steady _).plain.wake _ _ hnow.1, fun j hj hv => ?_⟩
    rw [show (wake .key c.val u).tbs = u.tbs by simp] at hv
    rw [wake_touchState .key c.val u hv]
    exact hnow.2 j hj hv

theorem Handing.all {f : Fin 20 → KeyTransition} {l : List (Fin 20)} {s : State} (h : Handing f l s) :
    Handing f [] (l.foldl (fun acc c => handTransition c (f c) acc) s) := by
  induction l generalizing s with
  | nil => exact h
  | cons c l ih => exact ih h.hand

/-- R105. What a scan finds is handed whole. -/
theorem DownKeysOk.scanned (raw : Vector (BitVec 16) 22) {s : State} (h : DownKeysOk s) :
    Handing (fun c => (scanKey raw s c).2) (List.finRange 20) (s.setTsu (scanned raw s)) := by
  refine ⟨fun c hc hv => ?_, fun c hc _ => ?_⟩ <;> rw [setTsu_tsu, scanned_key]
  · exact ((scanKey_holds raw s c).2 ((isTouch_iff _).2 (h c hc hv))).imp_right fun hr => ⟨List.mem_finRange c, hr⟩
  · exact (scanKey_holds raw s c).1 hc

theorem downKeysOk_steady : TouchSteady DownKeysOk := by
  simpa only [← funext fun s => propext (downKeysOk_iff s)] using downOr_steady fun _ => False

theorem downKeysOk_kept : TouchKept DownKeysOk where
  toTouchSteady := downKeysOk_steady
  elapse n s h c hc hv := by
    obtain ⟨hkey, -, hdown⟩ := elapse_touchKey n s c
    rw [hdown] at hc
    rw [elapse_tbs] at hv
    rw [hkey]
    exact h c hc hv
  scan raw s h := by
    have hst := downKeysOk_steady.plain.toSteady
    have hhanded : DownKeysOk ((List.finRange 20).foldl (fun acc c => handTransition c (scanKey raw s c).2 acc)
        (s.setTsu (scanned raw s))) := fun c hc hv =>
      ((isTouch_iff _).1 ((h.scanned raw).all.1 c hc hv |>.resolve_right fun hm => List.not_mem_nil hm.1))
    exact hst.frame (quiet_clearIdleSuppressed _) (hst.reportScan _ _ trivial trivial trivial hhanded)
  started rate T load image pending c hc _ := by
    simp [State.atPowerOn, Keq.powerOn, MappedKey.powerOn] at hc

/-! O10 -/

theorem someEntry_iff {α : Type} {n : Nat} {v : Vector α n} {p : α → Bool} :
    someEntry v p = true ↔ ∃ i : Fin n, p v[i] = true := by
  simp [someEntry, Fin.exists_iff, Vector.any_eq_true]

/-- R102. -/
theorem inScannedSet_iff (mode : ScanMode) (T : Tables) (c : Fin 20) : inScannedSet mode T c = true ↔
    (T.keymap[c]).valid = true ∧ (mode = .active ∨ (T.keymap[c]).wake = true ∨
      ∃ i : Fin 8, (T.chords[i]).valid = true ∧ (T.chords[i]).members.getLsbD c.val = true ∧
        ((T.chords[i]).condition = .any ∨ (T.chords[i]).condition = .railOff)) := by
  simp only [inScannedSet, Bool.and_eq_true, Bool.or_eq_true, someEntry_iff, beq_iff_eq, or_assoc, and_assoc]

/-- R103. The releases that taking a scanned set hands, in ascending channel order. -/
theorem rescan_eq (mode : ScanMode) (s : State) : rescan mode s =
    ((List.finRange 20).filter (leavesHeld s mode)).foldl (fun u c => releaseTransition c .normal u)
      (s.setTsu (rescan mode s).tsu) := by
  rw [rescan_tsu, ← funext (leavesTouched_eq s mode)]
  rfl

/-- Settles O10: each property by the events that move what it reads; a scanned set taken by the rows of each channel
and the releases it hands. -/
theorem everyStepKeepsBaselinesAndTheScannedSet : Obligations.EveryStepKeepsBaselinesAndTheScannedSet := by
  refine ⟨fun _ _ => baselinesOk_kept.kept.step, fun _ _ => scannedSetOk_kept.kept.step,
    fun _ _ => lastScanOk_kept.kept.step, fun _ _ => downKeysOk_kept.kept.step, inScannedSet_iff, fun mode s => ?_⟩
  refine ⟨.of_tsu (u := s) rfl rfl rfl, rescan_eq mode s, keysMoved_rescan mode s, fun c => ?_⟩
  obtain ⟨hnone, hsome⟩ := (s.keq.keys[c]).released_rows
  refine ⟨fun hl hr => ?_, fun hl hr => ?_, fun hl => ?_⟩ <;> rw [rescan_key, hl]
  · exact hnone hr
  · exact hsome hr
  · rfl

end Sys2Proof.Machine
end

section
/-! O44: scan instants, and the scan at which every measured key channel awaits its re-seed (R100, R101, R104, R105,
R109, R111, R117). -/

namespace Sys2Proof.Machine

section
variable {raw : Vector (BitVec 16) 22} {s : State} {c : Fin 20}

/-! Scan instants -/

theorem exec_scan (h : s.powered = true) (raw : Vector (BitVec 16) 22) : exec (.scan raw) s =
    .next (drivePins (if atScanInstant s then scanInstant raw s else s)) := whenPowered_on s _ h

theorem exec_scan_made (h : s.powered = true) (hi : atScanInstant s = true) (raw : Vector (BitVec 16) 22) :
    exec (.scan raw) s = .next (drivePins (scanInstant raw s)) := by rw [exec_scan h, if_pos hi]

/-- R101. A scan instant whose scan has not been made. -/
theorem atScanInstant_iff (s : State) : atScanInstant s = true ↔
    s.tsu.lastScan ≠ some s.tick ∧ (s.tsu.mode = .active ∨ (0 < s.tick ∧ s.tick % 8 = 0)) := by
  unfold atScanInstant scanWait
  cases s.tsu.mode with
  | active => by_cases h : s.tsu.lastScan = some s.tick <;> simp [h]
  | standby =>
    by_cases h : 0 < s.tick ∧ s.tick % 8 = 0 ∧ s.tsu.lastScan ≠ some s.tick
    · simp [h]
    · have hlt : s.tick % 8 < 8 := Nat.mod_lt _ (by decide)
      rw [if_neg h, beq_iff_eq]
      refine ⟨fun h0 => ?_, ?_⟩
      · have h0 : 8 - s.tick % 8 = 0 := h0
        omega
      · rintro ⟨hl, hm | ht⟩
        · exact nomatch hm
        · exact absurd ⟨ht.1, ht.2, hl⟩ h

/-! Faults and references at step 2 and 3 -/

/-- R106, R107. The counts after a measurement. -/
theorem judgeFault_rows (r outs ins : Nat) :
    (touchInRange r = false → outs < 3 → judgeFault r false outs ins = (false, outs + 1, ins)) ∧
    (touchInRange r = false → outs = 3 → judgeFault r false outs ins = (true, 4, 0)) ∧
    (touchInRange r = true → judgeFault r false outs ins = (false, 0, ins)) ∧
    (touchInRange r = true → ins < 15 → judgeFault r true outs ins = (true, outs, ins + 1)) ∧
    (touchInRange r = true → ins = 15 → judgeFault r true outs ins = (false, 0, 16)) ∧
    (touchInRange r = false → judgeFault r true outs ins = (true, outs, 0)) := by
  refine ⟨fun hr h => ?_, fun hr h => ?_, fun hr => ?_, fun hr h => ?_, fun hr h => ?_, fun hr => ?_⟩ <;>
    simp only [judgeFault, hr, if_true, Bool.false_eq_true, if_false]
  · exact if_neg (by omega)
  · subst h; rfl
  · exact if_neg (by omega)
  · subst h; rfl

/-- R106. A key channel in range and not FAULTED. -/
theorem TouchKey.judge_good {r : Nat} {k : TouchKey} (hr : touchInRange r = true) (hf : k.faulted = false) :
    k.judge r = { k with raw := r, outCount := 0 } := by
  obtain ⟨-, -, hj, -⟩ := judgeFault_rows r k.outCount k.inCount
  unfold TouchKey.judge
  rw [hf, hj hr]
  cases k
  cases hf
  rfl

theorem TouchRef.judge_good {r : Nat} {k : TouchRef} (hr : touchInRange r = true) (hf : k.faulted = false) :
    k.judge r = { k with raw := r, outCount := 0 } := by
  obtain ⟨-, -, hj, -⟩ := judgeFault_rows r k.outCount k.inCount
  unfold TouchRef.judge
  rw [hf, hj hr]
  cases k
  cases hf
  simp

theorem TouchRef.usable_iff (k : TouchRef) :
    k.usable = true ↔ touchInRange k.raw = true ∧ k.faulted = false ∧ k.seed = false := by
  simp [TouchRef.usable, and_assoc]

theorem TouchRef.formDelta_usable {k : TouchRef} (h : k.usable = true) :
    k.formDelta = { k with delta := (k.raw : Int) - (k.baseline / 16 : Nat) } := if_pos h

theorem Tsu.compareRefs_ref (t : Tsu) (i : Fin 2) : t.compareRefs.refs[i] = (t.refs[i]).formDelta := by
  unfold Tsu.compareRefs
  dsimp only
  split <;> exact Vector.getElem_ofFn i.isLt

/-- R110. A comparison. -/
theorem Tsu.compareRefs_both {t : Tsu} (h : (t.refs[0]).usable = true ∧ (t.refs[1]).usable = true) :
    let u := t.compareRefs
    let j := judgeDisagreement (decide (200 < ((u.refs[0]).delta - (u.refs[1]).delta).natAbs)) t
    u = { t with refs := u.refs, disagree := j.1, agree := j.2.1, disagreement := j.2.2 } := by
  unfold Tsu.compareRefs
  dsimp only
  rw [if_pos (by rw [h.1, h.2]; rfl)]

/-- R109, R110. Step 3 by what the references contribute. -/
theorem Tsu.compareRefs_rows (t : Tsu) :
    let u := t.compareRefs
    let both := (t.refs[0]).usable = true ∧ (t.refs[1]).usable = true
    let apart := 200 < ((u.refs[0]).delta - (u.refs[1]).delta).natAbs
    (both → apart → u.disagree = min 10 (t.disagree + 1) ∧ u.agree = 0 ∧
      u.disagreement = (t.disagreement || decide (9 ≤ t.disagree))) ∧
    (both → ¬apart → u.disagree = 0 ∧ u.agree = min 10 (t.agree + 1) ∧
      u.disagreement = (t.disagreement && decide (t.agree < 9))) ∧
    (¬both → u.disagree = t.disagree ∧ u.agree = t.agree ∧ u.disagreement = t.disagreement) := by
  intro u both apart
  have hreached : ∀ n : Nat, (10 ≤ min 10 (n + 1) ↔ 9 ≤ n) ∧ (min 10 (n + 1) < 10 ↔ n < 9) := by omega
  refine ⟨fun hb ha => ?_, fun hb ha => ?_, fun hb => ?_⟩
  · have hu : u = _ := Tsu.compareRefs_both hb
    rw [hu]
    dsimp only
    rw [show decide (200 < ((t.compareRefs.refs[0]).delta - (t.compareRefs.refs[1]).delta).natAbs) = true from
      decide_eq_true ha]
    simp only [judgeDisagreement, if_true, satAdd, (hreached _).1, and_self]
  · have hu : u = _ := Tsu.compareRefs_both hb
    rw [hu]
    dsimp only
    rw [show decide (200 < ((t.compareRefs.refs[0]).delta - (t.compareRefs.refs[1]).delta).natAbs) = false from
      decide_eq_false ha]
    simp only [judgeDisagreement, Bool.false_eq_true, if_false, satAdd, (hreached _).2, and_self]
  · have hboth : ((t.refs[0]).usable && (t.refs[1]).usable) = false := by simpa [both] using hb
    have hu : u = { t with refs := u.refs } := by
      change t.compareRefs = { t with refs := t.compareRefs.refs }
      unfold Tsu.compareRefs
      rw [if_neg (by rw [hboth]; exact Bool.false_ne_true)]
    rw [hu]
    exact ⟨rfl, rfl, rfl⟩

/-- R109. -/
theorem Tsu.compareRefs_dRef (t : Tsu) :
    let u := t.compareRefs
    u.dRef = if ((t.refs[0]).usable = true ∧ (t.refs[1]).usable = true) ∧ u.disagreement = false then
      ((u.refs[0]).delta + (u.refs[1]).delta).tdiv 2 else 0 := by
  intro u
  have husable : ∀ i : Fin 2, (u.refs[i]).usable = (t.refs[i]).usable := fun i => by
    rw [show u.refs[i] = _ from t.compareRefs_ref i]
    unfold TouchRef.formDelta
    split <;> rfl
  have h0 := husable 0
  have h1 := husable 1
  unfold Tsu.dRef
  dsimp only [Fin.getElem_fin, Fin.isValue, Fin.coe_ofNat_eq_mod, Nat.zero_mod, Nat.one_mod] at h0 h1 ⊢
  rw [h0, h1]
  simp only [Bool.and_eq_true, Bool.not_eq_true', and_assoc]

/-! The re-seeding scan -/

/-- R104, R106. A key channel in range, not FAULTED, at its re-seed. -/
theorem scanKey_reseeds (hs : (s.tsu.keys[c]).scanned = true) (hr : touchInRange (keyRaw raw c) = true)
    (hf : (s.tsu.keys[c]).faulted = false) (hseed : (s.tsu.keys[c]).seed = true) : scanKey raw s c =
      ((({ s.tsu.keys[c] with raw := keyRaw raw c, outCount := 0 } : TouchKey).reseed
        (correctedCount (keyRaw raw c) (scanPrepared raw s).dRef (s.tbs.tables.keymap[c]).weight)), .none) := by
  have hjudged := TouchKey.judge_good hr hf
  rw [scanKey_unstruck hs (by rw [hjudged, hf]; simp), hjudged]
  unfold TouchKey.step
  dsimp only
  rw [hr, hf, hseed]
  rfl

/-- R104, R105. A scan that strikes no fault, finds no touch and begins no condition. -/
theorem scanInstant_quiet (hnone : ∀ c : Fin 20, (scanKey raw s c).2 = .none)
    (hkeys : ∀ c : Fin 20, ((scanned raw s).keys[c]).faulted = (s.tsu.keys[c]).faulted)
    (hrefs : ∀ i : Fin 2, ((scanned raw s).refs[i]).faulted = (s.tsu.refs[i]).faulted)
    (hdis : (scanned raw s).disagreement = s.tsu.disagreement)
    (h11 : (s.fcl.records[11]).state ≠ .active) (h13 : (s.fcl.records[13]).state ≠ .active) :
    scanInstant raw s = clearIdleSuppressed (s.setTsu (scanned raw s)) := by
  have hhanded : ∀ l : List (Fin 20), ∀ u : State,
      l.foldl (fun acc c => handTransition c (scanKey raw s c).2 acc) u = u := fun l u =>
    List.foldlRecOn (motive := fun v => v = u) l _ rfl fun v hv c _ => by rw [hnone c]; exact hv
  have hfaults : faultEntries s.tsu (scanned raw s) = [] := by
    unfold faultEntries indexesWhere
    simp only [hkeys, hrefs, Bool.not_and_self, List.filter_false, List.map_nil, List.append_nil]
  have hstuck : stuckKeys raw s = [] := by
    unfold stuckKeys indexesWhere
    simp only [hnone]
    rw [List.filter_eq_nil_iff.2 fun c _ => by decide]
    rfl
  have hstays : ∀ (k : FaultKind) (u : State), (u.fcl.records[k]).state ≠ .active → conditionChanged k u = u :=
    fun k u h => if_neg fun hx => h hx.2.1
  unfold scanInstant reportScan
  dsimp only
  rw [hhanded, setTsu_tsu, hfaults, hstuck, hdis, Bool.not_and_self]
  change clearIdleSuppressed (conditionChanged 13 (conditionChanged 11 (s.setTsu (scanned raw s)))) = _
  rw [hstays 11 (s.setTsu (scanned raw s)) h11, hstays 13 (s.setTsu (scanned raw s)) h13]

theorem scanned_disagreement (raw : Vector (BitVec 16) 22) (s : State) :
    (scanned raw s).disagreement = ((s.tsu.judged raw).compareRefs).disagreement := by
  dsimp only [scanned, scanPrepared]

theorem judged_counts (raw : Vector (BitVec 16) 22) (t : Tsu) :
    (t.judged raw).disagreement = t.disagreement ∧ (t.judged raw).disagree = t.disagree := by
  dsimp only [Tsu.judged]
  exact ⟨rfl, rfl⟩

/-- R106, R109, R117. A reference in range, not FAULTED and not re-seeding, over a whole scan. -/
theorem TouchRef.scan_good {r : Nat} {k : TouchRef} (hr : touchInRange r = true) (hf : k.faulted = false)
    (hs : k.seed = false) (factor : Nat) : (k.judge r).usable = true ∧
    (k.judge r).formDelta.delta = (r : Int) - (k.baseline / 16 : Nat) ∧
    ((k.judge r).formDelta.follow factor).faulted = k.faulted ∧
    ((k.judge r).formDelta.follow factor).delta = (r : Int) - (k.baseline / 16 : Nat) ∧
    ((k.judge r).formDelta.follow factor).baseline = stepBaseline k.baseline r factor := by
  have hjudged := TouchRef.judge_good hr hf
  have husable : (k.judge r).usable = true := by
    rw [hjudged, TouchRef.usable_iff]
    exact ⟨hr, hf, hs⟩
  have hfollow : ∀ m : TouchRef, m.usable = true →
      m.follow factor = { m with baseline := stepBaseline m.baseline m.raw factor } := fun m hm => by
    obtain ⟨hr, hf, hs⟩ := m.usable_iff.1 hm
    unfold TouchRef.follow
    rw [hr, hf, hs]
    rfl
  refine ⟨husable, ?_⟩
  rw [TouchRef.formDelta_usable husable, hfollow _ (by exact husable), hjudged]
  exact ⟨rfl, rfl, rfl, rfl⟩

/-- R110. Under nine comparisons apart no condition begins. -/
theorem Tsu.compareRefs_agreed {t : Tsu} (hd : t.disagreement = false) (hn : t.disagree < 9) :
    t.compareRefs.disagreement = false := by
  obtain ⟨hapart, hwithin, hstands⟩ := t.compareRefs_rows
  by_cases hb : (t.refs[0]).usable = true ∧ (t.refs[1]).usable = true
  · by_cases ha : 200 < ((t.compareRefs.refs[0]).delta - (t.compareRefs.refs[1]).delta).natAbs
    · rw [(hapart hb ha).2.2, hd, decide_eq_false (by omega)]
      rfl
    · rw [(hwithin hb ha).2.2, hd]
      rfl
  · rw [(hstands hb).2.2, hd]

theorem judged_ref (raw : Vector (BitVec 16) 22) (t : Tsu) (i : Fin 2) :
    (t.judged raw).refs[i] = (t.refs[i]).judge (refRaw raw i) := Vector.getElem_ofFn i.isLt

theorem clearIdleSuppressed_eq (s : State) : clearIdleSuppressed s = s.setKeq (clearIdleSuppressed s).keq ∧
    (clearIdleSuppressed s).keq.queue = s.keq.queue := by
  have hset : ∀ p q : Keq, (s.setKeq p).setKeq q = s.setKeq ((s.setKeq p).setKeq q).keq := fun _ _ => rfl
  exact ⟨hset _ _, by simp [clearIdleSuppressed, syncChords]⟩

/-- R105, R133. The end of a scan that hands and reports nothing. -/
theorem reseeded_frame (v : Tsu) (s : State) :
    let t := drivePins (clearIdleSuppressed (s.setTsu v))
    t = { s with tsu := t.tsu, keq := t.keq, pog := { s.pog with applied := t.pog.applied } } ∧
    t.keq.queue = s.keq.queue ∧ t.tsu = v := by
  obtain ⟨hcleared, hqueue⟩ := clearIdleSuppressed_eq (s.setTsu v)
  have hends : ∀ q : Keq, let t := drivePins ((s.setTsu v).setKeq q)
      t = { s with tsu := t.tsu, keq := t.keq, pog := { s.pog with applied := t.pog.applied } } ∧
      t.keq.queue = q.queue ∧ t.tsu = v := fun q => by
    unfold drivePins
    exact ⟨rfl, rfl, rfl⟩
  have h := hends (clearIdleSuppressed (s.setTsu v)).keq
  rw [← hcleared, hqueue] at h
  exact h

/-- Settles O44: at such a scan every measured key channel takes its re-seed, so nothing is handed or reported. -/
theorem aReseedingScanStartsFreshBaselines : Obligations.AReseedingScanStartsFreshBaselines := by
  refine ⟨fun raw s hp => ⟨atScanInstant_iff s, fun hi => ?_⟩, fun raw s hp hi h11 h13 hd hn hrefs hkeys => ?_⟩
  · rw [exec_scan hp, hi]
    exact ⟨_, rfl, rfl⟩
  have hgood := fun i : Fin 2 =>
    TouchRef.scan_good (hrefs i).1 (hrefs i).2.1 (hrefs i).2.2 (driftFactor (scanDrift s))
  simp only [← scanned_ref] at hgood
  have hagree : (scanned raw s).disagreement = false := by
    obtain ⟨hdis, hcount⟩ := judged_counts raw s.tsu
    rw [scanned_disagreement]
    exact Tsu.compareRefs_agreed (hdis.trans hd) (hcount.trans_lt hn)
  have hkept : ∀ c : Fin 20, (s.tsu.keys[c]).scanned = false → scanKey raw s c = (s.tsu.keys[c], .none) := fun c =>
    scanKey_unscanned
  have hscan := fun (c : Fin 20) (hs : (s.tsu.keys[c]).scanned = true) =>
    scanKey_reseeds hs (hkeys c hs).1 (hkeys c hs).2.1 (hkeys c hs).2.2
  have hquiet := scanInstant_quiet (raw := raw) (s := s)
    (fun c => by
      cases hs : (s.tsu.keys[c]).scanned with
      | false => rw [hkept c hs]
      | true => rw [hscan c hs])
    (fun c => by
      rw [scanned_key]
      cases hs : (s.tsu.keys[c]).scanned with
      | false => rw [hkept c hs]
      | true => rw [hscan c hs]; rfl)
    (fun i => (hgood i).2.2.1) (hagree.trans hd.symm) h11 h13
  have hdRef : (scanPrepared raw s).dRef = (((refRaw raw 0 : Int) - ((s.tsu.refs[0]).baseline / 16 : Nat) +
      ((refRaw raw 1 : Int) - ((s.tsu.refs[1]).baseline / 16 : Nat))).tdiv 2) := by
    have h : (scanPrepared raw s).dRef = _ := Tsu.compareRefs_dRef (s.tsu.judged raw)
    have husable := fun i => (congrArg TouchRef.usable (judged_ref raw s.tsu i)).trans (hgood i).1
    have hdelta := fun i => (congrArg TouchRef.delta (Tsu.compareRefs_ref (s.tsu.judged raw) i)).trans
      ((congrArg (fun k => k.formDelta.delta) (judged_ref raw s.tsu i)).trans (hgood i).2.1)
    rw [h, if_pos ⟨⟨husable 0, husable 1⟩, (scanned_disagreement raw s).symm.trans hagree⟩]
    exact congrArg₂ (fun a b : Int => (a + b).tdiv 2) (hdelta 0) (hdelta 1)
  rw [exec_scan_made hp hi, hquiet]
  have hlast : (scanned raw s).lastScan = some s.tick := by dsimp only [scanned]
  have hmode := scanned_mode raw s
  have hkey := scanned_key raw s
  obtain ⟨hframe, hqueue, htsu⟩ := reseeded_frame (scanned raw s) s
  refine ⟨_, rfl, hframe, hqueue, ?_⟩
  rw [htsu]
  generalize scanned raw s = v at hagree hlast hmode hkey hgood
  refine ⟨hmode, hagree, hlast, fun c hs => ?_, fun c hs => ?_, fun i => (hgood i).2.2.2⟩ <;>
    rw [hkey]
  · rw [hkept c hs]
  · rw [hscan c hs, hdRef]
    exact ⟨rfl, rfl, rfl, rfl, rfl, rfl⟩

end
end Sys2Proof.Machine
end

section
/-! O45: channel faults, the disagreement of the references, guard and thresholds, as functions and as a scan leaves
them (R106 to R110, R112, R156). -/

namespace Sys2Proof.Machine

/-! What stays through the transitions and the reports of a scan -/

theorem touchView_of_senseView {s t : State} (h : senseView t = senseView s) : touchView t = touchView s := by
  simp only [senseView, Prod.mk.injEq] at h
  simp only [touchView, h]

/-- A property that reads the touch unit, the tick count, T0 and T1 alone and that every rescan keeps. -/
theorem Steady.of_blind {P : State → Prop} (blind : ∀ {s t : State}, P s → touchView t = touchView s → P t)
    (hr : ∀ (mode : ScanMode) {s : State}, P s → P (Machine.rescan mode s)) : Steady (fun _ => True) P where
  frame hq h := blind h (touchView_of_senseView hq.1)
  rescan mode _ h := hr mode h
  decided := trivial
  occur _ _ _ h := blind h (by simp [touchView])
  ended _ _ _ h := blind h rfl

/-- R110, R112. The disagreement condition and guard as `v` has them. -/
def GuardAs (v : Tsu) (s : State) : Prop := s.tsu.disagreement = v.disagreement ∧ s.tsu.guarded = v.guarded

theorem guardAs_blind {v : Tsu} {s t : State} (h : GuardAs v s) (hv : touchView t = touchView s) : GuardAs v t := by
  simp only [touchView, Prod.mk.injEq] at hv
  unfold GuardAs
  rwa [hv.2.1]

theorem guardAs_setTsu (v : Tsu) (s : State) : GuardAs v (s.setTsu v) := ⟨rfl, rfl⟩

theorem guardAs_steady (v : Tsu) : Steady (fun _ => True) (GuardAs v) :=
  .of_blind guardAs_blind fun mode s h => by
    unfold GuardAs
    rw [rescan_tsu]
    exact h

/-- R103, R107, R108. The channels FAULTED as `v` has them, none of them DISABLED. -/
def FaultsAs (v : Tsu) (s : State) : Prop :=
  (∀ c : Fin 20, (s.tsu.keys[c]).faulted = (v.keys[c]).faulted ∧
    ((s.tbs.tables.keymap[c]).valid = false → (v.keys[c]).faulted = false)) ∧
  ∀ i : Fin 2, (s.tsu.refs[i]).faulted = (v.refs[i]).faulted

theorem faultsAs_blind {v : Tsu} {s t : State} (h : FaultsAs v s) (hv : touchView t = touchView s) : FaultsAs v t := by
  simp only [touchView, Prod.mk.injEq] at hv
  obtain ⟨-, htsu, hkeymap, -⟩ := hv
  unfold FaultsAs
  rwa [htsu, hkeymap]

theorem TouchKey.rescanned_faulted (valid inSet : Bool) (k : TouchKey) (h : valid = false → k.faulted = false) :
    (k.rescanned valid inSet).faulted = k.faulted := by
  unfold TouchKey.rescanned TouchKey.toIdle
  cases valid with
  | false => exact (h rfl).symm
  | true =>
    rw [if_neg (by decide)]
    (repeat' split) <;> rfl

theorem faultsAs_steady (v : Tsu) : Steady (fun _ => True) (FaultsAs v) :=
  .of_blind faultsAs_blind fun mode s h => by
    have htbs : (rescan mode s).tbs = s.tbs := by simp
    refine ⟨fun c => ?_, fun i => ?_⟩
    · obtain ⟨hf, hv⟩ := h.1 c
      rw [rescan_touchKey, htbs, TouchKey.rescanned_faulted _ _ _ fun hx => hf.trans (hv hx)]
      exact ⟨hf, hv⟩
    · rw [rescan_tsu]
      exact h.2 i

theorem FaultsAs.touchCondition {v : Tsu} {s : State} (h : FaultsAs v s) :
    touchCondition s.tsu = Machine.touchCondition v :=
  congrArg₂ or (someEntry_congr fun c => (h.1 c).1) (someEntry_congr h.2)

theorem FaultsAs.faultEntries {v : Tsu} {s : State} (h : FaultsAs v s) (before : Tsu) :
    faultEntries before s.tsu = Machine.faultEntries before v := by
  unfold Machine.faultEntries
  simp only [fun c => (h.1 c).1, h.2]

/-- R103. In a state that meets the scanned set's invariant no FAULTED channel is DISABLED. -/
theorem ScannedSetOk.faultsAs {s : State} (h : ScannedSetOk s) : FaultsAs s.tsu s :=
  ⟨fun c => ⟨rfl, (h c).2⟩, fun _ => rfl⟩

/-! The faults that a scan finds -/

section
variable {raw : Vector (BitVec 16) 22} {s : State}

/-- R106, R107. Step 5 and 6 fault no channel. -/
theorem scanKey_faulted (raw : Vector (BitVec 16) 22) (s : State) (c : Fin 20) :
    (scanKey raw s c).1.faulted = (((s.tsu.judged raw).compareRefs).keys[c]).faulted := by
  have hstep : ∀ (g : Bool) (d : Int) (f : Nat) (e : KeymapEntry) (k : TouchKey),
      (k.step g d f e).1.faulted = k.faulted := fun g d f e k => by
    unfold TouchKey.step
    dsimp only
    (repeat' split)
    · rfl
    · exact (congrArg TouchKey.faulted (k.sense_keeps ..) :)
    · rfl
  have hprep := scanPrepared_key raw s c
  change (((s.tsu.judged raw).compareRefs).keys)[c] = _ at hprep
  rw [hprep]
  cases hs : (s.tsu.keys[c]).scanned with
  | false => rw [scanKey_unscanned hs]; rfl
  | true =>
    rw [if_pos rfl]
    by_cases hf : (s.tsu.keys[c]).faulted = false ∧ ((s.tsu.keys[c]).judge (keyRaw raw c)).faulted = true
    · rw [scanKey_struck hs hf.1 hf.2]
    · rw [scanKey_unstruck hs hf, hstep]

theorem scanned_ref_faulted (raw : Vector (BitVec 16) 22) (s : State) (i : Fin 2) :
    ((scanned raw s).refs[i]).faulted = (((s.tsu.judged raw).compareRefs).refs[i]).faulted := by
  rw [scanned_ref, Tsu.compareRefs_ref, judged_ref]
  unfold TouchRef.follow
  (repeat' split) <;> rfl

/-- R108. The channels that a scan makes FAULTED, by their index. -/
theorem faultEntries_eq (before after : Tsu) : faultEntries before after =
    ((List.finRange 22).filter fun c : Fin 22 =>
      if h : c.val < 20 then !(before.keys[c.val]).faulted && (after.keys[c.val]).faulted
      else !(before.refs[c.val - 20]).faulted && (after.refs[c.val - 20]).faulted).map Fin.val := by
  have hsplit : List.finRange 22 = (List.finRange 20).map (Fin.castAdd 2) ++ (List.finRange 2).map (Fin.natAdd 20) := by
    decide
  rw [hsplit, List.filter_append, List.map_append, List.filter_map, List.filter_map, List.map_map, List.map_map]
  unfold faultEntries indexesWhere
  refine congrArg₂ (· ++ ·) ?_ ?_
  · refine congrArg₂ List.map rfl (List.filter_congr fun c _ => ?_)
    simp
  · refine congrArg₂ List.map (funext fun i => Nat.add_comm _ _) (List.filter_congr fun i _ => ?_)
    simp

/-- R105. What the transitions of a scan keep. -/
theorem handAll_keeps (f : Fin 20 → KeyTransition) (l : List (Fin 20)) (s : State) :
    (l.foldl (fun acc c => handTransition c (f c) acc) s).fcl = s.fcl ∧
    (l.foldl (fun acc c => handTransition c (f c) acc) s).tick = s.tick := by
  refine List.foldlRecOn (motive := fun u : State => u.fcl = s.fcl ∧ u.tick = s.tick) l _ ⟨rfl, rfl⟩ fun v hv c _ => ?_
  obtain ⟨u, hmoved, -, -, hu⟩ := handTransition_taken c (f c) v
  have hview := hmoved.view.1
  simp only [senseView, Prod.mk.injEq] at hview
  obtain ⟨htick, -, -, -, -, hfcl, -⟩ := hview
  rcases hu with hu | hu <;> rw [hu]
  · exact ⟨hfcl.trans hv.1, htick.trans hv.2⟩
  · simp only [wake_keeps]
    exact ⟨hfcl.trans hv.1, htick.trans hv.2⟩

/-- R105, R108, R115. The occurrences that a scan reports, before the conditions that ended are judged. -/
def scanReports (before : Tsu) (stuck : List Nat) (s : State) : State :=
  reportAll 12 stuck (reportAll 13 (if !before.disagreement && s.tsu.disagreement then [0] else [])
    (reportAll 11 (faultEntries before s.tsu) s))

theorem reportScan_eq (before : Tsu) (stuck : List Nat) (s : State) :
    reportScan before stuck s = conditionChanged 13 (conditionChanged 11 (scanReports before stuck s)) := rfl

theorem Steady.scanReports {K : FaultKind → Prop} {P : State → Prop} (st : Steady K P) (before : Tsu) (stuck : List Nat)
    (h11 : K 11) (h12 : K 12) (h13 : K 13) {s : State} (h : P s) : P (scanReports before stuck s) :=
  st.reportAll h12 _ (st.reportAll h13 _ (st.reportAll h11 _ h))

/-- R155. The records of a scan's occurrences. -/
theorem scanReports_records (before : Tsu) (stuck : List Nat) (s : State) :
    let t := scanReports before stuck s
    t.fcl.records[(11 : FaultKind)] =
      (faultEntries before s.tsu).foldl (fun r d => r.occur 11 d (s.tick % 65536)) s.fcl.records[(11 : FaultKind)] ∧
    t.fcl.records[(12 : FaultKind)] =
      stuck.foldl (fun r d => r.occur 12 d (s.tick % 65536)) s.fcl.records[(12 : FaultKind)] ∧
    (before.disagreement = false → s.tsu.disagreement = true →
      t.fcl.records[(13 : FaultKind)] = (s.fcl.records[(13 : FaultKind)]).occur 13 0 (s.tick % 65536)) := by
  intro t
  have htick : ∀ (k : FaultKind) (l : List Nat) (u : State), (reportAll k l u).tick = u.tick := fun k l u =>
    (reportAll_keeps k l u).2.1
  have ht : t = reportAll 12 stuck (reportAll 13 (if !before.disagreement && s.tsu.disagreement then [0] else [])
    (reportAll 11 (faultEntries before s.tsu) s)) := rfl
  rw [ht]
  refine ⟨?_, ?_, fun hb hs => ?_⟩
  · rw [reportAll_record_ne (by decide) (by decide), reportAll_record_ne (by decide) (by decide),
      reportAll_record_same (by decide)]
  · rw [reportAll_record_same (by decide), reportAll_record_ne (by decide) (by decide),
      reportAll_record_ne (by decide) (by decide), htick, htick]
  · rw [reportAll_record_ne (by decide) (by decide), reportAll_record_same (by decide),
      reportAll_record_ne (by decide) (by decide), htick, hb, hs]
    rfl

theorem clearIdleSuppressed_fcl (s : State) : (clearIdleSuppressed s).fcl = s.fcl := by simp

/-- R108. A channel that a scan makes FAULTED makes the condition. -/
theorem touchCondition_of_faultEntries {before after : Tsu} (h : faultEntries before after ≠ []) :
    touchCondition after = true := by
  unfold touchCondition
  rw [Bool.or_eq_true, someEntry_iff, someEntry_iff]
  obtain ⟨n, hn⟩ := List.exists_mem_of_ne_nil _ h
  unfold faultEntries at hn
  rw [List.mem_append, List.mem_map, List.mem_map] at hn
  rcases hn with ⟨c, hc, -⟩ | ⟨i, hi, -⟩
  · have hf := (List.mem_filter.1 hc).2
    exact .inl ⟨c, (Bool.and_eq_true_iff.1 hf).2⟩
  · have hf := (List.mem_filter.1 hi).2
    exact .inr ⟨i, (Bool.and_eq_true_iff.1 hf).2⟩

/-- R105. The state in which a scan reports: its channels taken, its transitions handed. -/
def scanHanded (raw : Vector (BitVec 16) 22) (s : State) : State :=
  (List.finRange 20).foldl (fun acc c => handTransition c (scanKey raw s c).2 acc) (s.setTsu (scanned raw s))

theorem scanInstant_eq (raw : Vector (BitVec 16) 22) (s : State) : scanInstant raw s =
    clearIdleSuppressed (conditionChanged 13 (conditionChanged 11
      (scanReports s.tsu (stuckKeys raw s) (scanHanded raw s)))) := rfl

theorem scanHanded_keeps (raw : Vector (BitVec 16) 22) (s : State) :
    (scanHanded raw s).fcl = s.fcl ∧ (scanHanded raw s).tick = s.tick := handAll_keeps _ _ _

theorem scanInstant_tick (raw : Vector (BitVec 16) 22) (s : State) : (scanInstant raw s).tick = s.tick := by
  rw [scanInstant_eq]
  simp [Machine.scanReports, (scanHanded_keeps raw s).2]

/-- R110, R155. A disagreement that begins at a scan is counted as F13. -/
theorem scanInstant_counts13 (hb : s.tsu.disagreement = false) (hv : (scanned raw s).disagreement = true) :
    Counted s (scanInstant raw s) 13 0 := by
  obtain ⟨hfcl, htick⟩ := scanHanded_keeps raw s
  have hst := guardAs_steady (scanned raw s)
  have hhanded : GuardAs (scanned raw s) (scanHanded raw s) :=
    hst.handAll (fun h hv => guardAs_blind h (touchView_of_senseView hv)) _ _ (guardAs_setTsu _ _)
  have hpresent : faultCondition (conditionChanged 11 (scanReports s.tsu (stuckKeys raw s) (scanHanded raw s))) 13 =
      true := by
    change Tsu.disagreement _ = true
    rw [(hst.conditionChanged trivial (hst.scanReports _ _ trivial trivial trivial hhanded)).1, hv]
  refine .of_occur (scanInstant_tick raw s) ?_
  rw [scanInstant_eq, clearIdleSuppressed_fcl, conditionChanged_present hpresent,
    conditionChanged_record_ne (by decide), (scanReports_records _ _ _).2.2 hb (hhanded.1.trans hv), hfcl, htick]

/-- R106, R108, R155. The channels that a scan makes FAULTED are counted as F11, and its condition stays. -/
theorem scanInstant_counts11 (hok : ScannedSetOk s) :
    let l := faultEntries s.tsu (scanned raw s)
    let counted := l.foldl (fun r d => r.occur 11 d (s.tick % 65536)) s.fcl.records[(11 : FaultKind)]
    let r := (scanInstant raw s).fcl.records[(11 : FaultKind)]
    r = { counted with state := r.state } ∧ (l ≠ [] → r = counted) := by
  intro l counted r
  obtain ⟨hfcl, htick⟩ := scanHanded_keeps raw s
  have hst := faultsAs_steady (scanned raw s)
  have hhanded : FaultsAs (scanned raw s) (scanHanded raw s) :=
    hst.handAll (fun h hv => faultsAs_blind h (touchView_of_senseView hv)) _ _ (hok.scanned raw).faultsAs
  have hreports := (scanReports_records s.tsu (stuckKeys raw s) (scanHanded raw s)).1
  rw [hhanded.faultEntries, hfcl, htick] at hreports
  have hr : r = (conditionChanged 11 (scanReports s.tsu (stuckKeys raw s) (scanHanded raw s))).fcl.records[
      (11 : FaultKind)] := by
    change (scanInstant raw s).fcl.records[(11 : FaultKind)] = _
    rw [scanInstant_eq, clearIdleSuppressed_fcl, conditionChanged_record_ne (by decide)]
  refine ⟨?_, fun hl => ?_⟩
  · have hsame := conditionChanged_record_same 11 (scanReports s.tsu (stuckKeys raw s) (scanHanded raw s))
    rw [← hr, hreports] at hsame
    exact hsame
  · have hkept := hst.scanReports s.tsu (stuckKeys raw s) trivial trivial trivial hhanded
    have hpresent : faultCondition (scanReports s.tsu (stuckKeys raw s) (scanHanded raw s)) 11 = true :=
      hkept.touchCondition.trans (touchCondition_of_faultEntries hl)
    rw [hr, conditionChanged_present hpresent, hreports]

theorem scanned_guarded (raw : Vector (BitVec 16) 22) (s : State) :
    (scanned raw s).guarded = guardNow s ((s.tsu.judged raw).compareRefs).disagreement := by
  dsimp only [scanned, scanPrepared]

/-- R148. The pins show nothing of the records. -/
theorem Counted.drivePins {s t : State} {k : FaultKind} {d : Nat} (h : Counted s t k d) :
    Counted s (drivePins t) k d := h

/-- R108. Occurrences counted one by one, over what a scan makes FAULTED. -/
theorem CountedEach.of_list {n : Nat} {s t : State} {k : FaultKind} {began : Fin n → Bool} {l : List Nat}
    (hl : l = ((List.finRange n).filter began).map Fin.val) (htick : t.tick = s.tick)
    (hcounted : t.fcl.records[k] = { l.foldl (fun r d => r.occur k d (s.tick % 65536)) s.fcl.records[k] with
      state := (t.fcl.records[k]).state })
    (hall : l ≠ [] → t.fcl.records[k] = l.foldl (fun r d => r.occur k d (s.tick % 65536)) s.fcl.records[k]) :
    CountedEach s t k began := by
  refine ⟨?_, fun i hi => .of_occur htick ?_⟩
  · rw [show ((List.finRange n).filter began).length = l.length by rw [hl, List.length_map]]
    exact .of_reported htick hcounted
  · rw [hi] at hl
    rw [hall (by rw [hl]; exact List.cons_ne_nil _ _), hl]
    rfl

/-- Settles O45: the rows of step 2 and 3; what a scan finds stays through its transitions and reports. -/
theorem channelFaultsDisagreementAndGuard : Obligations.ChannelFaultsDisagreementAndGuard := by
  refine ⟨fun r outs ins => ⟨?_, judgeFault_rows r outs ins⟩, fun t => ?_, fun s d e => ?_, fun raw s hp hi => ?_⟩
  · simp [touchInRange]
  · obtain ⟨hapart, hwithin, hstands⟩ := t.compareRefs_rows
    refine ⟨fun i hu => ?_, hapart, hwithin, hstands, t.compareRefs_dRef⟩
    rw [Tsu.compareRefs_ref, TouchRef.formDelta_usable hu]
  · exact ⟨by simp [guardNow], rfl, rfl, rfl, rfl⟩
  · intro u
    have hguard : GuardAs (scanned raw s) (scanInstant raw s) :=
      (guardAs_steady _).scanInstant (fun h hv => guardAs_blind h (touchView_of_senseView hv)) trivial trivial trivial
        raw (guardAs_setTsu _ _)
    have hkeeps : ∀ t : State, (drivePins t).tsu = t.tsu ∧ (drivePins t).fcl = t.fcl ∧ (drivePins t).tick = t.tick :=
      fun t => ⟨rfl, rfl, rfl⟩
    obtain ⟨htsu, hfcl, htick⟩ := hkeeps (scanInstant raw s)
    refine ⟨_, exec_scan_made hp hi raw, ?_, ?_, fun hb hu => ?_, fun hok => ?_⟩
    · rw [htsu, hguard.1, scanned_disagreement]
    · rw [htsu, hguard.2, scanned_guarded]
    · exact (scanInstant_counts13 hb ((scanned_disagreement raw s).trans hu)).drivePins
    · obtain ⟨hcounted, hall⟩ := scanInstant_counts11 (raw := raw) hok
      have hentries := faultEntries_eq s.tsu (scanned raw s)
      rw [← hfcl] at hcounted hall
      refine .of_list (hentries.trans ?_) (htick.trans (scanInstant_tick raw s)) hcounted hall
      refine congrArg (List.map Fin.val) (List.filter_congr fun c _ => ?_)
      split
      next hc =>
        have hkey := scanKey_faulted raw s ⟨c.val, hc⟩
        rw [← scanned_key] at hkey
        exact congrArg₂ and rfl hkey
      next hc =>
        have href := scanned_ref_faulted raw s ⟨c.val - 20, by omega⟩
        exact congrArg₂ and rfl href

end
end Sys2Proof.Machine
end

section
/-! O46: a key held for 60 s is released, re-seeded and reported, by a scan and by the command (R101, R115, R131). -/

namespace Sys2Proof.Machine

/-! The key that a scan lets go -/

/-- R115. The key channel after the scan that finds it stuck, but for what a later rescan moves of it. -/
def LetGo (c : Fin 20) (x : TouchKey) (s : State) : Prop :=
  (s.tbs.tables.keymap[c]).valid = true ∧
    ∃ scanned seed : Bool, s.tsu.keys[c] = { x with scanned := scanned, seed := seed }

/-- R115. IDLE, the arming count and the stuck timer cleared. -/
def TouchKey.rests (x : TouchKey) : Prop := x.state = .idle ∧ x.arming = 0 ∧ x.stuck = none

section
variable {c : Fin 20} {x : TouchKey} {s t : State}

theorem letGo_blind (h : LetGo c x s) (hv : touchView t = touchView s) : LetGo c x t := by
  simp only [touchView, Prod.mk.injEq] at hv
  obtain ⟨-, htsu, hkeymap, -⟩ := hv
  unfold LetGo
  rwa [htsu, hkeymap]

theorem LetGo.rests (h : LetGo c x s) (hx : x.rests) : (s.tsu.keys[c]).rests := by
  obtain ⟨-, scanned, seed, hk⟩ := h
  rw [hk]
  exact hx

/-- R103, R104. A scanned set taken moves of a key at rest whether it is scanned and awaits a re-seed. -/
theorem TouchKey.rests.rescanned (hx : x.rests) (inSet scanned seed : Bool) : ∃ scanned' seed' : Bool,
    ({ x with scanned := scanned, seed := seed } : TouchKey).rescanned true inSet =
      { x with scanned := scanned', seed := seed' } := by
  obtain ⟨hs, ha, ht⟩ := hx
  unfold TouchKey.rescanned TouchKey.toIdle
  rw [if_neg (by decide)]
  dsimp only
  rw [← hs, ← ha, ← ht]
  (repeat' split) <;> exact ⟨_, _, rfl⟩

theorem letGo_rescan (hx : x.rests) (mode : ScanMode) (h : LetGo c x s) : LetGo c x (rescan mode s) := by
  obtain ⟨hv, scanned, seed, hk⟩ := h
  unfold LetGo
  rw [show (rescan mode s).tbs = s.tbs by simp, rescan_touchKey, hv, hk]
  exact ⟨rfl, hx.rescanned _ scanned seed⟩

theorem letGo_steady (hx : x.rests) : Steady (fun _ => True) (LetGo c x) :=
  .of_blind letGo_blind fun mode _ => letGo_rescan hx mode

theorem KeyClear.congr (h : KeyClear s c) (htsu : t.tsu = s.tsu) (hk : t.keq.keys = s.keq.keys) : KeyClear t c := by
  unfold KeyClear
  rwa [htsu, hk]

/-- R131. Let go at the touch unit and released at the key mapper, a key stays so. -/
theorem released_steady (hx : x.rests) : Steady (fun _ => True) fun s => LetGo c x s ∧ KeyClear s c where
  frame hq h := ⟨letGo_blind h.1 (touchView_of_senseView hq.1), (hq.2 c).2 h.2⟩
  rescan mode s h := by
    have hgo := letGo_rescan hx mode h.1
    obtain ⟨hd, hr, hs, hi⟩ := h.2
    have hstays : leavesHeld s mode c = false := by
      unfold leavesHeld
      rw [hi]
      exact Bool.and_false _
    refine ⟨hgo, ?_⟩
    unfold KeyClear
    rw [rescan_key, hstays]
    exact ⟨hd, hr, hs, (hgo.rests hx).1⟩
  decided := trivial
  occur d s _ h := ⟨letGo_blind h.1 (by simp [touchView]), h.2.congr (by simp) (by rw [recordOccurrence_eq])⟩
  ended _ _ _ h := ⟨letGo_blind h.1 rfl, h.2.congr rfl rfl⟩

/-- R105, R131. The transitions of a scan, among them the release of the key let go. -/
theorem LetGo.handAll (hx : x.rests) {f : Fin 20 → KeyTransition} {cause : Cause} (hf : f c = .release cause)
    (l : List (Fin 20)) (h : LetGo c x s) (hc : c ∈ l ∨ KeyClear s c) :
    LetGo c x (l.foldl (fun acc d => handTransition d (f d) acc) s) ∧
      KeyClear (l.foldl (fun acc d => handTransition d (f d) acc) s) c := by
  induction l generalizing s with
  | nil => exact ⟨h, hc.resolve_left List.not_mem_nil⟩
  | cons d l ih =>
    obtain ⟨u, hmoved, hothers, hhanded, hu⟩ := handTransition_taken d (f d) s
    obtain ⟨hview, -, -, htsu⟩ := hmoved.view
    have hgo : LetGo c x u := letGo_blind h (touchView_of_senseView hview)
    have hclear : c ∈ l ∨ KeyClear u c := by
      by_cases hd : c = d
      · subst hd
        obtain ⟨hdown, hrep, -, hsup⟩ := hhanded.2.2 cause hf h.1
        exact .inr ⟨hdown, hrep, hsup, (hgo.rests hx).1⟩
      · refine hc.imp (fun hm => (List.mem_cons.1 hm).resolve_left hd) fun hk => ?_
        unfold KeyClear
        rw [hothers c hd, htsu]
        exact hk
    rw [List.foldl_cons]
    rcases hu with hu | hu <;> rw [hu]
    · exact ih hgo hclear
    · rcases hclear with hm | hk
      · exact ih ((letGo_steady hx).wake _ _ hgo) (.inl hm)
      · obtain ⟨hgo', hk'⟩ := (released_steady hx).wake .key d.val ⟨hgo, hk⟩
        exact ih hgo' (.inr hk')

/-- R105, R115, R131. A scan that finds a key stuck lets it go at both units, whatever else it hands and reports. -/
theorem LetGo.scanInstant {raw : Vector (BitVec 16) 22} {cause : Cause} (hx : x.rests)
    (hk : scanKey raw s c = (x, .release cause)) (hv : (s.tbs.tables.keymap[c]).valid = true) :
    LetGo c x (scanInstant raw s) ∧ KeyClear (scanInstant raw s) c := by
  have hgo : LetGo c x (s.setTsu (scanned raw s)) := by
    unfold LetGo
    rw [setTsu_tsu, setTsu_tbs, scanned_key, hk]
    exact ⟨hv, _, _, rfl⟩
  have hst := released_steady (c := c) hx
  have hhanded : LetGo c x (scanHanded raw s) ∧ KeyClear (scanHanded raw s) c :=
    hgo.handAll hx (f := fun d => (scanKey raw s d).2) (congrArg Prod.snd hk) _ (.inl (List.mem_finRange c))
  exact hst.frame (quiet_clearIdleSuppressed _) (hst.reportScan s.tsu (stuckKeys raw s) trivial trivial trivial hhanded)

/-- R115, R155. A key that a scan finds stuck is counted as F12. -/
theorem scanInstant_counts12 {raw : Vector (BitVec 16) 22} (hk : (scanKey raw s c).2 = .release .stuck) :
    ((scanInstant raw s).fcl.records[(12 : FaultKind)]).lastStamp = s.tick % 65536 ∧
    ((s.fcl.records[(12 : FaultKind)]).occurrences < 255 → (s.fcl.records[(12 : FaultKind)]).occurrences <
      ((scanInstant raw s).fcl.records[(12 : FaultKind)]).occurrences) := by
  obtain ⟨hfcl, htick⟩ := scanHanded_keeps raw s
  have hrec : (scanInstant raw s).fcl.records[(12 : FaultKind)] =
      (stuckKeys raw s).foldl (fun r d => r.occur 12 d (s.tick % 65536)) s.fcl.records[(12 : FaultKind)] := by
    rw [scanInstant_eq, clearIdleSuppressed_fcl, conditionChanged_record_ne (by decide),
      conditionChanged_record_ne (by decide), (scanReports_records _ _ _).2.1, hfcl, htick]
  have hmem : c ∈ indexesWhere fun c : Fin 20 => (scanKey raw s c).2 == .release .stuck :=
    List.mem_filter.2 ⟨List.mem_finRange c, by rw [hk]; rfl⟩
  have hne : stuckKeys raw s ≠ [] := List.ne_nil_of_mem (List.mem_map_of_mem hmem)
  obtain ⟨hcount, hlast⟩ := (foldl_occur 12 (s.tick % 65536) (stuckKeys raw s) s.fcl.records[(12 : FaultKind)]).1 hne
  have hpos := List.length_pos_iff.2 hne
  rw [hrec]
  refine ⟨hlast, fun hlt => ?_⟩
  rw [hcount]
  omega

/-- R111, R115. Step 5 of a key held for 60 s that its state step does not release. -/
theorem TouchKey.step_stuck {guarded : Bool} {dRef : Int} {factor n : Nat} {e : KeymapEntry} {k : TouchKey}
    (hr : touchInRange k.raw = true) (hf : k.faulted = false) (hseed : k.seed = false) (hn : k.stuck = some n)
    (hle : 6000 ≤ n) (hheld : k.state = .touched ∨ (k.state = .releasing ∧ (offThreshold guarded e : Int) ≤
      (correctedCount k.raw dRef e.weight : Int) - (k.baseline / 16 : Nat))) :
    k.step guarded dRef factor e =
      ({ (k.measured (correctedCount k.raw dRef e.weight)).toIdle with
        baseline := correctedCount k.raw dRef e.weight * 16 }, .release .stuck) := by
  unfold TouchKey.step
  dsimp only
  rw [hr, hf, hseed]
  exact TouchKey.sense_held_stuck hn hle hheld

/-- R111, R115. What the scan that finds a key stuck makes of it. -/
def TouchKey.unstuck (raw count : Nat) (k : TouchKey) : TouchKey :=
  { k with
    raw := raw, outCount := 0, corrected := count, delta := (count : Int) - (k.baseline / 16 : Nat)
    state := .idle, arming := 0, stuck := none, baseline := count * 16 }

theorem scanKey_stuck {raw : Vector (BitVec 16) 22} {n : Nat} (hs : (s.tsu.keys[c]).scanned = true)
    (hf : (s.tsu.keys[c]).faulted = false) (hseed : (s.tsu.keys[c]).seed = false)
    (hr : touchInRange (keyRaw raw c) = true) (hn : (s.tsu.keys[c]).stuck = some n) (hle : 6000 ≤ n)
    (hheld : (s.tsu.keys[c]).state = .touched ∨ ((s.tsu.keys[c]).state = .releasing ∧
      (offThreshold (scanPrepared raw s).guarded s.tbs.tables.keymap[c] : Int) ≤
        (correctedCount (keyRaw raw c) (scanPrepared raw s).dRef (s.tbs.tables.keymap[c]).weight : Int) -
          ((s.tsu.keys[c]).baseline / 16 : Nat))) :
    scanKey raw s c = ((s.tsu.keys[c]).unstuck (keyRaw raw c)
      (correctedCount (keyRaw raw c) (scanPrepared raw s).dRef (s.tbs.tables.keymap[c]).weight), .release .stuck) := by
  have hjudged := TouchKey.judge_good hr hf
  rw [scanKey_unstruck hs (by rw [hjudged, hf]; simp), hjudged]
  generalize scanPrepared raw s = p at *
  generalize s.tsu.keys[c] = k at *
  exact TouchKey.step_stuck (k := { k with raw := keyRaw raw c, outCount := 0 }) hr hf hseed hn hle hheld

/-- R115, R131. What such a scan makes of the whole part. -/
theorem scanInstant_stuck {raw : Vector (BitVec 16) 22} {r count : Nat}
    (hk : scanKey raw s c = ((s.tsu.keys[c]).unstuck r count, .release .stuck))
    (hv : (s.tbs.tables.keymap[c]).valid = true) :
    let t := drivePins (scanInstant raw s)
    t.tick = s.tick ∧ t.tsu.keys[c] = { (s.tsu.keys[c]).unstuck r count with
      scanned := (t.tsu.keys[c]).scanned, seed := (t.tsu.keys[c]).seed } ∧ ReleasedStuck c s t := by
  have hkeeps : ∀ t : State, (drivePins t).tsu = t.tsu ∧ (drivePins t).fcl = t.fcl ∧ (drivePins t).tick = t.tick ∧
      (drivePins t).keq = t.keq := fun t => ⟨rfl, rfl, rfl, rfl⟩
  obtain ⟨htsu, hfcl, htick, hkeq⟩ := hkeeps (scanInstant raw s)
  obtain ⟨⟨-, scanned, seed, hgo⟩, hdown, hrep, hsup, -⟩ := LetGo.scanInstant ⟨rfl, rfl, rfl⟩ hk hv
  obtain ⟨hlast, hcount⟩ := scanInstant_counts12 (congrArg Prod.snd hk)
  intro t
  have ht : t = drivePins (Machine.scanInstant raw s) := rfl
  refine ⟨?_, ?_, ?_⟩
  · rw [ht, htick, scanInstant_tick]
  · rw [ht, htsu, hgo]
  · unfold ReleasedStuck
    rw [ht, htick, hfcl, hkeq, scanInstant_tick]
    exact ⟨hdown, hrep, hsup, hlast, hcount⟩

/-! The command -/

/-- R101. The scan instant that a stuck key waits for is one. -/
theorem atScanInstant_waited {mode : ScanMode} {last : Option Nat} {tick n : Nat} (hl : ∀ k, last = some k → k ≤ tick)
    (hm : s.tsu.mode = mode) (hlast : s.tsu.lastScan = last)
    (ht : s.tick = tick + (n + scanWait mode last (tick + n))) : atScanInstant s = true := by
  rw [atScanInstant_iff, hm, hlast]
  have hpast : tick < s.tick → last ≠ some s.tick := fun hlt h => absurd (hl _ h) (Nat.not_le.2 hlt)
  cases mode with
  | active =>
    simp only [scanWait] at ht
    refine ⟨?_, .inl rfl⟩
    split at ht
    · exact hpast (by omega)
    next hne =>
      rw [ht]
      exact hne
  | standby =>
    simp only [scanWait] at ht
    split at ht
    next h =>
      rw [ht]
      exact ⟨h.2.2, .inr ⟨h.1, h.2.1⟩⟩
    next => exact ⟨hpast (by omega), .inr (by omega)⟩

/-- R115. The command over a key that alone falls due is the scan that it waits for. -/
theorem exec_stuckTimerExpiry {n : Nat} (hp : s.powered = true) (hleft : stuckScanLeft c s = some n)
    (ho : onlyDue (.stuckTimerExpiry c) n s = true) : exec (.stuckTimerExpiry c) s =
      .next (drivePins (scanInstant (heldCounts s.tsu) (elapse n s))) := by
  have hexec : exec (.stuckTimerExpiry c) s = .next (drivePins
      (expire (.stuckTimerExpiry c) (stuckScanLeft c s) (scanInstant (heldCounts s.tsu)) s)) := whenPowered_on s _ hp
  have hown : ∀ e ∈ ownEvents s, e.1 = .stuckTimerExpiry c → e.2 = some n := fun e he hc => by
    obtain ⟨-, -, -, -, -, -, -, -, -, -, -, -, hnone⟩ := ownEvents_left s e he
    exact absurd hc (hnone c)
  rw [hexec, hleft, expire_alone _ _ _ _ ho hown]

/-- R101. A scan stamps the touch unit with its tick. -/
theorem scanInstant_stamps (raw : Vector (BitVec 16) 22) (s : State) :
    let t := drivePins (scanInstant raw s)
    t.tick = s.tick ∧ t.tsu.lastScan = some t.tick := by
  have hblind : ∀ {s t : State}, s.tsu.lastScan = some s.tick → touchView t = touchView s →
      t.tsu.lastScan = some t.tick := fun h hv => by
    simp only [touchView, Prod.mk.injEq] at hv
    rw [hv.1, hv.2.1]
    exact h
  have hst := Steady.of_blind (P := fun s => s.tsu.lastScan = some s.tick) hblind fun mode s h => by
    rw [rescan_tsu, show (rescan mode s).tick = s.tick by simp]
    exact h
  have hlast := hst.scanInstant (fun h hv => hblind h (touchView_of_senseView hv)) trivial trivial trivial raw (s := s)
    (by dsimp only [setTsu_tsu, setTsu_tick, scanned])
  have hkeeps : ∀ t : State, (drivePins t).tsu = t.tsu ∧ (drivePins t).tick = t.tick := fun t => ⟨rfl, rfl⟩
  obtain ⟨htsu, htick⟩ := hkeeps (scanInstant raw s)
  intro t
  rw [show t = drivePins (scanInstant raw s) from rfl, htsu, htick]
  exact ⟨scanInstant_tick raw s, hlast⟩

/-- R115. The stuck timer counts the ticks that pass. -/
theorem elapse_stuck (n : Nat) (s : State) (c : Fin 20) :
    ((elapse n s).tsu.keys[c]).stuck = ((s.tsu.keys[c]).stuck).map (· + n) := by
  unfold elapse
  split
  next h =>
    subst h
    cases (s.tsu.keys[c]).stuck <;> rfl
  · simp

/-- The raw counts held are those last measured. -/
theorem heldCounts_raw (t : Tsu) : (∀ d : Fin 20, (t.keys[d]).raw < 65536 → keyRaw (heldCounts t) d = (t.keys[d]).raw) ∧
    ∀ i : Fin 2, (t.refs[i]).raw < 65536 → refRaw (heldCounts t) i = (t.refs[i]).raw := by
  refine ⟨fun d hd => ?_, fun i hi => ?_⟩
  · simpa [keyRaw, heldCounts] using hd
  · simpa [refRaw, heldCounts] using hi

/-- R115. A release counted from a state is one counted from any with the same records. -/
theorem ReleasedStuck.congr {u : State} (h : ReleasedStuck c u t) (hf : u.fcl = s.fcl) : ReleasedStuck c s t := by
  unfold ReleasedStuck at *
  rwa [← hf]

/-- Settles O46: the command is the scan it waits for; a scan that finds the key stuck lets it go at both units. -/
theorem aStuckKeyIsReleasedAndReseeded : Obligations.AStuckKeyIsReleasedAndReseeded := by
  refine ⟨fun c m s hp hok => ?_, fun c raw n s hp hi => ?_⟩
  · intro k e hheld hm n wait u v count honly
    have hleft : stuckScanLeft c s = some (n + wait) := by
      unfold stuckScanLeft stuckLeft
      rw [(isTouch_iff _).2 hheld, hm]
      rfl
    obtain ⟨hkey, hlast, -⟩ := elapse_touchKey (n + wait) s c
    have hu : atScanInstant u = true :=
      atScanInstant_waited hok (elapse_tsu (n + wait) s).1 hlast (elapse_tick (n + wait) s)
    obtain ⟨hpu, -, -, -, hfcl, -, htbs, -⟩ := elapse_keeps (n + wait) s
    have hexec := exec_stuckTimerExpiry hp hleft honly
    obtain ⟨hkeys, hrefs⟩ := heldCounts_raw s.tsu
    obtain ⟨htick, hstamp⟩ := scanInstant_stamps (heldCounts s.tsu) (elapse (n + wait) s)
    refine ⟨hu, hexec.trans (exec_scan_made (hpu.trans hp) hu _).symm, hkeys, hrefs, _, hexec, ?_, hstamp,
      fun hs hf hseed hr hlt hv hstate => ?_⟩
    · rw [htick, elapse_tick, Nat.add_assoc]
    · have hraw : keyRaw (heldCounts s.tsu) c = k.raw := hkeys c hlt
      have hstuck : ((elapse (n + wait) s).tsu.keys[c]).stuck = some (m + (n + wait)) := by
        rw [elapse_stuck, hm]
        rfl
      have hle : 6000 ≤ m + (n + wait) := by
        have hn : n = 6000 - m := rfl
        omega
      have hscan := scanKey_stuck (c := c) (s := elapse (n + wait) s) (raw := heldCounts s.tsu)
        (by rw [hkey]; exact hs) (by rw [hkey]; exact hf) (by rw [hkey]; exact hseed) (by rw [hraw]; exact hr) hstuck
        hle (by
          rw [hkey, hraw, htbs]
          exact hheld.imp_right fun hrel => ⟨hrel, hstate.resolve_left fun ht => nomatch hrel.symm.trans ht⟩)
      obtain ⟨-, hgone, hrel⟩ := scanInstant_stuck hscan (by rw [htbs]; exact hv)
      have hcount : count = correctedCount k.raw (scanPrepared (heldCounts s.tsu) (elapse (n + wait) s)).dRef
        (s.tbs.tables.keymap[c]).weight := rfl
      rw [hraw, htbs, ← hcount] at hgone
      rw [hgone]
      clear_value count
      exact ⟨rfl, rfl, rfl, rfl, rfl, hrel.congr hfcl⟩
  · intro k u count off hs hf hseed hr hn hle hv hheld
    obtain ⟨htick, hkey, hrel⟩ := scanInstant_stuck (scanKey_stuck hs hf hseed hr hn hle hheld) hv
    exact ⟨_, exec_scan_made hp hi raw, htick, hkey, hrel⟩

end
end Sys2Proof.Machine
end

section
/-! SUPPORT. The record of one kind against its class in force and its lasting condition: what reports and judgements of
its own kind make of it, and that those of other kinds leave it (R155 to R157, R159). -/

namespace Sys2Proof.Machine

/-- What may hold of a class in force, a lasting condition and a record. -/
abbrev KindProp := FaultClass → Bool → FaultRecord → Prop

/-- R156, R157, R159. A record by the rules. -/
def KindProp.ok : KindProp := fun cls present r =>
  r.cls = cls ∧ (r.cls = .hw → r.state = if present then .active else .clear) ∧
    (r.cls = .sw → r.state ≠ .active ∧ (present = true → r.state = .latched))

/-- R156. A record by the rules, but that the end of a condition may still have to be judged. -/
def KindProp.heard : KindProp := fun cls present r =>
  r.cls = cls ∧ (r.cls = .hw → r.state = .active ∨ (r.state = .clear ∧ present = false)) ∧
    (r.cls = .sw → r.state ≠ .active ∧ (present = true → r.state = .latched))

/-- R155. A record that a condition may have begun for, its occurrence still to be reported. -/
def KindProp.untold : KindProp := fun cls _ r =>
  r.cls = cls ∧ (r.cls = .hw → r.state ≠ .latched) ∧ (r.cls = .sw → r.state ≠ .active)

/-- R155. A record whose occurrence has been reported. -/
def KindProp.told : KindProp := fun cls _ r =>
  r.cls = cls ∧ (r.cls = .hw → r.state = .active) ∧ (r.cls = .sw → r.state = .latched)

/-- In a state that meets the scanned set's invariant, `Q` holds of kind `k`. -/
def Kind (Q : KindProp) (k : FaultKind) (s : State) : Prop :=
  ScannedSetOk s ∧ Q (reactionInForce s.tbs.tables k).cls (faultCondition s k) s.fcl.records[k]

section
variable {Q R : KindProp} {k j : FaultKind} {s t : State} {cls : FaultClass} {present : Bool} {r : FaultRecord}

theorem Kind.mono (h : Kind Q k s) (hQ : ∀ cls present r, Q cls present r → R cls present r) : Kind R k s :=
  ⟨h.1, hQ _ _ _ h.2⟩

theorem Kind.congr (h : Kind Q k s) (hok : ScannedSetOk t) (hr : t.tbs.tables.reactions = s.tbs.tables.reactions)
    (hc : faultCondition t k = faultCondition s k) (hf : t.fcl.records[k] = s.fcl.records[k]) : Kind Q k t := by
  refine ⟨hok, ?_⟩
  unfold reactionInForce at *
  rw [hr, hc, hf]
  exact h.2

theorem recordsOk_iff (hok : ScannedSetOk s) : RecordsOk s ↔ ∀ k, Kind .ok k s :=
  ⟨fun h k => ⟨hok, h k⟩, fun h k => (h k).2⟩

/-! How the four stand to each other -/

theorem KindProp.heard_of_ok (h : KindProp.ok cls present r) : KindProp.heard cls present r := by
  obtain ⟨hc, hw, hs⟩ := h
  refine ⟨hc, fun hx => ?_, hs⟩
  have hstate := hw hx
  cases present
  · exact .inr ⟨hstate, rfl⟩
  · exact .inl hstate

/-- R156. A condition that has not begun leaves nothing to report. -/
theorem KindProp.heard_of_ended {before : Bool} (h : KindProp.ok cls before r) (hb : present = true → before = true) :
    KindProp.heard cls present r := by
  obtain ⟨hc, hw, hs⟩ := KindProp.heard_of_ok h
  refine ⟨hc, fun hx => ?_, fun hx => ?_⟩
  · rcases hw hx with hactive | ⟨hclear, hbefore⟩
    · exact .inl hactive
    · rw [hbefore] at hb
      exact .inr ⟨hclear, Bool.eq_false_iff.2 fun hp => Bool.false_ne_true (hb hp)⟩
  · obtain ⟨hactive, hlatched⟩ := hs hx
    exact ⟨hactive, fun hp => hlatched (hb hp)⟩

theorem KindProp.untold_of_ok {before : Bool} (h : KindProp.ok cls before r) : KindProp.untold cls present r := by
  obtain ⟨hc, hw, hs⟩ := h
  refine ⟨hc, fun hx hl => ?_, fun hx => (hs hx).1⟩
  rw [hw hx] at hl
  cases before <;> cases hl

theorem KindProp.untold_of_told (h : KindProp.told cls present r) : KindProp.untold cls present r := by
  obtain ⟨hc, hw, hs⟩ := h
  exact ⟨hc, fun hx => by rw [hw hx]; nofun, fun hx => by rw [hs hx]; nofun⟩

theorem KindProp.heard_of_told (h : KindProp.told cls present r) : KindProp.heard cls present r := by
  obtain ⟨hc, hw, hs⟩ := h
  exact ⟨hc, fun hx => .inl (hw hx), fun hx => ⟨by rw [hs hx]; nofun, fun _ => hs hx⟩⟩

/-- R156. While the condition is present a record that has heard of it is by the rules. -/
theorem KindProp.ok_of_heard (h : KindProp.heard cls present r)
    (hp : ¬(r.cls = .hw ∧ r.state = .active ∧ present = false)) : KindProp.ok cls present r := by
  obtain ⟨hc, hw, hs⟩ := h
  refine ⟨hc, fun hx => ?_, hs⟩
  rcases hw hx with ha | ⟨hclear, hpresent⟩
  · cases present
    · exact absurd ⟨hx, ha, rfl⟩ hp
    · exact ha
  · rw [hpresent]
    exact hclear

/-- R155. An occurrence of a kind with a lasting condition. -/
theorem KindProp.told_of_occur (hk : eventLike k = false) (d now : Nat) (h : KindProp.untold cls present r) :
    KindProp.told cls present (r.occur k d now) := by
  obtain ⟨hc, hw, hs⟩ := h
  unfold FaultRecord.occur
  dsimp only
  split
  · refine ⟨hc, fun hx => ?_, fun hx => ?_⟩ <;> change latchedState k r.cls = _ <;> rw [show r.cls = _ from hx]
    · exact if_neg (by rw [hk]; exact Bool.false_ne_true)
    · rfl
  next hne =>
    refine ⟨hc, fun hx => ?_, fun hx => ?_⟩
    · have hl := hw hx
      change r.state = _
      generalize r.state = x at *
      cases x with
      | clear => exact absurd rfl hne
      | active => rfl
      | latched => exact absurd rfl hl
    · have ha := hs hx
      change r.state = _
      generalize r.state = x at *
      cases x with
      | clear => exact absurd rfl hne
      | active => exact absurd rfl ha
      | latched => rfl

/-- R155. An occurrence of a kind without a lasting condition. -/
theorem KindProp.ok_occur (hk : eventLike k = true) (d now : Nat) (h : KindProp.ok cls false r) :
    KindProp.ok cls false (r.occur k d now) := by
  obtain ⟨hc, hw, hs⟩ := h
  unfold FaultRecord.occur
  dsimp only
  split
  · refine ⟨hc, fun hx => ?_, fun hx => ⟨?_, nofun⟩⟩
    · change latchedState k r.cls = .clear
      rw [show r.cls = _ from hx]
      exact if_pos hk
    · change latchedState k r.cls ≠ .active
      rw [show r.cls = _ from hx]
      exact nofun
  · exact ⟨hc, hw, hs⟩

/-! Through what other kinds report -/

theorem conditions_rescan (mode : ScanMode) (s : State) : conditions (rescan mode s) = conditions s := by
  simp [conditions]

/-- R103, R108. Taking a scanned set moves no condition in a state that meets the scanned set's invariant. -/
theorem ScannedSetOk.faultCondition_rescan (h : ScannedSetOk s) (mode : ScanMode) :
    faultCondition (rescan mode s) = faultCondition s := by
  refine faultCondition_congr (conditions_rescan mode s) ?_ ?_
  · rw [((faultsAs_steady s.tsu).rescan mode h.faultsAs).touchCondition]
  · rw [rescan_tsu]

theorem Kind.frame (hv : senseView t = senseView s) (h : Kind Q k s) : Kind Q k t := by
  have hok := scannedSetOk_blind h.1 (touchView_of_senseView hv)
  simp only [senseView, Prod.mk.injEq] at hv
  obtain ⟨-, htsu, -, -, hr, hf, hc⟩ := hv
  exact h.congr hok hr (congrFun (faultCondition_congr hc (by rw [htsu]) (by rw [htsu])) k) (by rw [hf])

theorem Kind.rescan (mode : ScanMode) (h : Kind Q k s) : Kind Q k (rescan mode s) :=
  h.congr (scannedSetOk_rescan mode s) (by simp) (congrFun (h.1.faultCondition_rescan mode) k) (by simp)

/-- What moves records alone and not that of kind `k`. -/
theorem Kind.other (h : Kind Q k s) (hv : touchView t = touchView s)
    (hr : t.tbs.tables.reactions = s.tbs.tables.reactions) (hc : conditions t = conditions s)
    (hf : t.fcl.records[k] = s.fcl.records[k]) : Kind Q k t := by
  have hok := scannedSetOk_blind h.1 hv
  simp only [touchView, Prod.mk.injEq] at hv
  exact h.congr hok hr (congrFun (faultCondition_congr hc (by rw [hv.2.1]) (by rw [hv.2.1])) k) hf

theorem rejudge_setRecord_record (k j : FaultKind) (r : FaultRecord) (s : State) :
    (rejudge (setRecord k r s)).fcl.records[j] = if k = j then r else s.fcl.records[j] := by
  by_cases h : k = j
  · subst h
    simp [rejudge, setRecord]
  · have hne : (k : Nat) ≠ j := fun hv => h (Fin.ext hv)
    simp [rejudge, setRecord, Vector.getElem_set_ne _ _ hne, h]

/-- The occurrences of other kinds leave the record of kind `k`. -/
theorem kind_steady (Q : KindProp) (hk : k ≠ 15) : Steady (fun j => j ≠ k) (Kind Q k) where
  frame hq h := h.frame hq.1
  rescan mode _ h := h.rescan mode
  decided := hk.symm
  occur d s hj h := h.other (by simp [touchView]) (by simp) (by simp [conditions])
    (recordOccurrence_record_ne hj.symm d s)
  ended hj _ _ h := h.other rfl rfl rfl ((rejudge_setRecord_record ..).trans (if_neg hj))

/-- R153. -/
theorem faultCondition_eventLike (hk : eventLike k = true) (s : State) : faultCondition s k = false := by
  unfold faultCondition
  split <;> simp_all [eventLike]

/-- R156, R157. A record by the rules stays so through the reports of every other kind, and through those of its own
where the kind has no lasting condition. -/
theorem ok_steady (k : FaultKind) : Steady (fun j => j ≠ k ∨ eventLike k = true) (Kind .ok k) where
  frame hq h := h.frame hq.1
  rescan mode _ h := h.rescan mode
  decided := by
    by_cases h : k = 15
    · subst h; exact .inr rfl
    · exact .inl (Ne.symm h)
  occur {j} d s hj h := by
    by_cases hjk : j = k
    · subst hjk
      have hk := hj.resolve_left fun hne => hne rfl
      have hc := faultCondition_eventLike hk
      obtain ⟨hok, hrec⟩ := h
      refine ⟨scannedSetOk_blind hok (by simp [touchView]), ?_⟩
      rw [hc] at hrec ⊢
      rw [recordOccurrence_record_same, recordOccurrence_tbs]
      exact KindProp.ok_occur hk d _ hrec
    · exact h.other (by simp [touchView]) (by simp) (by simp [conditions])
        (recordOccurrence_record_ne (Ne.symm hjk) d s)
  ended {j s} hj hc ha h := by
    by_cases hjk : j = k
    · subst hjk
      obtain ⟨-, -, hw, hs⟩ := h
      exfalso
      rw [hc, ha] at hw
      cases hcls : (s.fcl.records[j]).cls with
      | hw => exact nomatch hw hcls
      | sw => exact (hs hcls).1 ha
    · exact h.other rfl rfl rfl ((rejudge_setRecord_record ..).trans (if_neg hjk))

/-! Through what its own kind reports -/

/-- A report, once its occurrence is recorded, is a restart decision at most. -/
theorem Steady.report_of {K : FaultKind → Prop} {P : State → Prop} (st : Steady K P) {d : Nat}
    (h : P (recordOccurrence k d s)) : P (Machine.report k d s) := by
  unfold Machine.report
  dsimp only
  split
  · exact st.restartDecision _ _ h
  · exact h

theorem ne_of_lasting (hk : eventLike k = false) : k ≠ 15 := fun h => by
  subst h
  exact nomatch hk

/-- R155. -/
theorem Kind.report (hk : eventLike k = false) (d : Nat) (h : Kind .untold k s) :
    Kind .told k (Machine.report k d s) := by
  obtain ⟨hok, hrec⟩ := h
  refine (kind_steady .told (ne_of_lasting hk)).report_of ⟨scannedSetOk_blind hok (by simp [touchView]), ?_⟩
  rw [recordOccurrence_record_same, recordOccurrence_tbs]
  exact KindProp.told_of_occur hk d _ hrec

theorem Kind.reportAll (hk : eventLike k = false) {l : List Nat} (hl : l ≠ []) (h : Kind .untold k s) :
    Kind .told k (reportAll k l s) := by
  unfold Machine.reportAll
  induction l generalizing s with
  | nil => exact absurd rfl hl
  | cons d l ih =>
    have htold := h.report hk d
    by_cases hl : l = []
    · rw [hl]
      exact htold
    · exact ih hl (htold.mono fun _ _ _ => KindProp.untold_of_told)

/-- R155, R156. Where a condition may have begun, its occurrences are told. -/
theorem Kind.heard_reportAll (hk : eventLike k = false) {l : List Nat} (h : Kind .untold k s)
    (hl : l = [] → Kind .heard k s) : Kind .heard k (Machine.reportAll k l s) := by
  by_cases hn : l = []
  · rw [hn]
    exact hl hn
  · exact (h.reportAll hk hn).mono fun _ _ _ => KindProp.heard_of_told

/-- R156. Once the end of a condition is judged, its record is by the rules. -/
theorem Kind.conditionChanged (hk : eventLike k = false) (h : Kind .heard k s) : Kind .ok k (conditionChanged k s) := by
  unfold Machine.conditionChanged
  dsimp only
  split
  next hc =>
    obtain ⟨hw, ha, hp⟩ := hc
    refine (kind_steady .ok (ne_of_lasting hk)).rejudgeRelease ⟨scannedSetOk_blind h.1 rfl, ?_⟩
    have hcond : faultCondition (rejudge (setRecord k { s.fcl.records[k] with state := .clear } s)) k = false :=
      (congrFun (faultCondition_congr rfl rfl rfl) k).trans hp
    rw [hcond, rejudge_setRecord_record, if_pos rfl]
    exact ⟨h.2.1, fun _ => rfl, fun hs => nomatch hs.symm.trans hw⟩
  next hc => exact ⟨h.1, KindProp.ok_of_heard h.2 hc⟩

/-- R155, R156. The occurrences of a condition that has moved, and its end. -/
theorem Kind.reported (hk : eventLike k = false) {l : List Nat} (h : Kind .ok k s) (hok : ScannedSetOk t)
    (hr : t.tbs.tables.reactions = s.tbs.tables.reactions) (hf : t.fcl.records[k] = s.fcl.records[k])
    (hl : l = [] → faultCondition t k = true → faultCondition s k = true) :
    Kind .heard k (Machine.reportAll k l t) := by
  have hrec : ∀ Q : KindProp, Q (reactionInForce s.tbs.tables k).cls (faultCondition t k) s.fcl.records[k] →
      Kind Q k t := fun Q hQ => by
    refine ⟨hok, ?_⟩
    unfold reactionInForce at *
    rw [hr, hf]
    exact hQ
  exact Kind.heard_reportAll hk (hrec _ (KindProp.untold_of_ok h.2)) fun hn =>
    hrec _ (KindProp.heard_of_ended h.2 (hl hn))

end
end Sys2Proof.Machine
end

section
/-! SUPPORT. The fault records over conversions, second boundaries, periods, trips, the fan, scans and changed tables:
each event tells of the conditions that it moves (R155 to R157, R159, R162, R164). -/

namespace Sys2Proof.Machine

section
variable {k j : FaultKind} {s t : State} {Q : KindProp}

/-! The conditions -/

theorem lasting_cases : ∀ j : FaultKind, eventLike j = false →
    j = 5 ∨ j = 6 ∨ j = 7 ∨ j = 8 ∨ j = 9 ∨ j = 11 ∨ j = 13 := by decide

/-- R153. The condition of a kind is one block's. -/
theorem faultCondition_of (h5 : j = 5 → sensorCondition t.tmu = sensorCondition s.tmu)
    (h6 : j = 6 → faultCondition t 6 = faultCondition s 6) (h7 : j = 7 → faultCondition t 7 = faultCondition s 7)
    (h8 : j = 8 → cutOuts t.znc = cutOuts s.znc) (h9 : j = 9 → faultCondition t 9 = faultCondition s 9)
    (h11 : j = 11 → touchCondition t.tsu = touchCondition s.tsu)
    (h13 : j = 13 → t.tsu.disagreement = s.tsu.disagreement) : faultCondition t j = faultCondition s j := by
  cases hk : eventLike j with
  | true => rw [faultCondition_eventLike hk, faultCondition_eventLike hk]
  | false =>
    rcases lasting_cases j hk with rfl | rfl | rfl | rfl | rfl | rfl | rfl
    · exact h5 rfl
    · exact h6 rfl
    · exact h7 rfl
    · exact h8 rfl
    · exact h9 rfl
    · exact h11 rfl
    · exact h13 rfl

/-- Restarts, wakes, switch-ons and reports move no condition of sensors, heaters, fan and zones. -/
theorem conditions_steady (x : Bool × (Bool × Bool × Bool) × Bool) :
    Steady (fun _ => True) fun s => conditions s = x where
  frame hq h := by
    obtain ⟨hv, -⟩ := hq
    simp only [senseView, Prod.mk.injEq] at hv
    obtain ⟨-, -, -, -, -, -, hconditions⟩ := hv
    rw [hconditions]
    exact h
  rescan mode s h := (conditions_rescan mode s).trans h
  decided := trivial
  occur d s _ h := (show conditions _ = conditions s by simp [conditions]).trans h
  ended _ _ _ h := h

theorem heaterConditions_eq (h : heaterConditions t.hfd = heaterConditions s.hfd) :
    faultCondition t 6 = faultCondition s 6 ∧ faultCondition t 7 = faultCondition s 7 ∧
      faultCondition t 9 = faultCondition s 9 := by
  simp only [heaterConditions, Prod.mk.injEq] at h
  exact h

theorem someEntry_mono {α : Type} {n : Nat} {v w : Vector α n} {p : α → Bool}
    (h : ∀ i : Fin n, p w[i] = true → p v[i] = true) (hw : someEntry w p = true) : someEntry v p = true := by
  obtain ⟨i, hi⟩ := someEntry_iff.1 hw
  exact someEntry_iff.2 ⟨i, h i hi⟩

/-- Where nothing is listed as begun, nothing has begun. -/
theorem begun_nil {n : Nat} {before after : Fin n → Bool}
    (h : (indexesWhere fun i => !before i && after i).map Fin.val = []) (i : Fin n) (ha : after i = true) :
    before i = true := by
  have hi := List.filter_eq_nil_iff.1 (List.map_eq_nil_iff.1 h) i (List.mem_finRange i)
  rw [ha, Bool.and_true] at hi
  simpa using hi

/-! Records by the rules -/

/-- Every record is by the rules, in a state that meets the scanned set's invariant. -/
def Recorded (s : State) : Prop := ∀ k, Kind .ok k s

/-- From `s` to `t` conditions have moved, but no record, no reaction and nothing of the scanned set. -/
structure BlockMoved (s t : State) : Prop where
  touch : ScannedSetOk s → ScannedSetOk t
  reactions : t.tbs.tables.reactions = s.tbs.tables.reactions
  fcl : t.fcl = s.fcl

theorem BlockMoved.of_view (hv : touchView t = touchView s) (hr : t.tbs.tables.reactions = s.tbs.tables.reactions)
    (hf : t.fcl = s.fcl) : BlockMoved s t := ⟨fun h => scannedSetOk_blind h hv, hr, hf⟩

theorem Kind.moved (h : Kind Q k s) (hm : BlockMoved s t) (hc : faultCondition t k = faultCondition s k) :
    Kind Q k t := h.congr (hm.touch h.1) hm.reactions hc (by rw [hm.fcl])

/-- R156. A condition that may have ended is to be judged. -/
theorem Kind.ended (h : Kind .ok k s) (hm : BlockMoved s t)
    (hc : faultCondition t k = true → faultCondition s k = true) : Kind .heard k t := by
  refine ⟨hm.touch h.1, ?_⟩
  have hrec := KindProp.heard_of_ended h.2 hc
  unfold reactionInForce at *
  rw [hm.reactions, hm.fcl]
  exact hrec

/-- R155. A condition may have begun. -/
theorem Kind.moving (h : Kind .ok k s) (hm : BlockMoved s t) : Kind .untold k t := by
  refine ⟨hm.touch h.1, ?_⟩
  have hrec := KindProp.untold_of_ok (present := faultCondition t k) h.2
  unfold reactionInForce at *
  rw [hm.reactions, hm.fcl]
  exact hrec

theorem Kind.told_of (hk : eventLike k = false) {l : List Nat} (h : Kind .ok k s) (hm : BlockMoved s t)
    (hl : l = [] → faultCondition t k = true → faultCondition s k = true) : Kind .heard k (Machine.reportAll k l t) :=
  h.reported hk (hm.touch h.1) hm.reactions (by rw [hm.fcl]) hl

/-- R155, R156. One condition moves, its occurrences are reported and its end judged. -/
theorem Recorded.reported (hk : eventLike k = false) (h : Recorded s) {l : List Nat} (hm : BlockMoved s t)
    (hc : ∀ j, j ≠ k → faultCondition t j = faultCondition s j)
    (hl : l = [] → faultCondition t k = true → faultCondition s k = true) :
    Recorded (conditionChanged k (reportAll k l t)) := fun j => by
  by_cases hj : j = k
  · subst hj
    exact ((h j).told_of hk hm hl).conditionChanged hk
  · have hother := (ok_steady j).reportAll (.inl (Ne.symm hj)) l ((h j).moved hm (hc j hj))
    exact (ok_steady j).conditionChanged (.inl (Ne.symm hj)) hother

/-- R156. One condition moves without a beginning, and its end is judged. -/
theorem Recorded.judged (hk : eventLike k = false) (h : Recorded s) (hm : BlockMoved s t)
    (hc : ∀ j, j ≠ k → faultCondition t j = faultCondition s j)
    (hl : faultCondition t k = true → faultCondition s k = true) : Recorded (conditionChanged k t) :=
  h.reported hk (l := []) hm hc fun _ => hl

/-- R155. One condition begins, and its occurrence is reported. -/
theorem Recorded.begun (hk : eventLike k = false) (h : Recorded s) (d : Nat) (hm : BlockMoved s t)
    (hc : ∀ j, j ≠ k → faultCondition t j = faultCondition s j) (hp : faultCondition (report k d t) k = true) :
    Recorded (report k d t) := by
  have hall := h.reported hk (l := [d]) hm hc nofun
  rwa [show reportAll k [d] t = report k d t from rfl, conditionChanged_present hp] at hall

/-- An event-like occurrence is of another kind, or of one without a lasting condition. -/
theorem event_other (hk : eventLike k = true) (j : FaultKind) : k ≠ j ∨ eventLike j = true := by
  by_cases hj : k = j
  · exact .inr (hj ▸ hk)
  · exact .inl hj

/-! Conversions and second boundaries -/

theorem recorded_converted (codes : Vector (BitVec 12) 4) (h : Recorded s) : Recorded (conversionReported codes s) := by
  refine h.reported (k := 5) rfl (.of_view rfl rfl rfl)
    (fun j hj => faultCondition_of (fun hx => absurd hx hj) (fun _ => rfl) (fun _ => rfl) (fun _ => rfl) (fun _ => rfl)
      (fun _ => rfl) fun _ => rfl) fun hl hp => ?_
  have hshort : (s.tmu.convert codes).short = s.tmu.short := by rw [convert_eq]
  change sensorCondition (s.tmu.convert codes) = true at hp
  change sensorCondition s.tmu = true
  unfold sensorCondition at *
  rw [Bool.or_eq_true] at *
  rw [hshort] at hp
  exact hp.imp_right (someEntry_mono (begun_nil hl))

/-- R37, R38. A set counted, with what an earlier window left to report. -/
theorem Steady.counted {K : FaultKind → Prop} {P : State → Prop} (st : Steady K P) (h10 : K 10) (h : P s) :
    P (countFilterSet s) := by
  unfold countFilterSet endFilterWindow reportFilter
  dsimp only
  (repeat' split)
  · exact h
  · exact st.report h10 _ (st.view h rfl rfl)
  all_goals exact st.view h rfl rfl

theorem sensorCondition_boundary (points : List (Nat × Int)) (t : Tmu) :
    sensorCondition (t.boundary points) = sensorCondition t := by
  refine congrArg₂ or rfl (someEntry_congr fun i => ?_)
  have hformed : (t.boundary points).channels[i] = formChannel t.short points t.channels[i] :=
    Vector.getElem_ofFn i.isLt
  rw [hformed, formChannel_eq]

theorem boundaryComputed_conditions (s : State) : sensorCondition (boundaryComputed s).tmu = sensorCondition s.tmu ∧
    heaterConditions (boundaryComputed s).hfd = heaterConditions s.hfd ∧
    (∀ i : Fin 3, ((boundaryComputed s).znc.zones[i]).cutOut = zoneCutOut (setFormed s) i) := by
  obtain ⟨-, -, -, -, -, htmu⟩ := boundaryComputed_filter s
  refine ⟨?_, ?_, fun i => ?_⟩
  · rw [htmu, sensorCondition_boundary]
  · have hspeed : ∀ u : State, heaterConditions (measureSpeed u).hfd = heaterConditions u.hfd := fun _ => rfl
    have hzones : ∀ u : State, heaterConditions (zoneComputation u).hfd = heaterConditions u.hfd := fun u => by
      unfold zoneComputation
      dsimp only
      rw [setZnc_hfd, handDemands_conditions]
      rfl
    unfold boundaryComputed
    rw [recomputeFan_conditions, hspeed, hzones, setTmu_hfd]
  · change ((zoneComputation (setFormed s)).znc.zones[i]).cutOut = _
    rw [zoneComputation_zone]

/-- R44, R47, R155. The F8 occurrences of a second boundary come after those of the filter window. -/
theorem recorded_boundary (h : Recorded s) : Recorded (boundaryReported s) := by
  obtain ⟨htmu, hhfd, hcut⟩ := boundaryComputed_conditions s
  obtain ⟨h6, h7, h9⟩ := heaterConditions_eq hhfd
  obtain ⟨-, -, -, htbs, hfcl, -⟩ := boundaryComputed_filter s
  have hm : BlockMoved s (boundaryComputed s) := .of_view
    (by simp only [touchView, boundaryComputed, recomputeFan_keeps]; rfl) (by rw [htbs]) hfcl
  intro j
  by_cases hj : j = 8
  · subst hj
    refine Kind.conditionChanged rfl (Kind.heard_reportAll rfl ?_ fun hl => ?_)
    · exact (kind_steady _ (by decide)).counted (by decide) ((h 8).moving hm)
    · refine (kind_steady _ (by decide)).counted (by decide) ((h 8).ended hm (someEntry_mono fun i hi => ?_))
      rw [hcut] at hi
      exact begun_nil (before := fun i : Fin 3 => (s.znc.zones[i]).cutOut) hl i hi
  · have hsame : faultCondition (boundaryComputed s) j = faultCondition s j :=
      faultCondition_of (fun _ => htmu) (fun _ => h6) (fun _ => h7) (fun hx => absurd hx hj) (fun _ => h9)
        (fun _ => rfl) fun _ => rfl
    have hst := ok_steady j
    exact hst.conditionChanged (.inl (Ne.symm hj)) (hst.reportAll (.inl (Ne.symm hj)) _
      (hst.counted (event_other rfl j) ((h j).moved hm hsame)))

/-! Periods, trips and the fan -/

theorem periodsClosed_channel (peaks : Fin 3 → Nat) (s : State) (i : Fin 3) :
    (periodsClosed peaks s).hfd.channels[i] = closePeriod (peaks i) s.hfd.channels[i] := by
  simp [periodsClosed, closedChannels]

/-- R19, R21, R26. A period's end judges two conditions; that of the trips may end alone. -/
theorem recorded_periods (peaks : Fin 3 → Nat) (h : Recorded s) : Recorded (closePeriods peaks s) := by
  have hm : BlockMoved s (periodsClosed peaks s) := .of_view rfl rfl rfl
  have hcut : cutOuts (periodsClosed peaks s).znc = cutOuts s.znc := someEntry_congr fun i => by
    simp [periodsClosed, syncDegraded]
  rw [closePeriods_eq]
  intro j
  by_cases h6 : j = 6
  · subst h6
    have hst := kind_steady .heard (k := 6) (by decide)
    refine Kind.conditionChanged rfl (hst.conditionChanged (by decide) (hst.reportAll (by decide) _
      ((h 6).ended hm (someEntry_mono fun i hi => ?_))))
    rw [periodsClosed_channel, closePeriod_eq] at hi
    exact (Bool.and_eq_true_iff.1 hi).1
  have hst := ok_steady j
  refine hst.conditionChanged (.inl (Ne.symm h6)) ?_
  by_cases h7 : j = 7
  · subst h7
    refine ((h 7).told_of rfl hm fun hl => someEntry_mono fun i hi => ?_).conditionChanged rfl
    rw [periodsClosed_channel] at hi
    exact begun_nil (before := fun i : Fin 3 => (s.hfd.channels[i]).openLoad)
      (after := fun i => ((closedChannels peaks s.hfd)[i]).openLoad) hl i (by simpa [closedChannels] using hi)
  · have hsame : faultCondition (periodsClosed peaks s) j = faultCondition s j :=
      faultCondition_of (fun _ => rfl) (fun hx => absurd hx h6) (fun hx => absurd hx h7) (fun _ => hcut) (fun _ => rfl)
        (fun _ => rfl) fun _ => rfl
    exact hst.conditionChanged (.inl (Ne.symm h7)) (hst.reportAll (.inl (Ne.symm h7)) _ ((h j).moved hm hsame))

/-- What a report leaves of the conditions of heaters and fan. -/
theorem report_heaterConditions (k : FaultKind) (d : Nat) (s : State) :
    faultCondition (report k d s) 6 = faultCondition s 6 ∧ faultCondition (report k d s) 7 = faultCondition s 7 ∧
      faultCondition (report k d s) 9 = faultCondition s 9 := by
  have hc := (conditions_steady (conditions s)).report (k := k) trivial d rfl
  simp only [conditions, Prod.mk.injEq] at hc
  exact heaterConditions_eq hc.2.1

theorem recorded_tripped (i : Fin 3) (h : Recorded s) : Recorded (report 6 i.val (noteTrip i s)) := by
  have hchannel : ∀ c : Fin 3, (noteTrip i s).hfd.channels[c] =
      if i = c then { s.hfd.channels[c] with tripped := true, tripCondition := true }
      else s.hfd.channels[c] := fun c => by
    by_cases hc : i = c
    · subst hc
      simp [noteTrip, upd]
    · have hne : (i : Nat) ≠ c := fun hv => hc (Fin.ext hv)
      simp [noteTrip, upd, Vector.getElem_set_ne _ _ hne, hc]
  refine h.begun (k := 6) rfl _ (.of_view rfl rfl rfl) (fun j hj => faultCondition_of (fun _ => rfl)
    (fun hx => absurd hx hj) (fun _ => someEntry_congr fun c => ?_) (fun _ => rfl) (fun _ => rfl) (fun _ => rfl)
    fun _ => rfl) ?_
  · rw [hchannel]
    split <;> rfl
  · rw [(report_heaterConditions _ _ _).1]
    refine someEntry_iff.2 ⟨i, ?_⟩
    rw [hchannel, if_pos rfl]

theorem recorded_stalled (h : Recorded s) : Recorded (stallFan s) := by
  refine h.begun (k := 9) rfl 0 (.of_view rfl rfl rfl) (fun j hj => faultCondition_of (fun _ => rfl) (fun _ => rfl)
    (fun _ => rfl) (fun _ => rfl) (fun hx => absurd hx hj) (fun _ => rfl) fun _ => rfl) ?_
  rw [(report_heaterConditions _ _ _).2.2]
  rfl

theorem recorded_spun (h : Recorded s) : Recorded (tachPulse s) := by
  unfold tachPulse
  dsimp only
  (repeat' split)
  · exact fun j => (ok_steady j).view (h j) rfl rfl
  · exact h.judged (k := 9) rfl (.of_view rfl rfl rfl) (fun j hj => faultCondition_of (fun _ => rfl) (fun _ => rfl)
      (fun _ => rfl) (fun _ => rfl) (fun hx => absurd hx hj) (fun _ => rfl) fun _ => rfl) nofun
  · exact fun j => (ok_steady j).view (h j) rfl rfl

/-! Scans -/

theorem touchCondition_mono {u v : Tsu} (hk : ∀ c : Fin 20, (v.keys[c]).faulted = true → (u.keys[c]).faulted = true)
    (hr : ∀ i : Fin 2, (v.refs[i]).faulted = true → (u.refs[i]).faulted = true) (h : touchCondition v = true) :
    touchCondition u = true := by
  unfold touchCondition at *
  rw [Bool.or_eq_true] at *
  exact h.imp (someEntry_mono hk) (someEntry_mono hr)

/-- R108. Where a scan makes no channel FAULTED, the condition does not begin. -/
theorem touchCondition_of_nil {before after : Tsu} (h : faultEntries before after = [])
    (ha : touchCondition after = true) : touchCondition before = true := by
  obtain ⟨hkeys, hrefs⟩ := List.append_eq_nil_iff.1 h
  exact touchCondition_mono (begun_nil hkeys)
    (begun_nil (List.map_eq_nil_iff.2 (List.map_eq_nil_iff.1 hrefs))) ha

/-- R105, R108, R110, R156. A scan tells of two conditions at once. -/
theorem recorded_scan (raw : Vector (BitVec 16) 22) (h : Recorded s) : Recorded (scanInstant raw s) := by
  have hm : BlockMoved s (s.setTsu (scanned raw s)) := ⟨fun hok => hok.scanned raw, rfl, rfl⟩
  have hblind : ∀ {Q : KindProp} {k : FaultKind} {s t : State}, Kind Q k s → senseView t = senseView s → Kind Q k t :=
    fun h hv => h.frame hv
  have hguard : GuardAs (scanned raw s) (scanHanded raw s) :=
    (guardAs_steady _).handAll (fun h hv => guardAs_blind h (touchView_of_senseView hv)) _ _ (guardAs_setTsu _ _)
  have hfaults : FaultsAs (scanned raw s) (scanHanded raw s) :=
    (faultsAs_steady _).handAll (fun h hv => faultsAs_blind h (touchView_of_senseView hv)) _ _
      (hm.touch (h 0).1).faultsAs
  intro j
  rw [scanInstant_eq]
  refine (ok_steady j).frame (quiet_clearIdleSuppressed _) ?_
  unfold scanReports
  have hst := ok_steady j
  by_cases h11 : j = 11
  · subst h11
    have hk := fun Q : KindProp => kind_steady Q (k := 11) (by decide)
    have hheard : Kind .heard 11 (reportAll 11 (faultEntries s.tsu (scanHanded raw s).tsu) (scanHanded raw s)) := by
      refine Kind.heard_reportAll rfl ?_ fun hl => ?_
      · exact (hk _).handAll hblind _ _ ((h 11).moving hm)
      · rw [hfaults.faultEntries] at hl
        exact (hk _).handAll hblind _ _ ((h 11).ended hm (touchCondition_of_nil hl))
    exact hst.conditionChanged (.inl (by decide)) (Kind.conditionChanged rfl
      ((hk _).reportAll (by decide) _ ((hk _).reportAll (by decide) _ hheard)))
  by_cases h13 : j = 13
  · subst h13
    have hk := fun Q : KindProp => kind_steady Q (k := 13) (by decide)
    refine Kind.conditionChanged rfl ((hk _).conditionChanged (by decide) ((hk _).reportAll (by decide) _
      (Kind.heard_reportAll rfl ?_ fun hl => ?_)))
    · exact (hk _).reportAll (by decide) _ ((hk _).handAll hblind _ _ ((h 13).moving hm))
    · refine (hk _).reportAll (by decide) _ ((hk _).handAll hblind _ _ ((h 13).ended hm fun hv => ?_))
      change (scanned raw s).disagreement = true at hv
      change s.tsu.disagreement = true
      rw [hguard.1, hv, Bool.and_true] at hl
      by_contra hb
      rw [Bool.not_eq_true] at hb
      rw [hb] at hl
      exact nomatch hl
  · have hsame : faultCondition (s.setTsu (scanned raw s)) j = faultCondition s j :=
      faultCondition_of (fun _ => rfl) (fun _ => rfl) (fun _ => rfl) (fun _ => rfl) (fun _ => rfl)
        (fun hx => absurd hx h11) fun hx => absurd hx h13
    have hhanded : Kind .ok j (scanHanded raw s) := hst.handAll hblind _ _ ((h j).moved hm hsame)
    exact hst.conditionChanged (.inl (Ne.symm h13)) (hst.conditionChanged (.inl (Ne.symm h11))
      (hst.reportAll (event_other rfl j) _ (hst.reportAll (.inl (Ne.symm h13)) _
        (hst.reportAll (.inl (Ne.symm h11)) _ hhanded))))

/-! Changed tables -/

section
variable {old T : Tables} {named : List Nat}

theorem keysMoved_keymapChanged (old : Tables) (c : Fin 20) (s : State) : KeysMoved s (keymapChanged old c s) := by
  unfold keymapChanged
  dsimp only
  (repeat' split)
  · exact keysMoved_loosenKey ..
  · exact KeysMoved.setKeq (t := s) rfl _
  · exact keysMoved_loosenKey ..
  · rfl

theorem keysMoved_keymapNoticed (old : Tables) (l : List (Fin 20)) (s : State) : KeysMoved s (keymapNoticed old l s) :=
  List.foldlRecOn (motive := fun u => KeysMoved s u) l _ rfl fun u hu c _ => hu.trans (keysMoved_keymapChanged old c u)

/-- R118. Channels that become DISABLED may end the F11 condition. -/
theorem recorded_touchTablesChanged (h : Recorded s) (htsu : t.tsu = s.tsu) (hc : conditions t = conditions s)
    (hr : t.tbs.tables.reactions = s.tbs.tables.reactions) (hf : t.fcl = s.fcl) : Recorded (touchTablesChanged t) := by
  have hcond : conditions (rescan t.tsu.mode t) = conditions s := (conditions_rescan _ t).trans hc
  simp only [conditions, Prod.mk.injEq] at hcond
  obtain ⟨h5, hheat, h8⟩ := hcond
  obtain ⟨h6, h7, h9⟩ := heaterConditions_eq hheat
  have hm : BlockMoved s (rescan t.tsu.mode t) :=
    ⟨fun _ => scannedSetOk_rescan _ _, by simpa using hr, by simpa using hf⟩
  refine h.judged (k := 11) rfl hm
    (fun j hj => faultCondition_of (fun _ => h5) (fun _ => h6) (fun _ => h7) (fun _ => h8) (fun _ => h9)
      (fun hx => absurd hx hj) fun _ => ?_) (touchCondition_mono (fun c hfault => ?_) fun i hfault => ?_)
  · rw [rescan_tsu, htsu]
  · rw [rescan_touchKey, htsu] at hfault
    unfold TouchKey.rescanned TouchKey.toIdle at hfault
    revert hfault
    (repeat' split)
    · exact nofun
    all_goals exact id
  · rw [rescan_tsu, htsu] at hfault
    exact hfault

theorem recorded_noticeHeat (zones : List (Fin 3)) (h : Recorded s) : Recorded (noticeHeat zones s) := by
  have hheat : heaterConditions (heatTold zones s).hfd = heaterConditions s.hfd := by
    unfold heatTold
    rw [recomputeFan_conditions, recomputeDuties_conditions]
    refine heaterConditions_congr (fun i => ?_) Iff.rfl
    rw [zonesChanged_channel]
    split <;> exact ⟨rfl, rfl⟩
  obtain ⟨h6, h7, h9⟩ := heaterConditions_eq hheat
  refine h.reported (k := 8) rfl (.of_view rfl rfl rfl) (fun j hj => faultCondition_of (fun _ => rfl) (fun _ => h6)
    (fun _ => h7) (fun hx => absurd hx hj) (fun _ => h9) (fun _ => rfl) fun _ => rfl) fun hl =>
      someEntry_mono fun i hi => ?_
  change (((zonesChanged zones s).znc.zones)[i]).cutOut = true at hi
  rw [zonesChanged_zone] at hi
  split at hi
  next hn =>
    have hlisted := List.filter_eq_nil_iff.1 (List.map_eq_nil_iff.1 hl) i hn
    have hcut : zoneCutOut s i = true := hi
    rw [hcut, Bool.and_true] at hlisted
    simpa using hlisted
  · exact hi

theorem recorded_noticeCurve (h : Recorded s) : Recorded (noticeCurve s) := by
  refine h.reported (k := 5) rfl (.of_view rfl rfl rfl) (fun j hj => faultCondition_of (fun hx => absurd hx hj)
    (fun _ => rfl) (fun _ => rfl) (fun _ => rfl) (fun _ => rfl) (fun _ => rfl) fun _ => rfl) fun hl hp => ?_
  change (curveShort s.tbs.tables.curve || _) = true at hp
  change (s.tmu.short || _) = true
  rw [Bool.or_eq_true] at hp ⊢
  refine hp.imp_left fun hshort => ?_
  rw [hshort, Bool.true_and] at hl
  by_contra hb
  rw [if_pos (by simpa using hb)] at hl
  exact nomatch hl

/-- R162. A record under another class in force. -/
theorem KindProp.ok_reclassed {before cls : FaultClass} {present : Bool} {r : FaultRecord}
    (h : KindProp.ok before present r) :
    KindProp.ok cls present { r with cls := cls, state := movedState r.cls cls present r.state } := by
  obtain ⟨-, hw, hs⟩ := h
  cases hr : r.cls with
  | hw =>
    have hstate := hw hr
    refine ⟨rfl, ?_, ?_⟩ <;> rintro rfl <;> dsimp only <;> rw [hstate] <;> cases present
    · rfl
    · rfl
    · exact ⟨nofun, nofun⟩
    · exact ⟨nofun, fun _ => rfl⟩
  | sw =>
    obtain ⟨hactive, hlatched⟩ := hs hr
    refine ⟨rfl, ?_, ?_⟩ <;> rintro rfl <;> dsimp only
    · cases hstate : r.state with
      | clear =>
        cases present
        · rfl
        · exact nomatch hstate.symm.trans (hlatched rfl)
      | active => exact absurd hstate hactive
      | latched => rfl
    · cases hstate : r.state <;> rw [hstate] at hactive hlatched <;> exact ⟨hactive, hlatched⟩

end

end
end Sys2Proof.Machine
end

section
/-! O14: the fault indication, the HOLD inhibit and the records over a step, and what the end of a condition does
(R156 to R159, R161, R162, R164). -/

namespace Sys2Proof.Machine

section
variable {k j : FaultKind} {s t : State}

/-! Changed tables and clears -/

theorem faultCondition_setFcl (F : Fcl) (s : State) : faultCondition (s.setFcl F) = faultCondition s :=
  faultCondition_congr rfl rfl rfl

theorem faultCondition_rejudge (s : State) : faultCondition (rejudge s) = faultCondition s := faultCondition_setFcl _ s

theorem getElem_tab {α : Type} {n : Nat} (f : Fin n → α) (i : Fin n) : (tab f)[i] = f i := Vector.getElem_ofFn i.isLt

theorem rejudge_records (s : State) : (rejudge s).fcl.records = s.fcl.records := rfl

section
variable {T : Tables} {named : List Nat}

/-- The tables replaced where T0, T1 and T6 stay. -/
theorem Recorded.replaced {n : Nat} (h : Recorded s) (hT : ChangedAt s.tbs.tables T n named)
    (ht : (n ≠ 0 ∧ n ≠ 1 ∧ n ≠ 6) ∨ named = []) (changed : Vector Bool 7) :
    Recorded (s.setTbs { s.tbs with tables := T, changed := changed }) := fun j => by
  refine (ok_steady j).view (h j) ?_ rfl
  simp only [senseView, setTbs_tbs, hT.keymap_eq (ht.imp_left And.left), hT.chords_eq (ht.imp_left fun h => h.2.1),
    hT.reactions_eq (ht.imp_left fun h => h.2.2)]
  rfl

/-- R118, R137. -/
theorem Recorded.keymapTaken (h : Recorded s) (hT : ChangedAt s.tbs.tables T 0 named) (changed : Vector Bool 7) :
    Recorded (noticeKeymap s.tbs.tables (namedBelow 20 named)
      (s.setTbs { s.tbs with tables := T, changed := changed })) := by
  obtain ⟨hview, -, htbs, htsu⟩ := (keysMoved_keymapNoticed s.tbs.tables (namedBelow 20 named)
    (s.setTbs { s.tbs with tables := T, changed := changed })).view
  simp only [senseView, Prod.mk.injEq] at hview
  obtain ⟨-, -, -, -, hr, hf, hc⟩ := hview
  exact recorded_touchTablesChanged h htsu hc (hr.trans (hT.reactions_eq (.inl (by decide)))) hf

/-- R118, R138. -/
theorem Recorded.chordsTaken (h : Recorded s) (hT : ChangedAt s.tbs.tables T 1 named) (changed : Vector Bool 7) :
    Recorded (noticeChords (namedBelow 8 named) (s.setTbs { s.tbs with tables := T, changed := changed })) :=
  recorded_touchTablesChanged h rfl rfl (hT.reactions_eq (.inl (by decide))) rfl

/-- R162. The record of one kind after a change of T6. -/
theorem KindProp.ok_reactionsTaken {present : Bool} {r : FaultRecord}
    (h : KindProp.ok (reactionInForce s.tbs.tables j).cls present r) (hT : ChangedAt s.tbs.tables T 6 named) :
    KindProp.ok (reactionInForce T j).cls present
      (if (namedBelow 16 named).contains j then
        { r with
          cls := (reactionInForce T j).cls
          state := movedState r.cls (reactionInForce T j).cls present r.state }
      else r) := by
  split
  · exact KindProp.ok_reclassed h
  next hn =>
    have hout : j.val ∉ named := fun hj => hn (List.contains_iff_mem.2 (mem_namedBelow hj))
    unfold reactionInForce
    rw [hT.reactions j fun hx => hout hx.2]
    exact h

/-- R162. The records under the reactions in force, before the two conditions are judged. -/
def reactionsTold (kinds : List FaultKind) (u : State) : State :=
  u.setFcl { u.fcl with records := tab fun k => if kinds.contains k then reclassed u k else u.fcl.records[k] }

theorem noticeReactions_eq (kinds : List FaultKind) (u : State) :
    noticeReactions kinds u = rejudgeRelease (reactionsTold kinds u) := rfl

theorem reactionsTold_keeps (kinds : List FaultKind) (u : State) :
    touchView (rejudge (reactionsTold kinds u)) = touchView u ∧ (rejudge (reactionsTold kinds u)).tbs = u.tbs ∧
    faultCondition (rejudge (reactionsTold kinds u)) = faultCondition u ∧
    (rejudge (reactionsTold kinds u)).fcl.records[j] =
      if kinds.contains j then reclassed u j else u.fcl.records[j] := by
  have hrecords : (reactionsTold kinds u).fcl.records =
      tab fun k => if kinds.contains k then reclassed u k else u.fcl.records[k] := rfl
  refine ⟨by simp [touchView, reactionsTold], by simp [reactionsTold],
    (faultCondition_rejudge _).trans (faultCondition_setFcl _ u), ?_⟩
  rw [rejudge_records, hrecords, getElem_tab]

/-- R162. A record under a class of T6 that may be new. -/
theorem Recorded.reactionsTaken (h : Recorded s) (hT : ChangedAt s.tbs.tables T 6 named) (changed : Vector Bool 7) :
    Recorded (noticeReactions (namedBelow 16 named) (s.setTbs { s.tbs with tables := T, changed := changed })) := by
  have hview : touchView (s.setTbs { s.tbs with tables := T, changed := changed }) = touchView s := by
    simp [touchView, hT.keymap_eq, hT.chords_eq]
  have hcond : faultCondition (s.setTbs { s.tbs with tables := T, changed := changed }) = faultCondition s :=
    faultCondition_congr rfl rfl rfl
  have htables : (s.setTbs { s.tbs with tables := T, changed := changed }).tbs.tables = T := rfl
  have hfcl : (s.setTbs { s.tbs with tables := T, changed := changed }).fcl = s.fcl := rfl
  generalize s.setTbs { s.tbs with tables := T, changed := changed } = u at *
  rw [noticeReactions_eq]
  intro j
  obtain ⟨htouch, htbs, hc, hrec⟩ := reactionsTold_keeps (j := j) (namedBelow 16 named) u
  refine (ok_steady j).rejudgeRelease ⟨scannedSetOk_blind (h j).1 (htouch.trans hview), ?_⟩
  have htaken := KindProp.ok_reactionsTaken (h j).2 hT
  rw [htbs, hc, hrec, hcond, htables, hfcl]
  unfold reclassed
  rw [htables, hfcl, hcond]
  exact htaken

end

theorem Recorded.changed (h : Recorded s) (t : Fin 7) {T : Tables} (named : List Nat)
    (hT : ChangedAt s.tbs.tables T t.val named) : Recorded (changeTables t T named s) := by
  by_cases hn : named = []
  · have hr := h.replaced hT (.inr hn) (s.tbs.changed.set t true)
    subst hn
    exact hr
  have hempty : ¬named.isEmpty = true := by simpa using hn
  by_cases h0 : t = 0
  · subst h0
    rw [show changeTables 0 T named s = noticeKeymap _ _ _ from if_neg hempty]
    exact h.keymapTaken hT _
  by_cases h1 : t = 1
  · subst h1
    rw [show changeTables 1 T named s = noticeChords _ _ from if_neg hempty]
    exact h.chordsTaken hT _
  by_cases h6 : t = 6
  · subst h6
    rw [show changeTables 6 T named s = noticeReactions _ _ from if_neg hempty]
    exact h.reactionsTaken hT _
  have hr := h.replaced hT (.inl ⟨fun h => h0 (Fin.ext h), fun h => h1 (Fin.ext h), fun h => h6 (Fin.ext h)⟩)
    (s.tbs.changed.set t true)
  unfold changeTables notice
  rw [if_neg hempty]
  split
  next hx => exact absurd (Fin.ext hx) h0
  next hx => exact absurd (Fin.ext hx) h1
  · exact recorded_noticeHeat _ hr
  · exact fun j => (ok_steady j).view (hr j) rfl rfl
  · exact recorded_noticeCurve hr
  · exact fun j => (ok_steady j).view (hr j) rfl rfl
  next hx => exact absurd (Fin.ext hx) h6
  · exact hr

/-- R164. -/
theorem recorded_cleared (kind : Nat) (h : Recorded s) : Recorded (rejudge (clearRecords kind s)) := by
  intro j
  have hrec : (rejudge (clearRecords kind s)).fcl.records[j] =
      if (clearedKinds s kind).contains j then (s.fcl.records[j]).cleared else s.fcl.records[j] := by
    have hrecords : (clearRecords kind s).fcl.records =
        tab fun k => if (clearedKinds s kind).contains k then (s.fcl.records[k]).cleared else s.fcl.records[k] := rfl
    rw [rejudge_records, hrecords, getElem_tab]
  have hcond : faultCondition (rejudge (clearRecords kind s)) = faultCondition s := by
    rw [faultCondition_rejudge, clearRecords_eq, faultCondition_setFcl]
  have htbs : (rejudge (clearRecords kind s)).tbs = s.tbs := by simp [clearRecords]
  refine ⟨scannedSetOk_blind (h j).1 (by simp [touchView, clearRecords]), ?_⟩
  rw [hcond, hrec, htbs]
  split
  next hj =>
    have hclear := (List.mem_filter.1 (List.contains_iff_mem.1 hj)).2
    unfold clearable at hclear
    rw [Bool.and_eq_true, Bool.not_eq_true'] at hclear
    rw [hclear.2]
    exact ⟨(h j).2.1, fun _ => rfl, fun _ => ⟨nofun, nofun⟩⟩
  · exact (h j).2

/-! Power-on and time -/

theorem recorded_elapse (n : Nat) (h : Recorded s) : Recorded (elapse n s) := fun j => by
  obtain ⟨-, htmu, hznc, -, hfcl, -, htbs, -⟩ := elapse_keeps n s
  obtain ⟨-, hrefs, hdis, -⟩ := elapse_tsu n s
  have hheat : heaterConditions (elapse n s).hfd = heaterConditions s.hfd := by
    rw [elapse_hfd]
    rfl
  have hc : conditions (elapse n s) = conditions s := by simp only [conditions, htmu, hznc, hheat]
  have ht : touchCondition (elapse n s).tsu = touchCondition s.tsu :=
    congrArg₂ or (someEntry_congr fun c => by rw [(elapse_touchKey n s c).1]) (by rw [hrefs])
  exact (h j).congr (scannedSetOk_kept.elapse n (h j).1) (by rw [htbs])
    (congrFun (faultCondition_congr hc ht hdis) j) (by rw [hfcl])

theorem someEntry_tab_false {α : Type} {n : Nat} {f : Fin n → α} {p : α → Bool} (h : ∀ i, p (f i) = false) :
    someEntry (tab f) p = false :=
  Bool.eq_false_iff.2 fun hs => by
    obtain ⟨i, hi⟩ := someEntry_iff.1 hs
    rw [getElem_tab, h i] at hi
    exact Bool.false_ne_true hi

/-- R12, R153. At power-on a short curve is the one condition that may be present. -/
theorem atPowerOn_condition (rate : Bool) (T : Tables) (load : LoadResult) (image : Image) (pending : List Instr)
    (j : FaultKind) : faultCondition (State.atPowerOn rate T load image pending) j =
      (decide (j = 5) && curveShort T.curve) := by
  cases hk : eventLike j with
  | true =>
    rw [faultCondition_eventLike hk, decide_eq_false fun h => by subst h; exact nomatch hk]
    rfl
  | false =>
    rcases lasting_cases j hk with rfl | rfl | rfl | rfl | rfl | rfl | rfl
    · change (curveShort T.curve || someEntry (tab fun _ => TmuChannel.powerOn) fun c => c.health == .failed) = _
      rw [someEntry_tab_false fun _ => rfl, Bool.or_false]
      rfl
    · exact someEntry_tab_false fun _ => rfl
    · exact someEntry_tab_false fun _ => rfl
    · exact someEntry_tab_false fun _ => rfl
    · rfl
    · change touchCondition (Tsu.powerOn T) = false
      unfold touchCondition Tsu.powerOn
      dsimp only
      rw [someEntry_tab_false fun _ => rfl, someEntry_tab_false fun _ => rfl]
      rfl
    · rfl

theorem atPowerOn_kind {Q : KindProp} (rate : Bool) (T : Tables) (load : LoadResult) (image : Image)
    (pending : List Instr) (j : FaultKind)
    (hQ : ∀ cls, Q cls (decide (j = 5) && curveShort T.curve) (FaultRecord.powerOn cls)) :
    Kind Q j (State.atPowerOn rate T load image pending) := by
  refine ⟨scannedSetOk_kept.started _ _ _ _ _, ?_⟩
  rw [atPowerOn_condition, atPowerOn_record]
  exact hQ _

/-- R166. A record at power-on, its condition absent. -/
theorem KindProp.ok_powerOn (cls : FaultClass) : KindProp.ok cls false (FaultRecord.powerOn cls) :=
  ⟨rfl, fun _ => rfl, fun _ => ⟨nofun, nofun⟩⟩

theorem recorded_atPowerOn (rate : Bool) {T : Tables} (load : LoadResult) (image : Image) (pending : List Instr)
    (hT : curveShort T.curve = false) : Recorded (State.atPowerOn rate T load image pending) := fun j =>
  atPowerOn_kind rate T load image pending j fun cls => by
    rw [hT, Bool.and_false]
    exact KindProp.ok_powerOn cls

theorem defaultCurve_notShort : curveShort defaultTables.curve = false :=
  show curveShort defaultCurve = false by decide +kernel

/-- R18, R166, R193. -/
theorem recorded_powerOn (rate : Bool) (image : Image) (pending : List Instr) :
    Recorded (powerOn rate image pending) := by
  cases hl : image.load with
  | none =>
    rw [powerOn_unusable hl]
    exact fun j => (ok_steady j).occur 0 (event_other rfl j) (recorded_atPowerOn _ _ _ _ defaultCurve_notShort j)
  | some T =>
    rw [powerOn_usable hl]
    dsimp only
    cases hT : curveShort T.curve with
    | false => exact recorded_atPowerOn _ _ _ _ hT
    | true =>
      rw [if_pos rfl]
      intro j
      by_cases hj : j = 5
      · subst hj
        have hbegun : Kind (fun cls present r => KindProp.untold cls present r ∧ present = true) 5
            (State.atPowerOn rate T .retained image pending) :=
          atPowerOn_kind _ _ _ _ _ 5 fun cls => ⟨⟨rfl, fun _ => nofun, fun _ => nofun⟩, by rw [hT]; rfl⟩
        generalize State.atPowerOn rate T .retained image pending = u at *
        obtain ⟨hok, huntold, hpresent⟩ := hbegun
        refine ⟨scannedSetOk_blind hok (by simp [touchView]), ?_⟩
        have hcond : faultCondition (recordOccurrence 5 4 u) 5 = true :=
          (congrArg sensorCondition recordOccurrence_tmu).trans hpresent
        rw [hcond, recordOccurrence_record_same, recordOccurrence_tbs]
        rw [hpresent] at huntold
        exact KindProp.ok_of_heard (KindProp.heard_of_told (KindProp.told_of_occur rfl _ _ huntold))
          fun hx => nomatch hx.2.2
      · refine (ok_steady j).occur 4 (.inl (Ne.symm hj)) (atPowerOn_kind _ _ _ _ _ j fun cls => ?_)
        rw [decide_eq_false hj]
        exact KindProp.ok_powerOn cls

theorem recorded_unpowered (image : Image) (pending : List Instr) : Recorded (unpowered image pending) := fun j => by
  have h := recorded_atPowerOn false .defaults image pending defaultCurve_notShort j
  unfold unpowered
  generalize State.atPowerOn false defaultTables .defaults image pending = u at h
  exact h.frame rfl

/-- R156, R157, R159. Every event tells of the conditions it moves, so every step leaves the records by the rules. -/
theorem recorded_kept : Kept (fun k => eventLike k = true) Recorded where
  frame hq h j := (ok_steady j).frame hq (h j)
  rescan mode _ h j := (ok_steady j).rescan mode (h j)
  decided := rfl
  occur d _ hk h j := (ok_steady j).occur d (event_other hk j) (h j)
  ended hk hc ha h j := (ok_steady j).ended (event_other hk j) hc ha (h j)
  event hk := hk
  elapse n _ h := recorded_elapse n h
  scan raw _ h := recorded_scan raw h
  converted codes _ h := recorded_converted codes h
  boundary h := recorded_boundary h
  periods peaks _ h := recorded_periods peaks h
  tripped i _ h := recorded_tripped i h
  stalled h := recorded_stalled h
  spun h := recorded_spun h
  cleared kind _ h := recorded_cleared kind h
  changed t _ named _ hT h := h.changed t named hT
  poweredOn := recorded_powerOn
  unpowered := recorded_unpowered

/-! Indication and HOLD inhibit -/

/-- R161. What the two conditions read. -/
theorem indicationOk_blind (h : IndicationOk s) (hr : t.tbs.tables.reactions = s.tbs.tables.reactions)
    (hf : t.fcl = s.fcl) : IndicationOk t := by
  unfold IndicationOk someReaction reactionInForce at *
  rw [hr, hf]
  exact h

theorem indicationOk_sensed (h : IndicationOk s) (hv : senseView t = senseView s) : IndicationOk t := by
  simp only [senseView, Prod.mk.injEq] at hv
  obtain ⟨-, -, -, -, hreactions, hfcl, -⟩ := hv
  exact indicationOk_blind h hreactions hfcl

theorem indicationOk_rejudge (s : State) : IndicationOk (rejudge s) := ⟨rfl, rfl⟩

theorem indicationOk_plain : Plain IndicationOk where
  frame hq h := by
    obtain ⟨hv, -⟩ := hq
    exact indicationOk_sensed h hv
  rescan mode _ h := indicationOk_blind h (by simp) (by simp)
  decided := trivial
  occur d s _ _ := by
    unfold recordOccurrence
    dsimp only
    generalize hu : rejudge (setRecord _ _ s) = u
    have h : IndicationOk u := hu ▸ indicationOk_rejudge _
    split
    · exact indicationOk_blind h (by simp) (by simp)
    · exact h
  ended _ _ _ _ := indicationOk_rejudge _
  plain h hv _ := by
    simp only [plainView, Prod.mk.injEq] at hv
    obtain ⟨-, -, -, -, hreactions, hfcl⟩ := hv
    exact indicationOk_blind h hreactions hfcl

theorem indicationOk_touchTablesChanged (h : IndicationOk s) (hr : t.tbs.tables.reactions = s.tbs.tables.reactions)
    (hf : t.fcl = s.fcl) : IndicationOk (touchTablesChanged t) :=
  indicationOk_plain.conditionChanged trivial (indicationOk_blind h (by simpa using hr) (by simpa using hf))

/-- R161. Only a change of T6 moves what the two conditions read, and it judges them. -/
theorem indicationOk_changed (h : IndicationOk s) (t : Fin 7) {T : Tables} (named : List Nat)
    (hT : ChangedAt s.tbs.tables T t.val named) : IndicationOk (changeTables t T named s) := by
  by_cases hn : named = []
  · exact indicationOk_plain.changed hT (.inr hn) h
  have hempty : ¬named.isEmpty = true := by simpa using hn
  by_cases h0 : t = 0
  · subst h0
    obtain ⟨-, -, -, hfcl, htbs⟩ := keymapNoticed_keeps s.tbs.tables (namedBelow 20 named)
      (s.setTbs { s.tbs with tables := T, changed := s.tbs.changed.set 0 true })
    rw [show changeTables 0 T named s = noticeKeymap _ _ _ from if_neg hempty]
    exact indicationOk_touchTablesChanged h
      ((congrArg (fun b => b.tables.reactions) htbs).trans (hT.reactions_eq (.inl (by decide)))) hfcl
  by_cases h1 : t = 1
  · subst h1
    rw [show changeTables 1 T named s = noticeChords _ _ from if_neg hempty]
    exact indicationOk_touchTablesChanged h (hT.reactions_eq (.inl (by decide))) rfl
  by_cases h6 : t = 6
  · subst h6
    rw [show changeTables 6 T named s = noticeReactions _ _ from if_neg hempty]
    exact indicationOk_plain.rejudgeRelease (indicationOk_rejudge _)
  · exact indicationOk_plain.changed hT
      (.inl ⟨fun h => h0 (Fin.ext h), fun h => h1 (Fin.ext h), fun h => h6 (Fin.ext h)⟩) h

theorem indicationOk_atPowerOn (rate : Bool) (T : Tables) (load : LoadResult) (image : Image) (pending : List Instr) :
    IndicationOk (State.atPowerOn rate T load image pending) := by
  have hnone : ∀ p : ReactionEntry → Bool, someReaction (State.atPowerOn rate T load image pending) p = false :=
    fun p => List.any_eq_false.2 fun k _ => by rw [atPowerOn_record]; exact Bool.false_ne_true
  exact ⟨(hnone _).symm, (hnone _).symm⟩

theorem indicationOk_kept : Kept (fun _ => True) IndicationOk where
  toSteady := indicationOk_plain.toSteady
  event _ := trivial
  elapse n s h := indicationOk_blind h (by simp) (by simp)
  scan raw s h := indicationOk_plain.toSteady.scanInstant indicationOk_sensed trivial trivial trivial
    raw (indicationOk_blind h rfl rfl)
  converted codes _ h := indicationOk_plain.converted codes h
  boundary h := indicationOk_plain.boundary h
  periods peaks _ h := indicationOk_plain.periods peaks h
  tripped i _ h := indicationOk_plain.tripped i h
  stalled h := indicationOk_plain.stalled h
  spun h := indicationOk_plain.spun h
  cleared _ _ _ := indicationOk_rejudge _
  changed t _ named _ hT h := indicationOk_changed h t named hT
  poweredOn rate image pending := by
    cases hl : image.load with
    | none =>
      rw [powerOn_unusable hl]
      exact indicationOk_plain.occur 0 trivial (indicationOk_atPowerOn ..)
    | some T =>
      rw [powerOn_usable hl]
      dsimp only
      split
      · exact indicationOk_plain.occur 4 trivial (indicationOk_atPowerOn ..)
      · exact indicationOk_atPowerOn ..
  unpowered image pending :=
    indicationOk_blind (indicationOk_atPowerOn false defaultTables .defaults image pending) rfl rfl

/-! O14 -/

/-- R156. What the end of a lasting condition does to its record, and what else it does. -/
theorem conditionChanged_rows (k : FaultKind) (s : State) :
    (∀ j : Fin 16, j ≠ k → (conditionChanged k s).fcl.records[j] = s.fcl.records[j]) ∧
    ((s.fcl.records[k]).cls = .hw → (s.fcl.records[k]).state = .active → faultCondition s k = false →
      (conditionChanged k s).fcl.records[k] = { s.fcl.records[k] with state := .clear }) ∧
    ((s.fcl.records[k]).cls = .sw ∨ (s.fcl.records[k]).state ≠ .active ∨ faultCondition s k = true →
      conditionChanged k s = s) := by
  refine ⟨fun j hj => conditionChanged_record_ne hj s, fun hc ha hp => ?_, fun h => ?_⟩
  · have hended : conditionChanged k s = rejudgeRelease (setRecord k { s.fcl.records[k] with state := .clear } s) :=
      if_pos ⟨hc, ha, hp⟩
    rw [hended]
    rcases rejudgeRelease_cases (setRecord k { s.fcl.records[k] with state := .clear } s) with ⟨hr, -⟩ | ⟨hr, -⟩ <;>
      rw [hr]
    · rw [rejudge_setRecord_record, if_pos rfl]
    · rw [switchOn_fcl, rejudge_setRecord_record, if_pos rfl]
  · refine if_neg fun ⟨hc, ha, hp⟩ => ?_
    rcases h with h | h | h
    · exact nomatch h.symm.trans hc
    · exact h ha
    · exact Bool.false_ne_true (hp.symm.trans h)

/-- Settles O14: the two conditions by what they read, the records kind by kind against class and condition. -/
theorem everyStepKeepsTheIndication : Obligations.EveryStepKeepsTheIndication := by
  refine ⟨fun _ _ => indicationOk_kept.step, fun s t hok h hst => ?_, fun k s => conditionChanged_rows k s⟩
  have ht := recorded_kept.step ((recordsOk_iff hok).1 h) hst
  exact (recordsOk_iff (ht 0).1).2 ht

end
end Sys2Proof.Machine
end
